-- ==== Sys2Proof/Word.lean ====
section
/-! DEFINITION. The words of the Ridzell 7140: the byte of both links, triples of per-channel values, and the one
saturating sum of the part. Money, counts and film positions are natural numbers, since the part never masks them. -/

namespace Sys2Proof

/-- One byte of a link frame. -/
abbrev Byte := BitVec 8

/-- Three per-channel values, in the order red, green, blue (00_scope.md, 5.2). -/
structure Rgb (α : Type) where
  r : α
  g : α
  b : α
deriving DecidableEq, Repr

/-- The channel values of a triple, each passed through `f`. -/
def Rgb.map {α β : Type} (f : α → β) (c : Rgb α) : Rgb β := ⟨f c.r, f c.g, f c.b⟩

/-- A station, `0` standing for station 1 and `3` for station 4. -/
abbrev St := Fin 4

/-- The upper limit of the 32-bit sums (00_scope.md, 5.1). -/
def top32 : Nat := 4294967295

/-- A sum that stops at 4,294,967,295 and does not wrap (00_scope.md, 5.1). -/
def satAdd (a b : Nat) : Nat := min (a + b) top32

end Sys2Proof
end

