-- ==== Sys2Proof/Syntax.lean ====
section
/-! DEFINITION. The commands of the Ridzell 7140: one constructor for each row of spec/opcode_table.json.
The table's rows have no bits and no fields. A row that is an arrival on a line or a pin carries what arrives; a row
that is a block's next act (taking a frame, carrying out the frame in hand, using a place of the Event Queue) acts on
what State holds and carries nothing. -/

namespace Sys2Proof

/-- Whose WAIT gap passes (R73, R127): the Station Sequencers and the Label Composer keep one each. -/
inductive GapParty where
  | station (st : St)
  | composer
deriving DecidableEq, Repr

/-- The commands. -/
inductive Instr where
  /-- PIN_RESET: a rising edge of nRESET; the levels of the two straps at the edge, and whether CRX was not idle. -/
  | pinReset (addrSel consoleRate crxBusy : Bool)
  /-- HOLD_LINE_RELEASED: the hold line of a station goes from asserted to released. -/
  | holdLineReleased (st : St)
  /-- LINK_FRAME_RECEIVED: bytes arrive on CRX, and `idle` tells that the line then goes idle. -/
  | linkFrameReceived (bytes : List Byte) (idle : Bool)
  /-- RECORD_SENT: the transmitter finishes the frame it sends. -/
  | recordSent
  | classifierTakesFrame
  | expose
  | forward
  | forwardSlotEmptied
  | orderTableWrite
  | deviceTableWrite
  | stationTableWrite
  | stockTableWrite
  | planTableWrite
  | windowTableWrite
  | tariffTableWrite
  | accountTableWrite
  | templateTableWrite
  | standTextWrite
  | orderTableRead
  | deviceTableRead
  | stationTableRead
  | stockTableRead
  | planTableRead
  | windowTableRead
  | tariffTableRead
  | accountTableRead
  | templateTableRead
  | standTextRead
  | orderOpen
  | orderClose
  | orderCancel
  | enable
  | disable
  | abort
  | unload
  | accountRead
  | accountClear
  | faultRead
  | printBarrier
  | statusReadStand
  | statusReadDevicesLow
  | statusReadDevicesHigh
  | restart
  /-- READY_RECEIVED: a frame of kind READY is received on the ring, sync byte to CRC. -/
  | readyReceived (bytes : List Byte)
  /-- ACK_RECEIVED: a frame of kind ACK is received on the ring. -/
  | ackReceived (bytes : List Byte)
  /-- WAIT_RECEIVED: a frame of kind WAIT is received on the ring. -/
  | waitReceived (bytes : List Byte)
  /-- NAK_RECEIVED: a frame of kind NAK is received on the ring. -/
  | nakReceived (bytes : List Byte)
  /-- STATUS_REPLY_RECEIVED: a frame of kind STATUS_REPLY, or of a kind that only the reply to a forwarded frame may
  have, is received on the ring. -/
  | statusReplyReceived (bytes : List Byte)
  /-- STRAY_RING_FRAME: a ring frame that is no reply of the open attempt. -/
  | strayRingFrame (bytes : List Byte)
  | replyWindowExpired
  /-- WAIT_GAP_EXPIRED: the WAIT gap of a requester passes. -/
  | waitGapExpired (party : GapParty)
  /-- IDLE_TIMER_EXPIRED: the idle timer of a Device Table entry expires. -/
  | idleTimerExpired (entry : Fin 16)
  /-- WAKE_TIMER_EXPIRED: the wake timer of a Device Table entry expires. -/
  | wakeTimerExpired (entry : Fin 16)
  | pollTimerExpired (st : St)
  | printPollTimerExpired
  | shotLimitExpired (st : St)
  | advanceLimitExpired (st : St)
  | rewindLimitExpired (st : St)
  | printLimitExpired
  | pendingPostQueued (st : St)
  /-- ORDER_SUMMARY_QUEUED: the held summary of an Order Table entry gets its place. -/
  | orderSummaryQueued (entry : Fin 16)
  | rollOpenQueued (st : St)
  | rollReportQueued (st : St)
  | stripPrintedQueued
  | deviceReportQueued
  | faultNoticeQueued
  | holdLineAsserted (st : St)
  /-- NRESET_LOW: nRESET goes low. -/
  | nresetLow
deriving DecidableEq, Repr

end Sys2Proof
end

