-- ==== Sys2Proof/Config.lean ====
section
/-! DEFINITION. The fixed figures of the part, as the capacity table of 00_scope.md (section 7) lists them. The spec
leaves no figure to the implementation and no result without a value, so there is no opaque constant here. -/

namespace Sys2Proof.Config

/-- The console's address on both links (R165). -/
def consoleAddr : Byte := 0x40

/-- The controller's own address when the ADDR_SEL strap is low (R179). -/
def ownLow : Byte := 0x70

/-- The controller's own address when the ADDR_SEL strap is high (R179). -/
def ownHigh : Byte := 0x71

/-- Buffers of the console receive pool (R162). -/
def poolSize : Nat := 4

/-- Places of the Event Queue (R177). -/
def queuePlaces : Nat := 16

/-- Places of a station's exposure queue, its head included (R17, R68). -/
def stationQueue : Nat := 4

/-- Attempts of a transaction other than WAKE (R146). -/
def attempts : Nat := 3

/-- The consecutive WAIT that ends an operation (R73, R127). -/
def waitLimit : Nat := 200

/-- The WAIT gap in milliseconds (R73). -/
def waitGapMs : Nat := 5

/-- The reply window in milliseconds (R144). -/
def replyWindowMs : Nat := 20

/-- The operation poll interval in milliseconds (R77, R128). -/
def pollMs : Nat := 50

/-- The idle poll interval in milliseconds (R151). -/
def idlePollMs : Nat := 500

/-- The wake interval in milliseconds (R140). -/
def wakeMs : Nat := 2000

/-- The advance limit in milliseconds (R79). -/
def advanceLimitMs : Nat := 3000

/-- The rewind limit in milliseconds (R38). -/
def rewindLimitMs : Nat := 60000

/-- The print limit in milliseconds (R127). -/
def printLimitMs : Nat := 2000

end Sys2Proof.Config
end

