-- ==== Sys2Proof/Machine/State.lean ====
section
/-! DEFINITION. The state of the Ridzell 7140 as plain data, block by block, in the words of the spec, and the state
after a pin reset (R19, R21, R42, R57, R60, R62, R88, R91, R94, R111, R113, R134, R158, R180, R181, R199). -/

namespace Sys2Proof.Machine

/-! ### Codes that blocks exchange -/

/-- The answer codes of a RESULT (8.5, table of result codes). -/
inductive Result where
  | done | busy | badAddress | badKind | badLength | badField | noEntry | tableFull | inUse | protectedDevice | wrongState
  | wrongStation | deviceDown | noAccount | noTariff | budget | queueFull | belowUse | cancelled
deriving DecidableEq, Repr

/-- The class of a ring device (R137). -/
inductive DevClass where
  | camera | lamp | printer | other
deriving DecidableEq, Repr

/-- The link state of a device (7.3). WAKING remembers whether the entry was LOST (true) or ABSENT before. -/
inductive LinkState where
  | absent
  | waking (wasLost : Bool)
  | up
  | lost
deriving DecidableEq, Repr

/-- The outcome of an exposure request (R83). -/
inductive RequestOutcome where
  | complete | aborted | mismatch | budget | tooManyFrames
deriving DecidableEq, Repr

/-- Why a roll closes (2.7). -/
inductive CloseReason where
  | unloaded | mismatch | restart
deriving DecidableEq, Repr

/-- The fault kinds (R197). -/
inductive FaultKind where
  | noReply | waitLimit | deviceNak | opTimeout | classMismatch | gateMismatch | lampFail | printerJam
deriving DecidableEq, Repr

/-- A fault record (9.6); station, order, frame and NAK reason may be absent. -/
structure FaultRecord where
  kind : FaultKind
  address : Byte
  frameKind : Byte
  station : Option St
  order : Option Nat
  frame : Option Nat
  nakReason : Option Byte
deriving DecidableEq, Repr

/-- A link frame of either link, less its sync byte, length and CRC, which it determines (10.1). -/
structure LinkFrame where
  dst : Byte
  src : Byte
  kind : Byte
  tag : Byte
  payload : List Byte
deriving DecidableEq, Repr

/-! ### Tables -/

/-- A Device Table entry (7.2). -/
structure Device where
  addr : Byte
  cls : DevClass
  link : LinkState
  failedWakes : Nat
  tag : Byte
  busy : Bool
  /-- The 500 ms idle timer runs (R151). -/
  idleTimer : Bool
  /-- The 2000 ms wake timer runs (R140). -/
  wakeTimer : Bool
  /-- The entry is in the due set for a wake (R152). -/
  dueWake : Bool
  /-- The entry is in the due set for a poll (R152). -/
  duePoll : Bool
  mismatchNoted : Bool
deriving DecidableEq, Repr

/-- The two devices that a Station Table entry binds (4.2). -/
structure Binding where
  camera : Byte
  lamp : Byte
deriving DecidableEq, Repr

/-- A Station Table entry: empty or present, and the enabled flag (R60). -/
structure StationEntry where
  binding : Option Binding
  enabled : Bool
deriving DecidableEq, Repr

/-- A Stock Table entry (2.1). -/
structure Stock where
  code : Nat
  length : Nat
  tRef : Nat
  balance : Rgb Int
  tMin : Nat
  tMax : Nat
  knee : Nat
  slope : Nat
deriving DecidableEq, Repr

/-- A step of a plan: its offset in thirds and its channel set (4.1). -/
structure PlanStep where
  offset : Int
  channels : Rgb Bool
deriving DecidableEq, Repr

/-- A window of the Window Table (5.2). -/
structure Window where
  base : BitVec 24
  mask : BitVec 24
  cls : Fin 8
  enabled : Bool
deriving DecidableEq, Repr

/-- A class of the Tariff Table (5.3). -/
structure Tariff where
  framePrice : Nat
  labelFee : Nat
  share : Nat
  setupFee : Nat
deriving DecidableEq, Repr

/-- An entry of the Account Table (5.4); no ceiling means unlimited. -/
structure Account where
  number : Nat
  ceiling : Option Nat
  spent : Nat
  held : Nat
  openOrders : Nat
deriving DecidableEq, Repr

/-- What a template item renders (R115). -/
inductive ItemKind where
  | literal (text : List Byte)
  | course | title | order | original | stepmark | frame | roll | date | stand
deriving DecidableEq, Repr

/-- An item of a template (6.1); `line` is 1 or 2. -/
structure Item where
  line : Nat
  kind : ItemKind
deriving DecidableEq, Repr

/-- The Stand Text record (R113). -/
structure StandText where
  name : List Byte
  date : List Byte
deriving DecidableEq, Repr

/-! ### Events, records and the Event Queue -/

/-- How a forwarded frame ended (R207). -/
inductive ForwardOutcome where
  | replied (copy : LinkFrame)
  | noReply
deriving DecidableEq, Repr

/-- The events (10.7). -/
inductive Event where
  | requestDone (order original first count exposed spoiled : Nat) (outcome : RequestOutcome)
  | rollReport (st : St) (roll stock : Nat) (reason : CloseReason) (used exposed spoiled : Nat) (strip : Bool)
  | orderSummary (order account : Nat) (cls : Fin 8) (cancelled : Bool) (reserved exposed spoiled : Nat)
      (charged : Bool) (setupAmount chargedTotal : Nat)
  | stripPrinted (st : St) (roll : Nat) (reason : CloseReason) (labels reprints : Nat)
  | rollOpen (st : St) (roll stock length : Nat)
  | unknownStock (st : St) (stock gate : Nat)
  | rollUnusable (st : St) (stock gate : Nat)
  | cameraReport (address : Byte) (flags gate : Byte)
  | deviceReport (address : Byte) (cls : DevClass) (condition : Byte) (items : List Byte)
  | forwardReply (outcome : ForwardOutcome)
  | faultNotice (record : FaultRecord)
deriving DecidableEq, Repr

/-- A record of the Event Queue: an answer or an event, with its tag (R177). -/
inductive Record where
  | result (tag : Byte) (code : Result) (data : List Byte)
  | event (tag : Byte) (event : Event)
deriving DecidableEq, Repr

/-- The parties that wait for a place (R178). -/
inductive Waiter where
  | requestDone (st : St)
  | orderSummary (entry : Fin 16)
  | rollOpen (st : St)
  | rollReport (st : St)
  | stripPrinted
  | deviceReport
  | faultNotice
  | classifier
deriving DecidableEq, Repr

/-- The Event Queue (8.7). `given` holds, in order, the waiters that have been given a place and have not yet used it. -/
structure EventQueue where
  records : List Record
  reserved : Nat
  given : List Waiter
  waiters : List Waiter
deriving DecidableEq, Repr

/-! ### Orders -/

/-- The fields that ORDER_OPEN sets (R2). -/
structure OrderTerms where
  number : Nat
  account : Nat
  plan : Fin 8
  template : Fin 4
  station : St
  copies : Nat
  trim : Rgb Int
  course : List Byte
  title : List Byte
deriving DecidableEq, Repr

/-- An order that is not FREE (1.1): OPEN when `closing` is clear, CLOSING when it is set. A title of length 0 is an
absent title. `summary` is the built ORDER_SUMMARY that waits while the summary pending flag is set (R13). -/
structure Order where
  terms : OrderTerms
  cls : Fin 8
  setupAmount : Nat
  settled : Bool
  reserved : Nat
  exposed : Nat
  spoiled : Nat
  charged : Nat
  outstanding : Nat
  closing : Bool
  cancelling : Bool
  closingTag : Option Byte
  summaryPending : Bool
  summary : Option Event
deriving DecidableEq, Repr

/-! ### Rolls -/

/-- A clamp mark: none, LOW, HIGH or both (R51). -/
structure Mark where
  low : Bool
  high : Bool
deriving DecidableEq, Repr

/-- Why a frame was spoiled (2.3). -/
inductive SpoilReason where
  | aborted | uncertain | lamp
deriving DecidableEq, Repr

/-- The state of a frame record (2.3). -/
inductive FrameState where
  | reserved
  | exposed
  | spoiled (reason : SpoilReason)
deriving DecidableEq, Repr

/-- A frame record (2.3). -/
structure FrameRec where
  number : Nat
  state : FrameState
  order : Nat
  original : Nat
  step : Nat
  copy : Nat
  nominal : Bool
  times : Rgb Nat
  marks : Rgb Mark
  hold : Nat
  slot : Fin 320
deriving DecidableEq, Repr

/-- A Roll Map (2.3). `opening` is set while its ROLL_OPEN waits for room (R25); `closing` is present from step 1 of a
close on (R40). -/
structure RollMap where
  stock : Nat
  length : Nat
  roll : Nat
  gate : Nat
  next : Nat
  header : Option (Fin 320)
  frames : List FrameRec
  opening : Bool
  closing : Option CloseReason
deriving DecidableEq, Repr

/-- The roll record of a station (2.2). -/
structure RollRec where
  map : Option RollMap
  counter : Nat
  removalRequired : Bool
  insertionReported : Bool
  headerRequest : Bool
  lastClose : Option CloseReason
deriving DecidableEq, Repr

/-! ### Stations -/

/-- The state of a station, with the waiting reason (4.3). -/
inductive StationState where
  | disabled | offline | noRoll | ready | running | held | waitingFilm | waitingLabels | unloading | suspended
deriving DecidableEq, Repr

/-- The phases of a frame (4.6). -/
inductive Phase where
  | lampSet | shoot | shotWait | advance | advanceWait
deriving DecidableEq, Repr

/-- The state of a request (4.5). -/
inductive RequestState where
  | queued | waitingFilm | waitingLabels | running | suspended
deriving DecidableEq, Repr

/-- The frames a request has reserved (4.5). -/
structure Reserved where
  roll : Nat
  first : Nat
  count : Nat
deriving DecidableEq, Repr

/-- A request record of an exposure queue (4.5). -/
structure Request where
  order : Nat
  original : Nat
  index : Rgb Int
  marks : Rgb Mark
  tag : Byte
  state : RequestState
  frames : Option Reserved
  step : Nat
  copy : Nat
  exposed : Nat
  spoiled : Nat
  abort : Bool
  outcome : Option RequestOutcome
deriving DecidableEq, Repr

/-- Where a suspended station stood (9.1). -/
inductive SuspendedPhase where
  | boundary | lampSet | shoot | shotWait | advance | advanceWait | unload
deriving DecidableEq, Repr

/-- The progress of a resume (9.1); SETTLING names the phase of the settling transaction, ADVANCE or ADVANCE_WAIT (R189). -/
inductive ResumeStep where
  | awaiting
  | checking
  | settlingAdvance
  | settlingAdvanceWait
deriving DecidableEq, Repr

/-- The suspension record (9.1); the noted SHOT carries its lamp-fault flag. -/
structure Suspension where
  phase : SuspendedPhase
  requestHeld : Bool
  releaseOwed : Bool
  notedShot : Option Bool
  step : ResumeStep
deriving DecidableEq, Repr

/-- What a ring transaction is for, so that its ending reaches the right rule (R73, R127, R152, R168). -/
inductive Purpose where
  | lampSet | shoot | shotPoll | advance | advancePoll | rewind | rewindPoll | rollCheck | resumeCheck
  | settleAdvance | settlePoll | print | printPoll | wake | idlePoll | forwarded
deriving DecidableEq, Repr

/-- The station record (4.3) with its suspension record (9.1). The state of a timer is whether it runs; the shot limit
carries its length in milliseconds. `gap` is the WAIT gap: present while it runs, for the transaction to be asked again.
`leftUp` notes that a bound device left UP while a post was pending (R84). -/
structure Station where
  state : StationState
  queue : List Request
  phase : Option Phase
  rollCheck : Bool
  rollEnd : Bool
  pendingPost : Option Event
  pollTimer : Bool
  shotLimit : Option Nat
  advanceLimit : Bool
  rewindLimit : Bool
  gap : Option Purpose
  waits : Nat
  leftUp : Bool
  susp : Suspension
deriving DecidableEq, Repr

/-! ### Label Composer -/

/-- What a label slot is tied to (6.3). -/
inductive Tie where
  | header (st : St)
  | frame (st : St) (number : Nat)
deriving DecidableEq, Repr

/-- The two lines of a label (6.2). -/
structure Lines where
  one : List Byte
  two : List Byte
deriving DecidableEq, Repr

/-- A slot of the Label Store (6.3). -/
inductive Slot where
  | free
  | reserved (tie : Tie)
  | composed (tie : Tie) (lines : Lines)
  | queued (lines : Lines)
deriving DecidableEq, Repr

/-- A released strip (R124); `next` counts from 0. -/
structure Strip where
  st : St
  roll : Nat
  reason : CloseReason
  labels : List (Fin 320)
  next : Nat
  reprints : Nat
deriving DecidableEq, Repr

/-- The condition of the printer (R125). -/
inductive Condition where
  | ready | busy | outOfStock | jam
deriving DecidableEq, Repr

/-- Why printing stands (6.4); `busy` is the reason that a report of BUSY without PRINTED gives (R129). -/
inductive PauseReason where
  | outOfStock | jam | refused | timeout | lost | busy
deriving DecidableEq, Repr

/-- The print state (6.4). -/
inductive PrintState where
  | idle | noPrinter | sending | confirming
  | paused (reason : PauseReason)
  | posting
deriving DecidableEq, Repr

/-- The Label Composer (Chapter 6). `sent` tells that a PRINT of the current label has been sent, `again` that the PRINT
asked for follows a pause (R127), `heldPause` the pause that a finishing report put on the next strip (R131). -/
structure Composer where
  templates : Vector (List Item) 4
  stand : StandText
  slots : Vector Slot 320
  strips : List Strip
  headerList : List St
  labelWaiters : List (St × Nat)
  print : PrintState
  sent : Bool
  again : Bool
  heldPause : Option PauseReason
  printLimit : Bool
  pollTimer : Bool
  gap : Option Purpose
  waits : Nat
  condition : Option Condition
  attention : Bool
  pendingPost : Option Event
  barrierCount : Option Nat
deriving DecidableEq, Repr

/-! ### Ring Port -/

/-- The seven requesters of the ring (R148). -/
inductive Requester where
  | forward
  | station (st : St)
  | composer
  | idlePoller
deriving DecidableEq, Repr

/-- A standing ask of a Station Sequencer or of the Label Composer (R148). -/
structure Ask where
  address : Byte
  kind : Byte
  payload : List Byte
  purpose : Purpose
deriving DecidableEq, Repr

/-- The transaction that the engine runs (R144). `orphan`: its Device Table entry has been removed (R139). `void`: a
RESTART was taken meanwhile (R159). `detached`: its station or the Composer no longer acts on its ending (R67, R184).
`opened`: the last attempt whose reply window has opened; while it lies below `attempt`, the frame is being sent. -/
structure Transaction where
  requester : Requester
  entry : Fin 16
  cls : DevClass
  purpose : Purpose
  request : LinkFrame
  attempt : Nat
  orphan : Bool
  void : Bool
  detached : Bool
  opened : Nat
deriving DecidableEq, Repr

/-- The Ring Port besides its Device Table and forward slot (Chapter 7). `heldReports` are the DEVICE_REPORT events that
wait for room. -/
structure Ring where
  asks : Vector (Option Ask) 4
  composerAsk : Option Ask
  engine : Option Transaction
  lastGranted : Requester
  lastServed : Fin 16
  heldReports : List Event
deriving DecidableEq, Repr

/-- The forward slot (8.4). -/
inductive ForwardSlot where
  | empty
  | asking (frame : LinkFrame)
  | running (frame : LinkFrame)
deriving DecidableEq, Repr

/-! ### Console side -/

/-- What the receiver does with the bytes it takes (R160 to R163): no buffer claimed yet, a buffer claimed, the holding
stage in use, or everything discarded up to the next idle. -/
inductive RxStage where
  | unclaimed | buffered | holding | skipping
deriving DecidableEq, Repr

/-- The console receiver: the bytes taken since the line was last idle. -/
structure Receiver where
  bytes : List Byte
  stage : RxStage
deriving DecidableEq, Repr

/-- The frame that the transmitter sends, and whether it holds a place of the Event Queue. -/
structure Sending where
  frame : LinkFrame
  holdsPlace : Bool
deriving DecidableEq, Repr

/-- The Console Port (8.2). `pool` holds the accepted frames that wait, oldest first. `busy` is the pending BUSY: tag and
kind. `beforeBusy` counts the records that go before a BUSY (R176). -/
structure ConsolePort where
  rx : Receiver
  pool : List LinkFrame
  busy : Option (Byte × Byte)
  sending : Option Sending
  beforeBusy : Nat
deriving DecidableEq, Repr

/-- The path chosen for the frame in hand (8.3). A held frame waits for the forward slot to become EMPTY (R168). -/
inductive Path where
  | manage | intercept | forward | held
deriving DecidableEq, Repr

/-- The Frame Classifier's frame in hand (R164). -/
structure InHand where
  frame : LinkFrame
  path : Path
deriving DecidableEq, Repr

/-- The capture's FAULT_NOTICE (9.6). -/
inductive Notice where
  | none | waiting | posted
deriving DecidableEq, Repr

/-- The Fault Capture (9.6). -/
structure Capture where
  record : Option FaultRecord
  lost : Bool
  notice : Notice
deriving DecidableEq, Repr

/-- The logic pins that State holds: the latched straps (R179), the hold lines (R82; true while asserted) and whether
nRESET is low (R180). -/
structure Pins where
  addrSel : Bool
  consoleRate : Bool
  hold : Vector Bool 4
  nresetLow : Bool
deriving DecidableEq, Repr

/-- The controller, and the commands that wait. -/
structure State where
  pins : Pins
  port : ConsolePort
  inHand : Option InHand
  /-- The deferred-reply slot of the Management Unit: the tag of a pending print barrier (8.5). -/
  deferred : Option Byte
  eq : EventQueue
  orders : Vector (Option Order) 16
  stocks : Vector (Option Stock) 8
  plans : Vector (Option (List PlanStep)) 8
  bindings : Vector StationEntry 4
  stations : Vector Station 4
  rolls : Vector RollRec 4
  windows : Vector (Option Window) 8
  tariffs : Vector (Option Tariff) 8
  accounts : Vector (Option Account) 32
  composer : Composer
  devices : Vector (Option Device) 16
  ring : Ring
  slot : ForwardSlot
  capture : Capture
  /-- The commands that wait, first in, first out. -/
  pending : List Instr
deriving DecidableEq, Repr

/-- The faults of the machine: none. The spec gives every command an effect in every state, so nothing stops it. -/
inductive Fault where
deriving DecidableEq, Repr

/-- The refusals of the machine. -/
inductive Refusal where
  /-- Raised by the dispatch alone, for a command that has no meaning yet; safe. No arm raises it. -/
  | notModelled (mnemonic : String)
deriving DecidableEq, Repr

/-! ### Reset -/

/-- A cleared suspension record (R181). -/
def Suspension.clear : Suspension := ⟨.boundary, false, false, none, .awaiting⟩

/-- A station after a pin reset (R62, R181). -/
def Station.reset : Station :=
  { state := .disabled, queue := [], phase := none, rollCheck := false, rollEnd := false, pendingPost := none
    pollTimer := false, shotLimit := none, advanceLimit := false, rewindLimit := false, gap := none, waits := 0
    leftUp := false, susp := Suspension.clear }

/-- A roll record after a pin reset (R42). -/
def RollRec.reset : RollRec :=
  { map := none, counter := 0, removalRequired := false, insertionReported := false, headerRequest := false
    lastClose := none }

/-- The Label Composer after a pin reset (R111, R113, R134). -/
def Composer.reset : Composer :=
  { templates := Vector.replicate 4 [], stand := ⟨[], []⟩, slots := Vector.replicate 320 .free, strips := []
    headerList := [], labelWaiters := [], print := .idle, sent := false, again := false, heldPause := none
    printLimit := false, pollTimer := false, gap := none, waits := 0, condition := none, attention := false
    pendingPost := none, barrierCount := none }

/-- The Ring Port after a pin reset (R158). -/
def Ring.reset : Ring :=
  { asks := Vector.replicate 4 none, composerAsk := none, engine := none, lastGranted := .idlePoller
    lastServed := 15, heldReports := [] }

/-- The machine right after a pin reset, with both straps latched low and the hold lines released (see the assumption
log for these two). -/
def State.reset : State :=
  { pins := ⟨false, false, Vector.replicate 4 false, false⟩
    port := ⟨⟨[], .unclaimed⟩, [], none, none, 0⟩
    inHand := none
    deferred := none
    eq := ⟨[], 0, [], []⟩
    orders := Vector.replicate 16 none
    stocks := Vector.replicate 8 none
    plans := Vector.replicate 8 none
    bindings := Vector.replicate 4 ⟨none, false⟩
    stations := Vector.replicate 4 Station.reset
    rolls := Vector.replicate 4 RollRec.reset
    windows := Vector.replicate 8 none
    tariffs := Vector.replicate 8 none
    accounts := Vector.replicate 32 none
    composer := Composer.reset
    devices := Vector.replicate 16 none
    ring := Ring.reset
    slot := .empty
    capture := ⟨none, false, .none⟩
    pending := [] }

end Sys2Proof.Machine
end

