-- ==== Sys2Proof/Machine/Exposure.lean ====
section
/-! DEFINITION. The Exposure Calculator (Chapter 3): lamp times, clamp marks and the shot limit. -/

namespace Sys2Proof.Machine

/-- No mark. -/
def Mark.none : Mark := ⟨false, false⟩

/-- Marks accumulate (R51). -/
def Mark.join (a b : Mark) : Mark := ⟨a.low || b.low, a.high || b.high⟩

/-- Whether a channel carries any mark. -/
def Mark.any (m : Mark) : Bool := m.low || m.high

/-- A value clamped to `lo..hi`. -/
def clampInt (lo hi z : Int) : Int := if z < lo then lo else if hi < z then hi else z

/-- The mark of a value cut into `lo..hi`: LOW when it was below, HIGH when it was above. -/
def cutMark (lo hi z : Int) : Mark := ⟨decide (z < lo), decide (hi < z)⟩

/-- The exposure index as the request record stores it (R15, R68). -/
def admitIndex (z : Int) : Int := clampInt (-144) 144 z

/-- The admission mark (R68). -/
def admitMark (z : Int) : Mark := cutMark (-144) 144 z

/-- The level sum before saturation (R44). -/
def levelSum (index balance trim offset : Int) (inSet : Bool) : Int :=
  index + balance + trim + 4 * offset * (if inSet then 1 else 0)

/-- The whole stops of a level, rounded toward minus infinity (R45). -/
def stops (level : Int) : Int := level / 12

/-- The twelfths of a level (R45). -/
def twelfths (level : Int) : Nat := (level % 12).toNat

/-- The fixed mantissa table (R46). -/
def mantissaTable : List Nat :=
  [32768, 34716, 36781, 38968, 41285, 43740, 46341, 49097, 52016, 55109, 58386, 61858]

/-- The mantissa of a number of twelfths (R46). -/
def mantissa (r : Nat) : Nat := mantissaTable.getD r 32768

/-- Stage 4: the reference time scaled by the mantissa, rounded half up (R47). -/
def scale (tRef r : Nat) : Nat := (tRef * mantissa r + 16384) / 32768

/-- The product of the upward shift, or the rounded quotient of the downward shift, before saturation (R48). -/
def shifted (a : Nat) (q : Int) : Nat :=
  if 0 ≤ q then a * 2 ^ q.toNat else (a + 2 ^ ((-q).toNat - 1)) / 2 ^ (-q).toNat

/-- Stage 5: the stop shift, saturated at 65535 (R48). -/
def stopShift (a : Nat) (q : Int) : Nat := min (shifted a q) 65535

/-- Stage 6: the reciprocity correction above the knee (R49). -/
def reciprocity (b knee slope : Nat) : Nat :=
  if knee < b then knee + ((b - knee) * slope + 128) / 256 else b

/-- Stage 7: the time in the stock's usable range (R50). -/
def limitTime (c tMin tMax : Nat) : Nat := if tMax < c then tMax else if c < tMin then tMin else c

/-- One channel through the seven stages (R43 to R51): the lamp time, and the marks with the admission mark in them. -/
def channelTime (stock : Stock) (balance index trim offset : Int) (inSet : Bool) (admission : Mark) : Nat × Mark :=
  let sum := levelSum index balance trim offset inSet
  let level := clampInt (-144) 144 sum
  let b := shifted (scale stock.tRef (twelfths level)) (stops level)
  let c := reciprocity (min b 65535) stock.knee stock.slope
  (limitTime c stock.tMin stock.tMax,
    (((admission.join (cutMark (-144) 144 sum)).join ⟨false, decide (65535 < b)⟩).join
      ⟨decide (c < stock.tMin), decide (stock.tMax < c)⟩))

/-- One step's result: three lamp times and three clamp marks (R43). -/
def stepTimes (stock : Stock) (trim index : Rgb Int) (admission : Rgb Mark) (step : PlanStep) : Rgb Nat × Rgb Mark :=
  let r := channelTime stock stock.balance.r index.r trim.r step.offset step.channels.r admission.r
  let g := channelTime stock stock.balance.g index.g trim.g step.offset step.channels.g admission.g
  let b := channelTime stock stock.balance.b index.b trim.b step.offset step.channels.b admission.b
  (⟨r.1, g.1, b.1⟩, ⟨r.2, g.2, b.2⟩)

/-- The shot limit of a frame in milliseconds (R52). -/
def shotLimitMs (times : Rgb Nat) : Nat := (times.r + times.g + times.b + 9) / 10 + 2000

/-- Whether a step is the nominal step of its plan: offset 0 on all three channels (R57). -/
def PlanStep.isNominal (p : PlanStep) : Bool :=
  decide (p.offset = 0) && p.channels.r && p.channels.g && p.channels.b

end Sys2Proof.Machine
end

