-- ==== Sys2Proof/Machine/Link.lean ====
section
/-! DEFINITION. Link frames: the codes of 10.2, the byte order of R201, the CRC and the layout of R160, and the receive
faults of R161. -/

namespace Sys2Proof.Machine

/-! ### Kind codes (10.2) -/

def kindWake : Byte := 0x01
def kindStatus : Byte := 0x02
def kindLampSet : Byte := 0x03
def kindShoot : Byte := 0x04
def kindAdvance : Byte := 0x05
def kindRewind : Byte := 0x06
def kindPrint : Byte := 0x07
def kindReady : Byte := 0x10
def kindAck : Byte := 0x11
def kindWait : Byte := 0x12
def kindNak : Byte := 0x13
def kindStatusReply : Byte := 0x14
def kindExpose : Byte := 0x20
def kindTableWrite : Byte := 0x21
def kindTableRead : Byte := 0x22
def kindOrderOpen : Byte := 0x23
def kindOrderClose : Byte := 0x24
def kindOrderCancel : Byte := 0x25
def kindStationControl : Byte := 0x26
def kindAccountRead : Byte := 0x27
def kindAccountClear : Byte := 0x28
def kindFaultRead : Byte := 0x29
def kindPrintBarrier : Byte := 0x2A
def kindStatusRead : Byte := 0x2B
def kindRestart : Byte := 0x2C
def kindResult : Byte := 0x30
def kindEvent : Byte := 0x31

/-- The management kinds (R165): 21h..2Ch. -/
def isManagementKind (k : Byte) : Bool := decide (0x21 ≤ k.toNat) && decide (k.toNat ≤ 0x2C)

/-- The free kinds (R166): 40h..5Fh. -/
def isFreeKind (k : Byte) : Bool := decide (0x40 ≤ k.toNat) && decide (k.toNat ≤ 0x5F)

/-- The kinds that a console frame for a device may have, WAKE and EXPOSE apart (R166). -/
def isForwardableKind (k : Byte) : Bool :=
  k == kindStatus || k == kindLampSet || k == kindShoot || k == kindAdvance || k == kindRewind || k == kindPrint
    || isFreeKind k

/-- The kinds of a device's replies (10.2). -/
def isReplyKind (k : Byte) : Bool :=
  k == kindReady || k == kindAck || k == kindWait || k == kindNak || k == kindStatusReply

/-- A ring device's address (R165): 01h..3Fh. -/
def isRingAddress (a : Byte) : Bool := decide (0x01 ≤ a.toNat) && decide (a.toNat ≤ 0x3F)

/-! ### Numeric fields (R201) -/

/-- The low byte of a number. -/
def u8 (n : Nat) : Byte := BitVec.ofNat 8 n

/-- A two-byte quantity, high byte first. -/
def be16 (n : Nat) : List Byte := [u8 (n / 256), u8 n]

/-- A three-byte quantity, high byte first. -/
def be24 (n : Nat) : List Byte := [u8 (n / 65536), u8 (n / 256), u8 n]

/-- A four-byte quantity, high byte first. -/
def be32 (n : Nat) : List Byte := [u8 (n / 16777216), u8 (n / 65536), u8 (n / 256), u8 n]

/-- A signed byte in two's complement. -/
def s8 (z : Int) : Byte := BitVec.ofInt 8 z

/-- A flag byte that the controller sends: 00h or 01h (R205). -/
def flag (b : Bool) : Byte := if b then 1 else 0

/-- The value of two bytes, high byte first. -/
def rd16 (a b : Byte) : Nat := a.toNat * 256 + b.toNat

/-- The value of three bytes, high byte first. -/
def rd24 (a b c : Byte) : Nat := (a.toNat * 256 + b.toNat) * 256 + c.toNat

/-- The value of four bytes, high byte first. -/
def rd32 (a b c d : Byte) : Nat := ((a.toNat * 256 + b.toNat) * 256 + c.toNat) * 256 + d.toNat

/-- The value of a signed byte. -/
def rdS8 (a : Byte) : Int := a.toInt

/-- The value of a signed two-byte quantity. -/
def rdS16 (a b : Byte) : Int := (a ++ b).toInt

/-! ### CRC and layout (R160) -/

/-- One bit of the CRC: polynomial x^16 + x^12 + x^5 + 1, most significant bit first. -/
def crcBit (c : BitVec 16) : BitVec 16 := if c.msb then (c <<< 1) ^^^ 0x1021 else c <<< 1

/-- One byte fed into the CRC register. -/
def crcByte (c : BitVec 16) (b : Byte) : BitVec 16 :=
  (List.range 8).foldl (fun c _ => crcBit c) (c ^^^ (b.zeroExtend 16 <<< 8))

/-- The CRC of a sequence of bytes: initial value FFFFh, no final XOR. -/
def crc16 (bs : List Byte) : BitVec 16 := bs.foldl crcByte 0xFFFF

/-- The bytes that the CRC covers: from the length byte to the last payload byte. -/
def LinkFrame.covered (f : LinkFrame) : List Byte :=
  [u8 (4 + f.payload.length), f.dst, f.src, f.kind, f.tag] ++ f.payload

/-- A frame as it travels, sync byte to CRC. -/
def LinkFrame.wire (f : LinkFrame) : List Byte :=
  0xC5 :: (f.covered ++ be16 (crc16 f.covered).toNat)

/-- The receive faults (R161). -/
inductive RxFault where
  | orphan | long | short | check
deriving DecidableEq, Repr

/-- What the receiver makes of the bytes from the first after idle (R160, R161). Bytes after the last CRC byte belong to
no frame. -/
def receive : List Byte → Except RxFault LinkFrame
  | [] => .error .short
  | sync :: rest =>
    if sync ≠ 0xC5 then .error .orphan
    else match rest with
      | [] => .error .short
      | len :: body =>
        if len.toNat < 4 ∨ 60 < len.toNat then .error .long
        else if body.length < len.toNat + 2 then .error .short
        else if (body.drop len.toNat).take 2 ≠ be16 (crc16 (len :: body.take len.toNat)).toNat then .error .check
        else match body.take len.toNat with
          | dst :: src :: kind :: tag :: payload => .ok ⟨dst, src, kind, tag, payload⟩
          | _ => .error .short

/-- A received ring frame that passes the receive checks (R145). -/
def received? (bytes : List Byte) : Option LinkFrame :=
  match receive bytes with
  | .ok f => some f
  | .error _ => none

end Sys2Proof.Machine
end

