-- ==== Sys2Proof/Machine/Flags.lean ====
section
/-! DEFINITION. The code bytes and flag bytes of Chapter 10 (10.5 to 10.8) and the outputs ATTN (R200), CTX (R180) and RDIR (R144). -/

namespace Sys2Proof.Machine

/-- The code of a result (10.5). -/
def Result.code : Result → Byte
  | .done => 0x00 | .busy => 0x01 | .badAddress => 0x02 | .badKind => 0x03 | .badLength => 0x04
  | .badField => 0x05 | .noEntry => 0x06 | .tableFull => 0x07 | .inUse => 0x08 | .protectedDevice => 0x09
  | .wrongState => 0x0A | .wrongStation => 0x0B | .deviceDown => 0x0C | .noAccount => 0x0D | .noTariff => 0x0E
  | .budget => 0x0F | .queueFull => 0x10 | .belowUse => 0x11 | .cancelled => 0x12

/-- The code of a device class (10.8). -/
def DevClass.code : DevClass → Byte
  | .camera => 0x01 | .lamp => 0x02 | .printer => 0x03 | .other => 0x04

/-- The class that a class byte names (10.8, R204). -/
def DevClass.ofCode (b : Byte) : Option DevClass :=
  if b = 0x01 then some .camera else if b = 0x02 then some .lamp else if b = 0x03 then some .printer
  else if b = 0x04 then some .other else none

/-- The code of a link state (10.8). -/
def LinkState.code : LinkState → Byte
  | .absent => 0x00 | .waking _ => 0x01 | .up => 0x02 | .lost => 0x03

/-- The code of an outcome (10.8). -/
def RequestOutcome.code : RequestOutcome → Byte
  | .complete => 0x00 | .aborted => 0x01 | .mismatch => 0x02 | .budget => 0x03 | .tooManyFrames => 0x04

/-- The code of a close reason, 00h for none (10.8). -/
def closeCode : Option CloseReason → Byte
  | none => 0x00 | some .unloaded => 0x01 | some .mismatch => 0x02 | some .restart => 0x03

/-- The code of a fault kind (10.8). -/
def FaultKind.code : FaultKind → Byte
  | .noReply => 0x01 | .waitLimit => 0x02 | .deviceNak => 0x03 | .opTimeout => 0x04 | .classMismatch => 0x05
  | .gateMismatch => 0x06 | .lampFail => 0x07 | .printerJam => 0x08

/-- The code of a station state (10.8). -/
def StationState.code : StationState → Byte
  | .disabled => 0x00 | .offline => 0x01 | .noRoll => 0x02 | .ready => 0x03 | .running => 0x04 | .held => 0x05
  | .waitingFilm => 0x06 | .waitingLabels => 0x06 | .unloading => 0x07 | .suspended => 0x08

/-- The code of the waiting reason (10.8): 01h FILM, 02h LABELS, 00h none (R205). -/
def StationState.waitingCode : StationState → Byte
  | .waitingFilm => 0x01 | .waitingLabels => 0x02
  | .disabled | .offline | .noRoll | .ready | .running | .held | .unloading | .suspended => 0x00

/-- The code of a print state (10.8). -/
def PrintState.code : PrintState → Byte
  | .idle => 0x00 | .noPrinter => 0x01 | .sending => 0x02 | .confirming => 0x03 | .paused _ => 0x04 | .posting => 0x05

/-- A channel-set byte: bit 0 red, bit 1 green, bit 2 blue (R201). -/
def channelByte (c : Rgb Bool) : Byte :=
  u8 ((if c.r then 1 else 0) + (if c.g then 2 else 0) + (if c.b then 4 else 0))

/-- The channel set of a byte; none for an empty set or a bit above bit 2 (R201). -/
def channelSet? (b : Byte) : Option (Rgb Bool) :=
  if b = 0 ∨ 7 < b.toNat then none else some ⟨b.getLsbD 0, b.getLsbD 1, b.getLsbD 2⟩

/-- The flag byte of an order record: cancelling, summary pending, setup settled (10.6). -/
def orderFlags (o : Order) : Byte :=
  u8 ((if o.cancelling then 1 else 0) + (if o.summaryPending then 2 else 0) + (if o.settled then 4 else 0))

/-- The flag byte of a FAULT_READ: a fault was held, LOST, the notice was waiting (10.5). -/
def faultReadFlags (c : Capture) : Byte :=
  u8 ((if c.record.isSome then 1 else 0) + (if c.lost then 2 else 0) + (if c.notice = .waiting then 4 else 0))

/-- The strap byte of STATUS_READ STAND: bit 0 ADDR_SEL, bit 1 CONSOLE_RATE (10.5). -/
def strapByte (p : Pins) : Byte := u8 ((if p.addrSel then 1 else 0) + (if p.consoleRate then 2 else 0))

/-- The controller's own address, as the ADDR_SEL strap selects it (R179). -/
def ownAddress (p : Pins) : Byte := if p.addrSel then Config.ownHigh else Config.ownLow

/-- Whether a station state holds ATTN: SUSPENDED, or WAITING for FILM or for LABELS (R200). -/
def StationState.wantsAttention : StationState → Bool
  | .suspended | .waitingFilm | .waitingLabels => true
  | .disabled | .offline | .noRoll | .ready | .running | .held | .unloading => false

/-- The ATTN output (R200), deasserted while nRESET is low (R180). -/
def attn (s : State) : Bool :=
  !s.pins.nresetLow &&
    ((List.finRange 4).any (fun st => s.stations[st].state.wantsAttention) || s.composer.attention
      || s.capture.record.isSome)

/-- The frame on CTX, none while the line is idle; CTX is held idle while nRESET is low (R180). -/
def ctx (s : State) : Option LinkFrame :=
  if s.pins.nresetLow then none else s.port.sending.map (·.frame)

/-- Whether the request frame of the transaction's attempt is being sent: its window has not opened yet (R144). -/
def Transaction.isSending (t : Transaction) : Bool := decide (t.opened < t.attempt)

/-- Whether the engine sends a request frame (R144). -/
def sendsOnRing (s : State) : Bool :=
  match s.ring.engine with
  | some t => t.isSending
  | none => false

/-- The RDIR output (R144, R158): asserted while the controller sends on the ring, and released while nRESET is low (R180). -/
def rdir (s : State) : Bool := !s.pins.nresetLow && sendsOnRing s

end Sys2Proof.Machine
end

