-- ==== Sys2Proof/Machine/Operands.lean ====
section
/-! DEFINITION. The payloads that the controller takes and sends (Chapter 10): request payloads, table records, device
statuses, RESULT data and event payloads. -/

namespace Sys2Proof.Machine

/-! ### Text fields (R202, 5.3) -/

/-- A byte as a text field stores it: "?" in place of a byte outside 20h..7Eh (R2, R112, R113). -/
def printable (b : Byte) : Byte := if 0x20 ≤ b.toNat ∧ b.toNat ≤ 0x7E then b else 0x3F

/-- A text as its field stores it: cut to the field's length and cleaned. -/
def storeText (width : Nat) (t : List Byte) : List Byte := (t.take width).map printable

/-- A text field at the front of a payload, and what follows it; none when its length byte is missing or its text runs
past the end (R202). -/
def takeText : List Byte → Option (List Byte × List Byte)
  | [] => none
  | n :: rest => if n.toNat ≤ rest.length then some (rest.take n.toNat, rest.drop n.toNat) else none

/-- A variable-width text field that the controller sends. -/
def textField (t : List Byte) : List Byte := u8 t.length :: t

/-- A fixed-width text field that the controller sends: length, text, zeros up to the width (R202). -/
def fixedField (width : Nat) (t : List Byte) : List Byte :=
  u8 t.length :: (t ++ List.replicate (width - t.length) 0)

/-! ### Console requests (10.4) -/

/-- The fields of an ORDER_OPEN as they arrive (10.4). -/
structure OpenFields where
  order : Nat
  account : Nat
  plan : Nat
  template : Nat
  station : Nat
  copies : Nat
  trim : Rgb Int
  course : List Byte
  title : List Byte
deriving DecidableEq, Repr

/-- The fields of an ORDER_OPEN payload; none is BAD_LENGTH (R5, check 1). -/
def parseOpen : List Byte → Option OpenFields
  | o1 :: o2 :: a1 :: a2 :: a3 :: plan :: tmpl :: st :: copies :: tr :: tg :: tb :: texts =>
    match takeText texts with
    | none => none
    | some (course, rest) =>
      match takeText rest with
      | none => none
      | some (title, []) =>
        some ⟨rd16 o1 o2, rd24 a1 a2 a3, plan.toNat, tmpl.toNat, st.toNat, copies.toNat,
          ⟨rdS8 tr, rdS8 tg, rdS8 tb⟩, course, title⟩
      | some (_, _ :: _) => none
  | _ => none

/-- Whether a trim lies in −24..+24 (R5). -/
def trimOk (z : Int) : Bool := decide (-24 ≤ z) && decide (z ≤ 24)

/-- The terms of an order, when every field is in range (R5, check 2); texts as R2 stores them. -/
def OpenFields.terms (f : OpenFields) : Option OrderTerms :=
  if h : f.order ≠ 0 ∧ f.account ≠ 0 ∧ f.plan < 8 ∧ f.template < 4 ∧ (1 ≤ f.station ∧ f.station - 1 < 4)
      ∧ (1 ≤ f.copies ∧ f.copies ≤ 4) ∧ (trimOk f.trim.r && trimOk f.trim.g && trimOk f.trim.b) = true
      ∧ f.course ≠ [] then
    some
      { number := f.order, account := f.account, plan := ⟨f.plan, h.2.2.1⟩, template := ⟨f.template, h.2.2.2.1⟩
        station := ⟨f.station - 1, h.2.2.2.2.1.2⟩, copies := f.copies, trim := f.trim
        course := storeText 8 f.course, title := storeText 24 f.title }
  else none

/-- The order number of an ORDER_CLOSE or ORDER_CANCEL; none is BAD_LENGTH (R9). -/
def parseOrderNumber : List Byte → Option Nat
  | [a, b] => some (rd16 a b)
  | _ => none

/-- The account number of an ACCOUNT_READ or ACCOUNT_CLEAR; none is BAD_LENGTH (R107). -/
def parseAccountNumber : List Byte → Option Nat
  | [a, b, c, d] => some (rd32 a b c d)
  | _ => none

/-- The fields of an EXPOSE as they arrive (10.4). -/
structure ExposeFields where
  order : Nat
  original : Nat
  index : Rgb Int
deriving DecidableEq, Repr

/-- The fields of an EXPOSE payload; none is BAD_LENGTH (R15). -/
def parseExpose : List Byte → Option ExposeFields
  | [o1, o2, n1, n2, r1, r2, g1, g2, b1, b2] =>
    some ⟨rd16 o1 o2, rd16 n1 n2, ⟨rdS16 r1 r2, rdS16 g1 g2, rdS16 b1 b2⟩⟩
  | _ => none

/-- The request record that an admitted EXPOSE becomes (R17, R68). -/
def ExposeFields.request (f : ExposeFields) (tag : Byte) : Request :=
  { order := f.order, original := f.original, index := f.index.map admitIndex, marks := f.index.map admitMark
    tag := tag, state := .queued, frames := none, step := 0, copy := 0, exposed := 0, spoiled := 0, abort := false
    outcome := none }

/-- The sub-commands of STATION_CONTROL (10.4). -/
inductive SubCommand where
  | enable | disable | abort | unload
deriving DecidableEq, Repr

/-- The sub-command that a byte names. -/
def SubCommand.ofCode (b : Byte) : Option SubCommand :=
  if b = 0x01 then some .enable else if b = 0x02 then some .disable else if b = 0x03 then some .abort
  else if b = 0x04 then some .unload else none

/-- The station that a byte names, 1..4. -/
def station? (b : Byte) : Option St :=
  if h : b.toNat - 1 < 4 then (if b.toNat = 0 then none else some ⟨b.toNat - 1, h⟩) else none

/-- The number of a station, 1..4. -/
def stationNumber (st : St) : Nat := st.val + 1

/-! ### Table identifiers (10.6) -/

/-- The tables that TABLE_WRITE and TABLE_READ name. -/
inductive Table where
  | order | device | station | stock | plan | window | tariff | account | template | standText
deriving DecidableEq, Repr

/-- The identifier of a table. -/
def Table.code : Table → Byte
  | .order => 0x01 | .device => 0x02 | .station => 0x03 | .stock => 0x04 | .plan => 0x05
  | .window => 0x06 | .tariff => 0x07 | .account => 0x08 | .template => 0x09 | .standText => 0x0A

/-- Whether an identifier names a table (R172, R173): 01h..0Ah. -/
def isTableCode (b : Byte) : Bool := decide (1 ≤ b.toNat) && decide (b.toNat ≤ 10)

/-- A table index within its range `0..n-1`. -/
def index? (n : Nat) (b : Byte) : Option (Fin n) := if h : b.toNat < n then some ⟨b.toNat, h⟩ else none

/-! ### Write records (10.6, R206). The outer Option is the length check, the inner one the range check of the owner. -/

/-- A Device Table record: address 01h..3Fh and class (R138). -/
def parseDevice : List Byte → Option (Option (Byte × DevClass))
  | [a, c] => some (if isRingAddress a then (DevClass.ofCode c).map fun k => (a, k) else none)
  | _ => none

/-- A Station Table record (R61). -/
def parseBinding : List Byte → Option (Option Binding)
  | [c, l] => some (if isRingAddress c && isRingAddress l && c != l then some ⟨c, l⟩ else none)
  | _ => none

/-- Whether a stock balance lies in −24..+24 (2.1). -/
def balanceOk (z : Int) : Bool := decide (-24 ≤ z) && decide (z ≤ 24)

/-- Whether every field of a stock is in its range, with T_min ≤ K ≤ T_max (R22). -/
def Stock.ok (k : Stock) : Bool :=
  decide (1 ≤ k.code) && decide (12 ≤ k.length) && decide (k.length ≤ 72) && decide (1 ≤ k.tRef)
    && balanceOk k.balance.r && balanceOk k.balance.g && balanceOk k.balance.b && decide (1 ≤ k.tMin)
    && decide (k.tMin ≤ k.knee) && decide (k.knee ≤ k.tMax) && decide (256 ≤ k.slope) && decide (k.slope ≤ 1023)

/-- A Stock Table record (R22). -/
def parseStock : List Byte → Option (Option Stock)
  | [code, len, t1, t2, br, bg, bb, n1, n2, x1, x2, k1, k2, s1, s2] =>
    let k : Stock := ⟨code.toNat, len.toNat, rd16 t1 t2, ⟨rdS8 br, rdS8 bg, rdS8 bb⟩, rd16 n1 n2, rd16 x1 x2,
      rd16 k1 k2, rd16 s1 s2⟩
    some (if k.ok then some k else none)
  | _ => none

/-- The steps of a plan record, two bytes each; none when the bytes are not whole steps. -/
def parseSteps : List Byte → Option (List (Byte × Byte))
  | [] => some []
  | o :: c :: rest => (parseSteps rest).map ((o, c) :: ·)
  | [_] => none

/-- A step in range: offset −9..+9 and a channel set (R58, check 3). -/
def planStep? (p : Byte × Byte) : Option PlanStep :=
  if -9 ≤ rdS8 p.1 ∧ rdS8 p.1 ≤ 9 then (channelSet? p.2).map fun c => ⟨rdS8 p.1, c⟩ else none

/-- The steps of a plan, when each is in range and exactly one is nominal (R58, checks 3 and 4). -/
def planSteps? (l : List (Byte × Byte)) : Option (List PlanStep) :=
  match l.mapM planStep? with
  | some steps => if (steps.filter (·.isNominal)).length = 1 then some steps else none
  | none => none

/-- A Plan Table record: a count 1..7 and that many steps (R58). -/
def parsePlan : List Byte → Option (Option (List PlanStep))
  | n :: rest =>
    if 1 ≤ n.toNat ∧ n.toNat ≤ 7 ∧ rest.length = 2 * n.toNat then (parseSteps rest).map planSteps? else none
  | [] => none

/-- A Window Table record (R89): the class 0..7, and no base bit where the mask is clear. -/
def parseWindow : List Byte → Option (Option Window)
  | [b1, b2, b3, m1, m2, m3, c, e] =>
    let base : BitVec 24 := b1 ++ b2 ++ b3
    let mask : BitVec 24 := m1 ++ m2 ++ m3
    some (if h : c.toNat < 8 then
      (if base &&& ~~~mask = 0 then some ⟨base, mask, ⟨c.toNat, h⟩, e != 0⟩ else none) else none)
  | _ => none

/-- A Tariff Table record; a share above 256 is stored as 256 (R92). -/
def parseTariff : List Byte → Option Tariff
  | [p1, p2, f1, f2, h1, h2, s1, s2] => some ⟨rd16 p1 p2, rd16 f1 f2, min (rd16 h1 h2) 256, rd16 s1 s2⟩
  | _ => none

/-- The value that stands for an absent ceiling (R94). -/
def noCeiling : Nat := 4294967295

/-- An Account Table record: account number and ceiling (R95). -/
def parseAccount : List Byte → Option (Nat × Option Nat)
  | [a1, a2, a3, c1, c2, c3, c4] =>
    let c := rd32 c1 c2 c3 c4
    some (rd24 a1 a2 a3, if c = noCeiling then none else some c)
  | _ => none

/-- The kind that the low four bits of an item byte name (10.6); a LITERAL takes its stored text. -/
def itemKind? (code : Nat) (text : List Byte) : Option ItemKind :=
  match code with
  | 1 => some (.literal (storeText 8 text))
  | 2 => some .course
  | 3 => some .title
  | 4 => some .order
  | 5 => some .original
  | 6 => some .stepmark
  | 7 => some .frame
  | 8 => some .roll
  | 9 => some .date
  | 10 => some .stand
  | _ => none

/-- Items laid out one after another: the item byte, and for a LITERAL its text. None when the record's bytes are not
exactly `n` items (R112, check 2). -/
def parseItems : Nat → List Byte → Option (List (Byte × List Byte))
  | 0, [] => some []
  | 0, _ :: _ => none
  | _ + 1, [] => none
  | n + 1, i :: rest =>
    if i.toNat % 16 = 1 then
      match takeText rest with
      | some (text, rest) => (parseItems n rest).map ((i, text) :: ·)
      | none => none
    else (parseItems n rest).map ((i, []) :: ·)

/-- An item whose line is 1 or 2 and whose kind is one of the ten (R112, check 3). -/
def item? (p : Byte × List Byte) : Option Item :=
  let line := p.1.toNat / 16
  if line = 1 ∨ line = 2 then (itemKind? (p.1.toNat % 16) p.2).map fun k => ⟨line, k⟩ else none

/-- A Template Table record: an item count 0..8 and that many items (R112). -/
def parseTemplate : List Byte → Option (Option (List Item))
  | n :: rest => if n.toNat ≤ 8 then (parseItems n.toNat rest).map (·.mapM item?) else none
  | [] => none

/-- A Stand Text record: two texts, stored cut and cleaned (R113). -/
def parseStandText (bytes : List Byte) : Option StandText :=
  match takeText bytes with
  | some (name, rest) =>
    match takeText rest with
    | some (date, []) => some ⟨storeText 8 name, storeText 10 date⟩
    | _ => none
  | none => none

/-! ### Read records (10.6, R206) -/

/-- The record of an Order Table entry (R18): one byte 00h for a FREE entry, 68 bytes for any other. -/
def orderRecord : Option Order → List Byte
  | none => [0x00]
  | some o =>
    [if o.closing then 0x02 else 0x01, orderFlags o] ++ be16 o.terms.number ++ be24 o.terms.account
      ++ [u8 o.cls.val, u8 o.terms.plan.val, u8 o.terms.template.val, u8 (stationNumber o.terms.station),
          u8 o.terms.copies, s8 o.terms.trim.r, s8 o.terms.trim.g, s8 o.terms.trim.b]
      ++ be16 o.setupAmount ++ be32 o.reserved ++ be32 o.exposed ++ be32 o.spoiled ++ be32 o.charged
      ++ [u8 o.outstanding] ++ fixedField 8 o.terms.course ++ fixedField 24 o.terms.title

/-- The record of a Device Table entry (R137). -/
def deviceRecord : Option Device → List Byte
  | none => []
  | some d => [d.addr, d.cls.code, d.link.code] ++ be16 d.failedWakes

/-- The record of a Station Table entry (R60). -/
def stationRecord (e : StationEntry) : List Byte :=
  match e.binding with
  | none => []
  | some b => [b.camera, b.lamp, flag e.enabled]

/-- The record of a Stock Table entry (R21). -/
def stockRecord : Option Stock → List Byte
  | none => []
  | some k =>
    [u8 k.code, u8 k.length] ++ be16 k.tRef ++ [s8 k.balance.r, s8 k.balance.g, s8 k.balance.b] ++ be16 k.tMin
      ++ be16 k.tMax ++ be16 k.knee ++ be16 k.slope

/-- The record of a plan (R57). -/
def planRecord : Option (List PlanStep) → List Byte
  | none => []
  | some steps => u8 steps.length :: steps.flatMap fun p => [s8 p.offset, channelByte p.channels]

/-- The record of a window (R88). -/
def windowRecord : Option Window → List Byte
  | none => []
  | some w => be24 w.base.toNat ++ be24 w.mask.toNat ++ [u8 w.cls.val, flag w.enabled]

/-- The record of a tariff class (R91). -/
def tariffRecord : Option Tariff → List Byte
  | none => []
  | some t => be16 t.framePrice ++ be16 t.labelFee ++ be16 t.share ++ be16 t.setupFee

/-- The record of an account (R94). -/
def accountRecord : Option Account → List Byte
  | none => []
  | some a =>
    be24 a.number ++ be32 (a.ceiling.getD noCeiling) ++ be32 a.spent ++ be32 a.held ++ [u8 a.openOrders]

/-- The code of an item kind (10.6). -/
def ItemKind.code : ItemKind → Nat
  | .literal _ => 1 | .course => 2 | .title => 3 | .order => 4 | .original => 5 | .stepmark => 6 | .frame => 7
  | .roll => 8 | .date => 9 | .stand => 10

/-- The bytes of a template item. -/
def itemBytes (i : Item) : List Byte :=
  u8 (i.line * 16 + i.kind.code) :: (match i.kind with | .literal t => textField t | _ => [])

/-- The record of a template (R111). -/
def templateRecord (items : List Item) : List Byte := u8 items.length :: items.flatMap itemBytes

/-- The Stand Text record (R113). -/
def standTextRecord (t : StandText) : List Byte := textField t.name ++ textField t.date

/-- The part count of a record: its length divided by 48 and rounded up, at least 1 (R173). -/
def partCount (record : List Byte) : Nat := max 1 ((record.length + 47) / 48)

/-- The data of a TABLE_READ's DONE; none when the part number is at or above the part count (R173). -/
def readData (table index part : Byte) (record : List Byte) : Option (List Byte) :=
  if part.toNat < partCount record then
    some ([table, index, part, u8 (partCount record)] ++ (record.drop (48 * part.toNat)).take 48)
  else none

/-! ### Device statuses (10.3, R153, R204) -/

/-- A camera's report: `gate` is the gate frame as reported, 0 when no roll is present (R204). -/
structure CameraReport where
  present : Bool
  stock : Nat
  gate : Nat
  /-- The latched SHOT with its lamp-fault flag. -/
  shot : Option Bool
  advanced : Bool
deriving DecidableEq, Repr

/-- A printer's report (R125). -/
structure PrinterReport where
  condition : Condition
  printed : Bool
deriving DecidableEq, Repr

/-- A parsed status (R153). -/
inductive Status where
  | camera (flags : Byte) (report : CameraReport)
  | printer (report : PrinterReport)
  | items (condition : Byte) (items : List Byte)
deriving DecidableEq, Repr

/-- A camera status of three bytes: undefined flag bits clear, lamp fault only with SHOT (R204). -/
def parseCamera : List Byte → Option Status
  | [flags, stock, gate] =>
    if 15 < flags.toNat ∨ (flags.getLsbD 2 = true ∧ flags.getLsbD 1 = false) then none
    else
      let present := flags.getLsbD 0
      some (.camera flags
        ⟨present, if present then stock.toNat else 0, if present then gate.toNat else 0,
          if flags.getLsbD 1 then some (flags.getLsbD 2) else none, flags.getLsbD 3⟩)
  | _ => none

/-- The condition that a byte names (10.3). -/
def condition? (b : Byte) : Option Condition :=
  if b = 0x00 then some .ready else if b = 0x01 then some .busy else if b = 0x02 then some .outOfStock
  else if b = 0x03 then some .jam else none

/-- A printer status of two bytes (R204). -/
def parsePrinter : List Byte → Option Status
  | [c, flags] => if 1 < flags.toNat then none else (condition? c).map fun k => .printer ⟨k, flags.getLsbD 0⟩
  | _ => none

/-- The status of a lamp head or other device: condition, count 0..8, that many item codes (R204). -/
def parseItemStatus : List Byte → Option Status
  | c :: n :: items => if n.toNat ≤ 8 ∧ items.length = n.toNat then some (.items c items) else none
  | _ => none

/-- A status parsed by the layout of a class (R204). -/
def parseStatus (cls : DevClass) (bytes : List Byte) : Option Status :=
  match cls with
  | .camera => parseCamera bytes
  | .printer => parsePrinter bytes
  | .lamp => parseItemStatus bytes
  | .other => parseItemStatus bytes

/-- The reason code of a NAK: its first payload byte, 00h for an empty payload (R204). -/
def nakReason (payload : List Byte) : Byte := payload.headD 0

/-- The NAK reason that 10.3 names LAMP_FAIL. -/
def nakLampFail : Byte := 0x01

/-! ### Ring payloads that the controller builds (10.3) -/

/-- The payload of a LAMP_SET: three lamp times. -/
def lampPayload (times : Rgb Nat) : List Byte := be16 times.r ++ be16 times.g ++ be16 times.b

/-- The payload of a PRINT: the two lines, each with its length. -/
def printPayload (l : Lines) : List Byte := textField l.one ++ textField l.two

/-! ### Events (10.7) -/

/-- An optional number, absent as 0 (R201). -/
def absent0 (n : Option Nat) : Nat := n.getD 0

/-- A fault record's nine bytes (10.7). -/
def faultBytes (f : FaultRecord) : List Byte :=
  [f.kind.code, f.address, f.frameKind, u8 (absent0 (f.station.map stationNumber))] ++ be16 (absent0 f.order)
    ++ [u8 (absent0 f.frame), flag f.nakReason.isSome, f.nakReason.getD 0]

/-- The payload of an EVENT: its type and its fields (10.7). A reply to a forwarded frame whose payload exceeds 50 bytes is
cut to its first 50 (R207). -/
def Event.payload : Event → List Byte
  | .requestDone order original first count exposed spoiled outcome =>
    [0x01] ++ be16 order ++ be16 original ++ [u8 first, u8 count, u8 exposed, u8 spoiled, outcome.code]
  | .rollReport st roll stock reason used exposed spoiled strip =>
    [0x02, u8 (stationNumber st)] ++ be16 roll
      ++ [u8 stock, closeCode (some reason), u8 used, u8 exposed, u8 spoiled, flag strip]
  | .orderSummary order account cls cancelled reserved exposed spoiled charged setupAmount chargedTotal =>
    [0x03] ++ be16 order ++ be24 account ++ [u8 cls.val, flag cancelled] ++ be32 reserved ++ be32 exposed
      ++ be32 spoiled ++ [flag (!charged)] ++ be16 setupAmount ++ be32 chargedTotal
  | .stripPrinted st roll reason labels reprints =>
    [0x04, u8 (stationNumber st)] ++ be16 roll ++ [closeCode (some reason), u8 labels] ++ be16 reprints
  | .rollOpen st roll stock length => [0x05, 0x01, u8 (stationNumber st)] ++ be16 roll ++ [u8 stock, u8 length]
  | .unknownStock st stock gate => [0x05, 0x02, u8 (stationNumber st), u8 stock, u8 gate]
  | .rollUnusable st stock gate => [0x05, 0x03, u8 (stationNumber st), u8 stock, u8 gate]
  | .cameraReport address flags gate => [0x05, 0x04, address, DevClass.camera.code, flags, gate]
  | .deviceReport address cls condition items =>
    [0x05, 0x04, address, cls.code, condition, u8 items.length] ++ items
  | .forwardReply (.replied copy) =>
    [0x06, if 50 < copy.payload.length then 0x02 else 0x00, copy.dst, copy.src, copy.kind, copy.tag]
      ++ copy.payload.take 50
  | .forwardReply .noReply => [0x06, 0x01]
  | .faultNotice record => 0x07 :: faultBytes record

/-- The link frame of a record (10.5, 10.7), with the controller's own address as source (R160). -/
def Record.frame (own : Byte) : Record → LinkFrame
  | .result tag code data => ⟨Config.consoleAddr, own, kindResult, tag, code.code :: data⟩
  | .event tag e => ⟨Config.consoleAddr, own, kindEvent, tag, e.payload⟩

end Sys2Proof.Machine
end

