-- ==== Sys2Proof/Machine/Ops.lean ====
section
/-! DEFINITION. The named operations that the meanings share: one update per record of State, the Event Queue and the
transmitter (8.2, 8.7), the answers to console frames (8.3, 8.5), the Fault Capture (9.6), the Charge Unit (Chapter 5) and
the Order Table's counters and FREE transition (Chapter 1). -/

namespace Sys2Proof.Machine

/-! ### Record updates -/

/-- A table with one entry changed. -/
def upd {α : Type} {n : Nat} (v : Vector α n) (i : Fin n) (f : α → α) : Vector α n := v.set i.val (f v[i]) i.isLt

def modStation (st : St) (f : Station → Station) (s : State) : State := { s with stations := upd s.stations st f }

def modRoll (st : St) (f : RollRec → RollRec) (s : State) : State := { s with rolls := upd s.rolls st f }

/-- The open map of a station changed; no map, no change. -/
def modMap (st : St) (f : RollMap → RollMap) (s : State) : State :=
  modRoll st (fun r => { r with map := r.map.map f }) s

/-- The head request of a station changed. -/
def modHead (st : St) (f : Request → Request) (s : State) : State :=
  modStation st (fun x => { x with queue := x.queue.modifyHead f }) s

def modDevice (i : Fin 16) (f : Device → Device) (s : State) : State :=
  { s with devices := upd s.devices i (Option.map f) }

def modOrder (i : Fin 16) (f : Order → Order) (s : State) : State := { s with orders := upd s.orders i (Option.map f) }

def modAccount (i : Fin 32) (f : Account → Account) (s : State) : State :=
  { s with accounts := upd s.accounts i (Option.map f) }

def modComposer (f : Composer → Composer) (s : State) : State := { s with composer := f s.composer }

def modRing (f : Ring → Ring) (s : State) : State := { s with ring := f s.ring }

/-- The head request of a station. -/
def headOf (s : State) (st : St) : Option Request := s.stations[st].queue.head?

/-! ### Lookups -/

/-- The present device entry at an address (R137: addresses are distinct). -/
def deviceIdx (s : State) (a : Byte) : Option (Fin 16) :=
  (List.finRange 16).find? fun i => match s.devices[i] with | some d => d.addr == a | none => false

/-- Whether the device at an address is UP; no entry counts as not UP (R63). -/
def isUp (s : State) (a : Byte) : Bool :=
  match deviceIdx s a with
  | some i => match s.devices[i] with | some d => d.link == .up | none => false
  | none => false

/-- The PRINTER entry (R137: at most one). -/
def printerIdx (s : State) : Option (Fin 16) :=
  (List.finRange 16).find? fun i => match s.devices[i] with | some d => d.cls == .printer | none => false

/-- The PRINTER entry when it is UP (R126). -/
def printerUp (s : State) : Option Device :=
  match printerIdx s with
  | some i => match s.devices[i] with | some d => if d.link = .up then some d else none | none => none
  | none => none

/-- The station whose entry names an address as camera (R154). -/
def cameraStation (s : State) (a : Byte) : Option St :=
  (List.finRange 4).find? fun st => match s.bindings[st].binding with | some b => b.camera == a | none => false

/-- The station whose entry names an address, as camera or as lamp (R143). -/
def boundStation (s : State) (a : Byte) : Option St :=
  (List.finRange 4).find? fun st =>
    match s.bindings[st].binding with | some b => b.camera == a || b.lamp == a | none => false

/-- The camera address of a station; 00h when it is not bound. -/
def cameraOf (s : State) (st : St) : Byte := (s.bindings[st].binding.map (·.camera)).getD 0

/-- The lamp address of a station; 00h when it is not bound. -/
def lampOf (s : State) (st : St) : Byte := (s.bindings[st].binding.map (·.lamp)).getD 0

/-- Whether both bound devices of a station are UP (R63). -/
def bothUp (s : State) (st : St) : Bool :=
  s.bindings[st].binding.isSome && isUp s (cameraOf s st) && isUp s (lampOf s st)

/-- The entry that holds an order number (R1: numbers are distinct). -/
def orderIdx (s : State) (n : Nat) : Option (Fin 16) :=
  (List.finRange 16).find? fun i => match s.orders[i] with | some o => o.terms.number == n | none => false

/-- The order that holds a number. -/
def orderOf (s : State) (n : Nat) : Option Order :=
  match orderIdx s n with
  | some i => s.orders[i]
  | none => none

/-- The entry that holds an account number (R94: numbers are distinct). -/
def accountIdx (s : State) (n : Nat) : Option (Fin 32) :=
  (List.finRange 32).find? fun i => match s.accounts[i] with | some a => a.number == n | none => false

/-- The account that holds a number. -/
def accountOf (s : State) (n : Nat) : Option Account :=
  match accountIdx s n with
  | some i => s.accounts[i]
  | none => none

/-- The stock entry of a stock code (R21: codes are distinct). -/
def stockOf (s : State) (code : Nat) : Option Stock :=
  (List.finRange 8).findSome? fun i =>
    match s.stocks[i] with | some k => if k.code = code then some k else none | none => none

/-! ### Event Queue and transmitter -/

/-- The places of the Event Queue that nothing holds (R177). -/
def freePlaces (q : EventQueue) : Nat := Config.queuePlaces - (q.records.length + q.reserved + q.given.length)

/-- The RESULT BUSY of a refused frame: its tag, the code BUSY and its kind (R163). -/
def busyFrame (s : State) (b : Byte × Byte) : LinkFrame :=
  (Record.result b.1 .busy [b.2]).frame (ownAddress s.pins)

/-- An idle transmitter starts the pending BUSY, or else the record at the head of the queue (R163, R177). After a RESTART
the records it left go before a BUSY (R176). -/
def startTransmit (s : State) : State :=
  match s.port.sending with
  | some _ => s
  | none =>
    match s.port.busy, s.eq.records with
    | some b, records =>
      if s.port.beforeBusy = 0 ∨ records = [] then
        { s with port := { s.port with sending := some ⟨busyFrame s b, false⟩, busy := none } }
      else
        { s with port := { s.port with
            sending := (records.head?).map fun r => ⟨r.frame (ownAddress s.pins), true⟩ } }
    | none, records =>
      { s with port := { s.port with
          sending := (records.head?).map fun r => ⟨r.frame (ownAddress s.pins), true⟩ } }

/-- A record joins the tail of the queue; an idle transmitter starts (R177). -/
def joinTail (r : Record) (s : State) : State :=
  startTransmit { s with eq := { s.eq with records := s.eq.records ++ [r] } }

/-- Whether an event can be posted at once: a place is free, and no waiter has one to use first (R177, R178). -/
def canPost (q : EventQueue) : Bool := decide (0 < freePlaces q) && q.given.isEmpty

/-- A party that found no place joins the waiter list (R178); it is given a place that is free. -/
def addWaiter (w : Waiter) (s : State) : State :=
  if 0 < freePlaces s.eq then { s with eq := { s.eq with given := s.eq.given ++ [w] } }
  else { s with eq := { s.eq with waiters := s.eq.waiters ++ [w] } }

/-- A place that has become free goes to the waiter at the head of the list (R178). -/
def servePlace (q : EventQueue) : EventQueue :=
  match q.waiters with
  | w :: ws => if 0 < freePlaces q then { q with given := q.given ++ [w], waiters := ws } else q
  | [] => q

/-- Whether it is the turn of a waiter to use the place it has been given. -/
def hasPlace (w : Waiter) (s : State) : Bool := s.eq.given.head? == some w

/-- The waiter at the head of the given places uses its place for a record (R178). -/
def usePlace (r : Record) (s : State) : State :=
  joinTail r { s with eq := { s.eq with given := s.eq.given.tail } }

/-- A party gives up its wait; a place it had been given goes on (R178, R198). -/
def withdrawWaiter (w : Waiter) (s : State) : State :=
  { s with eq := servePlace { s.eq with given := s.eq.given.erase w, waiters := s.eq.waiters.erase w } }

/-- An answer takes the place reserved for it and joins the tail (R177). -/
def answerWith (r : Record) (s : State) : State :=
  joinTail r { s with eq := { s.eq with reserved := s.eq.reserved - 1 } }

/-- The frame in hand is answered by a RESULT, and its buffer is freed (R162, R164, R170). -/
def answerHand (f : LinkFrame) (code : Result) (data : List Byte) (s : State) : State :=
  answerWith (.result f.tag code data) { s with inHand := none }

/-- The management frame of a kind in hand. -/
def inHand? (s : State) (kind : Byte) : Option LinkFrame :=
  match s.inHand with
  | some ⟨f, .manage⟩ => if f.kind = kind then some f else none
  | _ => none

/-- The end of a command: a command that reaches the part while nRESET is low changes nothing (R180). -/
def live (s t : State) : Host.Outcome State Fault Refusal := .next (if s.pins.nresetLow then s else t)

/-! ### Fault Capture (R197) -/

/-- A fault is offered: the first fills the capture and posts FAULT_NOTICE, a later one sets LOST. -/
def offerFault (f : FaultRecord) (s : State) : State :=
  match s.capture.record with
  | some _ => { s with capture := { s.capture with lost := true } }
  | none =>
    if canPost s.eq then
      joinTail (.event 0 (.faultNotice f)) { s with capture := ⟨some f, s.capture.lost, .posted⟩ }
    else addWaiter .faultNotice { s with capture := ⟨some f, s.capture.lost, .waiting⟩ }

/-! ### Charge Unit (Chapter 5) -/

/-- Whether a window matches an account number (R88). -/
def Window.matchesAccount (w : Window) (n : Nat) : Bool := w.enabled && (BitVec.ofNat 24 n &&& w.mask == w.base)

/-- The class of the first present, enabled window that matches (R90). -/
def windowClass (s : State) (n : Nat) : Option (Fin 8) :=
  (List.finRange 8).findSome? fun i =>
    match s.windows[i] with | some w => if w.matchesAccount n then some w.cls else none | none => none

/-- The tariff class of an account, with its prices (R90). -/
def tariffClass (s : State) (n : Nat) : Option (Fin 8 × Tariff) :=
  match windowClass s n with
  | some c => (s.tariffs[c]).map fun t => (c, t)
  | none => none

/-- The fit test of an amount against an account (R100). -/
def fits (a : Account) (x : Nat) : Bool :=
  match a.ceiling with
  | none => true
  | some c => decide (satAdd (satAdd a.spent a.held) x ≤ c)

/-- The off-nominal price (R99). -/
def offNominal (t : Tariff) : Nat := (t.framePrice * t.share + 128) / 256

/-- The hold amount of one frame (R99). -/
def frameHold (t : Tariff) (nominal : Bool) : Nat :=
  (if nominal then t.framePrice else offNominal t) + t.labelFee

/-- An amount is added to held (R98, R101). -/
def addHeld (account x : Nat) (s : State) : State :=
  match accountIdx s account with
  | some i => modAccount i (fun a => { a with held := a.held + x }) s
  | none => s

/-- An amount leaves held without being spent (R102, R104). -/
def releaseHeld (account x : Nat) (s : State) : State :=
  match accountIdx s account with
  | some i => modAccount i (fun a => { a with held := a.held - x }) s
  | none => s

/-- An amount moves from held to spent (R103). -/
def convertHeld (account x : Nat) (s : State) : State :=
  match accountIdx s account with
  | some i => modAccount i (fun a => { a with held := a.held - x, spent := satAdd a.spent x }) s
  | none => s

/-- An order of the account opens: S is held and the open-order count rises (R98). -/
def openAccount (account x : Nat) (s : State) : State :=
  match accountIdx s account with
  | some i => modAccount i (fun a => { a with held := a.held + x, openOrders := a.openOrders + 1 }) s
  | none => s

/-- The settlement of a setup hold (R106): converted when a frame was exposed, released otherwise. -/
def settleAccount (account x : Nat) (charged : Bool) (s : State) : State :=
  match accountIdx s account with
  | some i =>
    modAccount i (fun a =>
      { a with held := a.held - x, spent := if charged then satAdd a.spent x else a.spent
               openOrders := a.openOrders - 1 }) s
  | none => s

/-! ### Order Table counters and the FREE transition (R3, R12 to R14) -/

/-- A report that names an order by its number; held by no order, it is discarded (R3). -/
def reportOrder (n : Nat) (f : Order → Order) (s : State) : State :=
  match orderIdx s n with
  | some i => modOrder i f s
  | none => s

/-- The ORDER_SUMMARY of a settled order (R14). -/
def Order.summaryEvent (o : Order) : Event :=
  .orderSummary o.terms.number o.terms.account o.cls o.cancelling o.reserved o.exposed o.spoiled
    (decide (0 < o.exposed)) o.setupAmount o.charged

/-- The settled order: the summary pending, the setup amount charged when a frame was exposed, the summary built (R13). -/
def Order.settle (o : Order) : Order :=
  let o' : Order :=
    { o with summaryPending := true, settled := true
             charged := if 0 < o.exposed then satAdd o.charged o.setupAmount else o.charged }
  { o' with summary := some o'.summaryEvent }

/-- The tag of an order's summary: its closing tag (R14). -/
def Order.summaryTag (o : Order) : Byte := o.closingTag.getD 0

/-- The entry becomes FREE (R13, step 3). -/
def freeOrder (i : Fin 16) (s : State) : State := { s with orders := s.orders.set i.val none i.isLt }

/-- The FREE transition of an entry (R13): settle, build the summary, post it, and become FREE when it is queued. -/
def freeTransition (i : Fin 16) (s : State) : State :=
  match s.orders[i] with
  | none => s
  | some o =>
    let s := settleAccount o.terms.account o.setupAmount (decide (0 < o.exposed)) s
    if canPost s.eq then joinTail (.event o.settle.summaryTag o.settle.summaryEvent) (freeOrder i s)
    else addWaiter (.orderSummary i) (modOrder i (fun _ => o.settle) s)

/-- Whether the FREE transition of an order begins (R4). -/
def Order.freeable (o : Order) : Bool := o.closing && o.outstanding == 0 && !o.summaryPending

/-- The FREE transition of an entry, when it begins (R4, R9, R10, R12). -/
def tryFree (i : Fin 16) (s : State) : State :=
  match s.orders[i] with
  | some o => if o.freeable then freeTransition i s else s
  | none => s

/-- A request of an order has ended (R12). -/
def requestEnded (n : Nat) (s : State) : State :=
  match orderIdx s n with
  | some i => tryFree i (modOrder i (fun o => { o with outstanding := o.outstanding - 1 }) s)
  | none => s

end Sys2Proof.Machine
end

