-- ==== Sys2Proof/Machine/Ring.lean ====
section
/-! DEFINITION. The Ring Port's shared operations: asks and their withdrawal (R148), busy markers and idle timers (R150,
R151), the transaction engine's request frames (R143, R144), protection (R167), the forward slot (8.4) and the
Ring Arbiter with the Idle Poller's due set (R149, R152). -/

namespace Sys2Proof.Machine

/-! ### Busy markers and idle timers -/

/-- The device at an address changed. -/
def modDeviceAt (a : Byte) (f : Device → Device) (s : State) : State :=
  match deviceIdx s a with
  | some i => modDevice i f s
  | none => s

/-- A busy marker is set: the idle timer stops and the entry leaves the due set as a poll (R151, R152). -/
def Device.setBusy (d : Device) : Device := { d with busy := true, idleTimer := false, duePoll := false }

/-- A busy marker is cleared; the idle timer of an UP entry is then started (R150). -/
def Device.clearBusy (d : Device) : Device :=
  if d.busy then { d with busy := false, idleTimer := d.link == .up } else d

/-- A reply restarts the idle timer of an UP entry whose busy marker is clear (R147, R151). -/
def Device.replied (d : Device) : Device :=
  if d.link = .up ∧ d.busy = false then { d with idleTimer := true } else d

def setBusyAt (a : Byte) (s : State) : State := modDeviceAt a Device.setBusy s

def clearBusyAt (a : Byte) (s : State) : State := modDeviceAt a Device.clearBusy s

/-- Both devices of a station become busy (R150). -/
def setBusyStation (st : St) (s : State) : State := setBusyAt (lampOf s st) (setBusyAt (cameraOf s st) s)

/-- Both devices of a station are busy no longer (R150, R184). -/
def clearBusyStation (st : St) (s : State) : State := clearBusyAt (lampOf s st) (clearBusyAt (cameraOf s st) s)

/-! ### Asks (R148) -/

/-- A Station Sequencer's ask; for a device that is not UP it is not stood, and nothing is sent. -/
def placeAsk (st : St) (address kind : Byte) (payload : List Byte) (purpose : Purpose) (s : State) : State :=
  if isUp s address then
    { s with ring := { s.ring with asks := s.ring.asks.set st.val (some ⟨address, kind, payload, purpose⟩) st.isLt } }
  else s

/-- A station's ask to its camera. -/
def askCamera (st : St) (kind : Byte) (purpose : Purpose) (s : State) : State :=
  placeAsk st (cameraOf s st) kind [] purpose s

/-- A Station Sequencer withdraws its ask. -/
def dropAsk (st : St) (s : State) : State :=
  { s with ring := { s.ring with asks := s.ring.asks.set st.val none st.isLt } }

/-- The Label Composer's ask to the printer. -/
def placeComposerAsk (address kind : Byte) (payload : List Byte) (purpose : Purpose) (s : State) : State :=
  if isUp s address then { s with ring := { s.ring with composerAsk := some ⟨address, kind, payload, purpose⟩ } }
  else s

/-- The Label Composer withdraws its ask. -/
def dropComposerAsk (s : State) : State := { s with ring := { s.ring with composerAsk := none } }

/-- The ending of the transaction that a requester has in progress is no longer acted on (R67, R184). -/
def detach (r : Requester) (s : State) : State :=
  { s with ring := { s.ring with
      engine := s.ring.engine.map fun t => if t.requester = r then { t with detached := true } else t } }

/-- Whether a transaction of the station is in progress and its ending will be acted on. -/
def inProgress (s : State) (st : St) : Bool :=
  match s.ring.engine with
  | some t => t.requester == .station st && !t.detached
  | none => false

/-! ### The forward slot (8.4) -/

/-- Whether a console frame is reserved to the controller by the tables as they stand (R167, checks 1 and 2). -/
def isProtected (s : State) (f : LinkFrame) : Bool :=
  ((f.kind == kindLampSet || f.kind == kindShoot || f.kind == kindAdvance || f.kind == kindRewind)
      && (match boundStation s f.dst with | some st => s.bindings[st].enabled | none => false))
    || (f.kind == kindPrint
      && (match deviceIdx s f.dst with
          | some i => match s.devices[i] with | some d => d.cls == .printer | none => false
          | none => false))

/-- The frame in the forward slot is answered, and the slot is EMPTY (R169). -/
def answerForward (r : Record) (s : State) : State := answerWith r { s with slot := .empty }

/-- A frame enters the EMPTY slot with an ask, or is answered DEVICE_DOWN at once (R148, R168, R169). -/
def enterSlot (f : LinkFrame) (s : State) : State :=
  if isUp s f.dst then { s with slot := .asking f }
  else answerForward (.result f.tag .deviceDown []) s

/-- A device that leaves UP, or is removed, while the slot's ask for it stands (R148). -/
def slotDeviceDown (a : Byte) (s : State) : State :=
  match s.slot with
  | .asking f => if f.dst = a then answerForward (.result f.tag .deviceDown []) s else s
  | .empty | .running _ => s

/-! ### The Idle Poller's due set (R152) -/

/-- Whether the latched items of an entry's reports go upstream (R154). -/
def goesUpstream (s : State) (d : Device) : Bool :=
  match d.cls with
  | .lamp => true
  | .other => true
  | .printer => false
  | .camera => match cameraStation s d.addr with | some st => !s.bindings[st].enabled | none => true

/-- Whether the Idle Poller can serve an entry now (R152, R155). -/
def servable (s : State) (i : Fin 16) : Bool :=
  match s.devices[i] with
  | none => false
  | some d =>
    ((d.dueWake && (d.link == .absent || d.link == .lost)) || (d.duePoll && d.link == .up && !d.busy))
      && (s.ring.heldReports.isEmpty || !goesUpstream s d)

/-- The entry that comes `k` places after another, wrapping from 15 to 0. -/
def entryAfter (i : Fin 16) (k : Nat) : Fin 16 := ⟨(i.val + k) % 16, Nat.mod_lt _ (by decide)⟩

/-- The entry to be served next: the first servable one after the last served (R152). -/
def nextServed (s : State) : Option (Fin 16) :=
  ((List.range 16).map fun k => entryAfter s.ring.lastServed (k + 1)).find? (servable s)

/-! ### The engine and the Arbiter (R143, R144, R149) -/

/-- The next request tag (R143). -/
def nextTag (t : Byte) : Byte := t + 1

/-- A transaction of the controller's own starts: the entry's tag is advanced and the request built (R143, R144). -/
def startOwn (r : Requester) (i : Fin 16) (kind : Byte) (payload : List Byte) (purpose : Purpose) (s : State) : State :=
  match s.devices[i] with
  | none => s
  | some d =>
    let t : Transaction :=
      { requester := r, entry := i, cls := d.cls, purpose := purpose
        request := ⟨d.addr, ownAddress s.pins, kind, nextTag d.tag, payload⟩
        attempt := 1, orphan := false, void := false, detached := false, opened := 0 }
    { modDevice i (fun d => { d with tag := nextTag d.tag }) s with ring := { s.ring with engine := some t } }

/-- The sending of the request frame ends (R144): RDIR is released after the last CRC byte, and the reply window opens. -/
def Transaction.sent (t : Transaction) : Transaction := { t with opened := max t.opened t.attempt }

/-- What passes while no command waits: the frame that is being sent on the ring is sent to its end. While nRESET is low
nothing is sent (R180). -/
def ringFrameSent (s : State) : State :=
  if s.pins.nresetLow then s
  else { s with ring := { s.ring with engine := s.ring.engine.map Transaction.sent } }

/-- The PRINT that is sent counts as a reprint when one was sent before for this label and a pause lies between (R127). -/
def countPrint (purpose : Purpose) (s : State) : State :=
  if purpose = .print then
    modComposer (fun c =>
      { c with
          strips := if c.again && c.sent then
              c.strips.modifyHead fun p => { p with reprints := min (p.reprints + 1) 65535 }
            else c.strips
          sent := true, again := false }) s
  else s

/-- Whether a requester has a standing ask (R148). The Idle Poller asks whenever it can serve an entry (R152). -/
def hasAsk (s : State) : Requester → Bool
  | .forward => match s.slot with | .asking _ => true | .empty | .running _ => false
  | .station st => s.ring.asks[st].isSome
  | .composer => s.ring.composerAsk.isSome
  | .idlePoller => (nextServed s).isSome

/-- The place of a requester in the circle (R149). -/
def Requester.place : Requester → Nat
  | .forward => 0
  | .station st => 1 + st.val
  | .composer => 5
  | .idlePoller => 6

/-- The circle of requesters (R149). -/
def circle : List Requester :=
  [.forward, .station 0, .station 1, .station 2, .station 3, .composer, .idlePoller]

/-- The circle from the requester after a given one (R149). -/
def circleAfter (r : Requester) : List Requester := circle.drop (r.place + 1) ++ circle.take (r.place + 1)

/-- The requester that is granted next (R149). DESIGN CHOICE: two asks that reach an idle Arbiter within one act are granted
in the order of the circle too (log 46). -/
def nextGranted (s : State) : Option Requester := (circleAfter s.ring.lastGranted).find? (hasAsk s)

/-- The grant of the forward slot: a frame that is now protected is answered and not sent (R169). -/
def grantForward (s : State) : State :=
  match s.slot with
  | .asking f =>
    if isProtected s f then answerForward (.result f.tag .protectedDevice []) s
    else match deviceIdx s f.dst with
      | some i => match s.devices[i] with
        | some d =>
          let t : Transaction :=
            { requester := .forward, entry := i, cls := d.cls, purpose := .forwarded, request := f
              attempt := 1, orphan := false, void := false, detached := false, opened := 0 }
          { s with slot := .running f, ring := { s.ring with engine := some t } }
        | none => answerForward (.result f.tag .deviceDown []) s
      | none => answerForward (.result f.tag .deviceDown []) s
  | .empty | .running _ => s

/-- The grant of a Station Sequencer's ask, which is spent. -/
def grantStation (st : St) (s : State) : State :=
  match s.ring.asks[st] with
  | some a => match deviceIdx s a.address with
    | some i => startOwn (.station st) i a.kind a.payload a.purpose (dropAsk st s)
    | none => dropAsk st s
  | none => s

/-- The grant of the Label Composer's ask, which is spent. -/
def grantComposer (s : State) : State :=
  match s.ring.composerAsk with
  | some a => match deviceIdx s a.address with
    | some i => countPrint a.purpose (startOwn .composer i a.kind a.payload a.purpose (dropComposerAsk s))
    | none => dropComposerAsk s
  | none => s

/-- The grant of the Idle Poller: a wake makes the entry WAKING, a poll sends STATUS (R141, R152). -/
def grantIdle (s : State) : State :=
  match nextServed s with
  | none => s
  | some i => match s.devices[i] with
    | none => s
    | some d =>
      let s := { s with ring := { s.ring with lastServed := i } }
      if d.link = .up then
        startOwn .idlePoller i kindStatus [] .idlePoll (modDevice i (fun d => { d with duePoll := false }) s)
      else
        startOwn .idlePoller i kindWake [] .wake
          (modDevice i (fun d => { d with dueWake := false, link := .waking (d.link == .lost) }) s)

/-- One grant (R149). -/
def grantTo (r : Requester) (s : State) : State :=
  let s := { s with ring := { s.ring with lastGranted := r } }
  match r with
  | .forward => grantForward s
  | .station st => grantStation st s
  | .composer => grantComposer s
  | .idlePoller => grantIdle s

/-- While the engine is idle and an ask stands, the next requester of the circle is granted. A grant that sends nothing
(R169) is followed by the next at once. -/
def grantLoop : Nat → State → State
  | 0, s => s
  | n + 1, s =>
    match s.ring.engine with
    | some _ => s
    | none => match nextGranted s with
      | some r => grantLoop n (grantTo r s)
      | none => s

/-- The Arbiter's part at the end of every act (R149). -/
def arbitrate (s : State) : State := grantLoop 8 s

end Sys2Proof.Machine
end

