-- ==== Sys2Proof/Machine/Labels.lean ====
section
/-! DEFINITION. The Label Composer's shared operations (Chapter 6): composing a label (6.2), the Label Store (6.3),
printing (6.4, 6.5) and the print barrier's count (6.6). -/

namespace Sys2Proof.Machine

/-! ### Composing (6.2) -/

/-- Fixed words as bytes. -/
def word (cs : List Char) : List Byte := cs.map fun c => u8 c.toNat

/-- A number in decimal, without leading zeros and without a sign (R115). -/
def decimal (n : Nat) : List Byte := word (Nat.toDigits 10 n)

/-- A line from its pieces (R114): empty pieces dropped, the rest joined with one space and cut to 24 characters. -/
def composeLine (pieces : List (List Byte)) : List Byte :=
  ((pieces.filter (fun p => !p.isEmpty)).intersperse [0x20]).flatten.take 24

/-- The offset of a step in stops (R116): whole stops, remaining thirds, or "0". -/
def offsetText (size : Nat) : List Byte :=
  let w := size / 3
  let t := size % 3
  if t = 0 then decimal w
  else if w = 0 then decimal t ++ word ['/', '3']
  else decimal w ++ word [' '] ++ decimal t ++ word ['/', '3']

/-- The letters of a channel set; none when it is all three channels (R116). -/
def channelLetters (c : Rgb Bool) : List Byte :=
  if c.r && c.g && c.b then []
  else (if c.r then word ['R'] else []) ++ (if c.g then word ['G'] else []) ++ (if c.b then word ['B'] else [])

/-- The step part of a STEPMARK (R116, part 1). -/
def stepText (p : PlanStep) : List Byte :=
  channelLetters p.channels ++ (if 0 ≤ p.offset then word ['+'] else word ['-']) ++ offsetText p.offset.natAbs

/-- Whether any channel carries a mark (R51, R116). -/
def anyMark (m : Rgb Mark) : Bool := m.r.any || m.g.any || m.b.any

/-- The STEPMARK item (R116). -/
def stepMark (steps : List PlanStep) (copies : Nat) (rec : FrameRec) : List Byte :=
  (if rec.nominal then word ['N']
   else match steps[rec.step - 1]? with | some p => stepText p | none => [])
    ++ (if anyMark rec.marks then word ['!'] else [])
    ++ (if 1 < copies then word ['c'] ++ decimal rec.copy else [])

/-- The text of a template item (R115). -/
def itemText (stand : StandText) (o : Order) (steps : List PlanStep) (roll : Nat) (rec : FrameRec) :
    ItemKind → List Byte
  | .literal t => t
  | .course => o.terms.course
  | .title => o.terms.title
  | .order => decimal rec.order
  | .original => decimal rec.original
  | .stepmark => stepMark steps o.terms.copies rec
  | .frame => decimal rec.number
  | .roll => decimal roll
  | .date => stand.date
  | .stand => stand.name

/-- A frame label (R117): each line from the template's items of that line, in record order. -/
def frameLabel (items : List Item) (stand : StandText) (o : Order) (steps : List PlanStep) (roll : Nat)
    (rec : FrameRec) : Lines :=
  let line (n : Nat) :=
    composeLine ((items.filter (·.line == n)).map fun i => itemText stand o steps roll rec i.kind)
  ⟨line 1, line 2⟩

/-- The word of a spoil reason (R118). -/
def SpoilReason.word : SpoilReason → List Byte
  | .aborted => Machine.word ['A', 'B', 'O', 'R', 'T', 'E', 'D']
  | .uncertain => Machine.word ['U', 'N', 'C', 'E', 'R', 'T', 'A', 'I', 'N']
  | .lamp => Machine.word ['L', 'A', 'M', 'P']

/-- A void label (R118). -/
def voidLabel (reason : SpoilReason) (rec : FrameRec) : Lines :=
  ⟨composeLine [word ['V', 'O', 'I', 'D'], reason.word],
   composeLine [word ['F', 'R'], decimal rec.number, word ['O', 'R', 'D'], decimal rec.order]⟩

/-- A header label (R119). -/
def headerLabel (stand : StandText) (st : St) (m : RollMap) (reason : CloseReason) : Lines :=
  ⟨composeLine [stand.name, word ['S'] ++ decimal (stationNumber st), word ['R', 'O', 'L', 'L'], decimal m.roll],
   composeLine ([word ['S', 'T', 'O', 'C', 'K'], decimal m.stock,
      decimal (m.next - 1) ++ word ['/'] ++ decimal m.length]
      ++ (if reason = .mismatch then [word ['C', 'H', 'E', 'C', 'K']] else []))⟩

/-! ### The Label Store (6.3) -/

def setSlot (i : Fin 320) (x : Slot) (s : State) : State :=
  modComposer (fun c => { c with slots := c.slots.set i.val x i.isLt }) s

/-- The FREE slots, lowest index first. -/
def freeSlots (c : Composer) : List (Fin 320) := (List.finRange 320).filter fun i => c.slots[i] == .free

/-- The free count (R120). -/
def freeCount (c : Composer) : Nat := (freeSlots c).length

/-- The two lines of a COMPOSED or QUEUED slot; a slot of any other state holds no lines. -/
def slotLines (c : Composer) (i : Fin 320) : Lines :=
  match c.slots[i] with
  | .composed _ l => l
  | .queued l => l
  | .free => ⟨[], []⟩
  | .reserved _ => ⟨[], []⟩

/-- A label is written into its slot, which becomes COMPOSED (R117, R118, R119). -/
def composeSlot (i : Fin 320) (tie : Tie) (l : Lines) (s : State) : State := setSlot i (.composed tie l) s

/-- A station in WAITING (LABELS) is told that it may try its head again (R71); no other station takes the notice. -/
def tellLabels (st : St) (s : State) : State :=
  if s.stations[st].state = .waitingLabels
      ∧ ((s.rolls[st].map.map fun m => m.closing.isNone).getD false) = true then
    modStation st (fun x => { x with state := .ready }) s
  else s

/-- A slot is given to a station's open map as its header slot (R122). -/
def giveHeader (st : St) (i : Fin 320) (s : State) : State :=
  modRoll st (fun r => { r with map := r.map.map (fun m => { m with header := some i }), headerRequest := false })
    (setSlot i (.reserved (.header st)) s)

/-- A FREE slot goes to the head of the header list, if there is one (R123, step 2). -/
def serveHeader (s : State) : State :=
  match s.composer.headerList, freeSlots s.composer with
  | st :: rest, i :: _ =>
    tellLabels st (giveHeader st i (modComposer (fun c => { c with headerList := rest }) s))
  | _, _ => s

/-- Every label waiter whose count now fits is told, and its record is removed (R123, step 3). -/
def tellWaiters (s : State) : State :=
  let told := s.composer.labelWaiters.filter fun w => decide (w.2 ≤ freeCount s.composer)
  told.foldl (fun s w => tellLabels w.1 s)
    (modComposer (fun c => { c with
      labelWaiters := c.labelWaiters.filter fun w => !decide (w.2 ≤ freeCount s.composer) }) s)

/-- A slot is freed (R123). -/
def freeSlot (i : Fin 320) (s : State) : State := tellWaiters (serveHeader (setSlot i .free s))

/-- A header request (R122): the lowest FREE slot at once, or a place at the tail of the header list. -/
def requestHeader (st : St) (s : State) : State :=
  match freeSlots s.composer with
  | i :: _ => giveHeader st i s
  | [] =>
    modRoll st (fun r => { r with headerRequest := true })
      (modComposer (fun c => { c with headerList := c.headerList ++ [st] }) s)

/-- A header request is withdrawn (R40, R122). -/
def withdrawHeader (st : St) (s : State) : State :=
  modRoll st (fun r => { r with headerRequest := false })
    (modComposer (fun c => { c with headerList := c.headerList.erase st }) s)

/-- The station becomes a label waiter, in place of any earlier record of it (R121). -/
def addLabelWaiter (st : St) (k : Nat) (s : State) : State :=
  modComposer (fun c => { c with labelWaiters := c.labelWaiters.filter (fun w => w.1 != st) ++ [(st, k)] }) s

/-- The slots of a reservation are marked RESERVED, each tied to its frame (R121). -/
def reserveSlots (st : St) : List (Fin 320 × Nat) → State → State
  | [], s => s
  | (i, n) :: rest, s => reserveSlots st rest (setSlot i (.reserved (.frame st n)) s)

/-! ### Printing (6.4, 6.5) -/

/-- The station of the strip at the head of the list (R125, R127). -/
def headStripStation (s : State) : Option St := s.composer.strips.head?.map (·.st)

/-- The printer's address; 00h when the Device Table holds no PRINTER entry. -/
def printerAddress (s : State) : Byte :=
  match printerIdx s with
  | some i => match s.devices[i] with | some d => d.addr | none => 0
  | none => 0

/-- A fault of the Label Composer (R197). -/
def printerFault (kind : FaultKind) (frameKind : Byte) (reason : Option Byte) (s : State) : FaultRecord :=
  ⟨kind, printerAddress s, frameKind, headStripStation s, none, none, reason⟩

/-- The lines of the current label: the next label of the head strip (6.4). -/
def currentLines (s : State) : Lines :=
  match s.composer.strips with
  | p :: _ => match p.labels[p.next]? with
    | some i => slotLines s.composer i
    | none => ⟨[], []⟩
  | [] => ⟨[], []⟩

/-- The Composer asks for a PRINT of the current label (R126). -/
def askPrint (s : State) : State :=
  placeComposerAsk (printerAddress s) kindPrint (printPayload (currentLines s)) .print s

/-- The Composer enters SENDING for the current label (R126); the printer becomes busy (R150). -/
def startSending (s : State) : State :=
  askPrint (setBusyAt (printerAddress s) (modComposer (fun c => { c with print := .sending }) s))

/-- The Composer is paused (R127 to R130): its limit, timers and ask stop, and the printer is busy no longer. DESIGN CHOICE:
every pause, also one that a report or a loss brings between two WAITs, returns the WAIT count to 0 (log 45). -/
def pauseComposer (reason : PauseReason) (s : State) : State :=
  detach .composer (dropComposerAsk (clearBusyAt (printerAddress s)
    (modComposer (fun c => { c with
      print := .paused reason, again := true, printLimit := false, pollTimer := false, gap := none, waits := 0 }) s)))

/-- Printing starts on the head strip (R126), or waits for the printer, or stands on the pause that the report that
finished the strip before it left (R131). -/
def startPrinting (s : State) : State :=
  match s.composer.strips with
  | [] => modComposer (fun c => { c with print := .idle }) s
  | _ :: _ =>
    match printerUp s, s.composer.heldPause with
    | none, _ => modComposer (fun c => { c with print := .noPrinter }) s
    | some _, some reason => modComposer (fun c => { c with print := .paused reason, heldPause := none }) s
    | some _, none => startSending s

/-- A strip joins the tail of the list; printing starts when the list was empty (R124, R126). -/
def releaseStrip (p : Strip) (s : State) : State :=
  let s' := p.labels.foldl (fun s i => setSlot i (.queued (slotLines s.composer i)) s) s
  let s'' := modComposer (fun c => { c with strips := c.strips ++ [p] }) s'
  if s.composer.strips.isEmpty && s.composer.print != .posting then startPrinting s'' else s''

/-- A strip leaves the list: a pending barrier counts it, and is answered when its count reaches 0 (R131, R133). -/
def countBarrier (s : State) : State :=
  match s.composer.barrierCount, s.deferred with
  | some n, some tag =>
    if n ≤ 1 then
      answerWith (.result tag .done [])
        { modComposer (fun c => { c with barrierCount := none }) s with deferred := none }
    else modComposer (fun c => { c with barrierCount := some (n - 1) }) s
  | _, _ => s

/-- The steps after a STRIP_PRINTED has been queued (R131). -/
def stripLeaves (s : State) : State :=
  startPrinting (countBarrier (modComposer (fun c =>
    { c with strips := c.strips.tail, pendingPost := none, sent := false, again := false }) s))

/-- The STRIP_PRINTED of a strip (R131). -/
def Strip.event (p : Strip) : Event := .stripPrinted p.st p.roll p.reason p.labels.length p.reprints

/-- The head strip is finished: its STRIP_PRINTED is posted, or the Composer enters POSTING (R131). -/
def finishStrip (s : State) : State :=
  match s.composer.strips with
  | [] => s
  | p :: _ =>
    let s := detach .composer (clearBusyAt (printerAddress s) s)
    if canPost s.eq then stripLeaves (joinTail (.event 0 p.event) s)
    else addWaiter .stripPrinted
      (modComposer (fun c => { c with print := .posting, pendingPost := some p.event }) s)

/-- The pause reason that a condition gives (R128). -/
def Condition.pause : Condition → Option PauseReason
  | .ready => none
  | .busy => none
  | .outOfStock => some .outOfStock
  | .jam => some .jam

/-- The current label is done (R128): its slot is freed and the strip moves on; the report's condition may pause it. -/
def labelDone (condition : Condition) (s : State) : State :=
  match s.composer.strips with
  | [] => s
  | p :: rest =>
    let s := dropComposerAsk (modComposer (fun c => { c with
      printLimit := false, pollTimer := false, gap := none, waits := 0
      strips := { p with next := p.next + 1 } :: rest, sent := false, again := false }) s)
    let s := match p.labels[p.next]? with | some i => freeSlot i s | none => s
    if p.labels.length ≤ p.next + 1 then
      finishStrip (modComposer (fun c => { c with heldPause := condition.pause }) s)
    else match condition.pause with
      | some reason => pauseComposer reason s
      | none => startSending (detach .composer s)

/-- The printer leaves UP (R130). -/
def printerDown (s : State) : State :=
  match s.composer.print with
  | .sending => pauseComposer .lost s
  | .confirming => pauseComposer .lost s
  | .paused _ => modComposer (fun c => { c with print := .paused .lost }) s
  | .idle => if s.composer.strips.isEmpty then s else modComposer (fun c => { c with print := .noPrinter }) s
  | .noPrinter => s
  | .posting => s

/-- The printer reaches UP (R126, R130). -/
def printerReachesUp (s : State) : State :=
  match s.composer.print with
  | .noPrinter => startPrinting s
  | .idle | .sending | .confirming | .paused _ | .posting => s

/-- The PRINTER entry is removed: condition and attention are cleared (R125). -/
def printerRemoved (s : State) : State :=
  printerDown (modComposer (fun c => { c with condition := none, attention := false }) s)

/-- The condition of a report is kept, sets or clears printer attention, and a new JAM is captured (R125). -/
def keepCondition (r : PrinterReport) (s : State) : State :=
  let s' := modComposer (fun c => { c with
    condition := some r.condition, attention := r.condition.pause.isSome }) s
  if r.condition = .jam ∧ s.composer.condition ≠ some .jam then
    offerFault (printerFault .printerJam kindPrint none s) s'
  else s'

/-- A printer report is taken (R125, R128, R129). -/
def printerReport (r : PrinterReport) (s : State) : State :=
  let s := keepCondition r s
  match s.composer.print with
  | .sending =>
    if r.printed then labelDone r.condition s
    else match r.condition.pause with
      | some reason => pauseComposer reason s
      | none => s
  | .confirming =>
    if r.printed then labelDone r.condition s
    else match r.condition.pause with
      | some reason => pauseComposer reason s
      | none => s
  | .paused _ =>
    if (printerUp s).isNone then s
    else if r.printed then labelDone r.condition s
    else match r.condition with
      | .ready => startSending s
      | .busy => modComposer (fun c => { c with print := .paused .busy }) s
      | .outOfStock => modComposer (fun c => { c with print := .paused .outOfStock }) s
      | .jam => modComposer (fun c => { c with print := .paused .jam }) s
  | .idle | .noPrinter | .posting => s

/-- The endings of the Composer's own transactions (R127, R128). -/
inductive Ending where
  | ack
  | nak (reason : Byte)
  | wait
  | status
deriving DecidableEq, Repr

/-- The 200th consecutive WAIT, or a NAK, to a PRINT: the fault is captured and the Composer is PAUSED (REFUSED). -/
def refusePrint (kind : FaultKind) (reason : Option Byte) (s : State) : State :=
  pauseComposer .refused (offerFault (printerFault kind kindPrint reason s) s)

/-- The ending of a PRINT (R127). -/
def printEnding (e : Ending) (s : State) : State :=
  if s.composer.print ≠ .sending then s
  else match e with
    | .ack =>
      modComposer (fun c => { c with print := .confirming, printLimit := true, pollTimer := true, waits := 0 }) s
    | .nak reason => refusePrint .deviceNak (some reason) s
    | .wait =>
      if Config.waitLimit ≤ s.composer.waits + 1 then refusePrint .waitLimit none s
      else modComposer (fun c => { c with waits := c.waits + 1, gap := some .print }) s
    | .status => s

/-- The ending of a print poll (R128): a WAIT is asked again after the gap, any other ending starts the poll timer. -/
def printPollEnding (e : Ending) (s : State) : State :=
  if s.composer.print ≠ .confirming then s
  else match e with
    | .wait => modComposer (fun c => { c with gap := some .printPoll }) s
    | .ack => modComposer (fun c => { c with pollTimer := true }) s
    | .nak _ => modComposer (fun c => { c with pollTimer := true }) s
    | .status => modComposer (fun c => { c with pollTimer := true }) s

/-- The ending of a transaction of the Composer's. -/
def composerEnding (p : Purpose) (e : Ending) (s : State) : State :=
  match p with
  | .print => printEnding e s
  | .printPoll => printPollEnding e s
  | _ => s

end Sys2Proof.Machine
end

