-- ==== Sys2Proof/Machine/Rolls.lean ====
section
/-! DEFINITION. The Roll Tracker's operations (Chapter 2): marks, advance, reservation, release, opening and closing of a
Roll Map. Each takes the station, and where R31 asks for it the roll number, that the request names. -/

namespace Sys2Proof.Machine

/-! ### The map and its records -/

/-- The map that a request for a station and a roll number is meant for; none is MAP_CLOSED (R31). -/
def openMap (s : State) (st : St) (roll : Nat) : Option RollMap :=
  match s.rolls[st].map with
  | some m => if m.roll = roll ∧ m.closing = none then some m else none
  | none => none

/-- Whether a close of the station's map is under way (R40). -/
def closeUnderWay (s : State) (st : St) : Bool := (s.rolls[st].map.map fun m => m.closing.isSome).getD false

/-- Whether the station's map waits for its ROLL_OPEN to be queued (R25). -/
def openWaits (s : State) (st : St) : Bool := (s.rolls[st].map.map (·.opening)).getD false

/-- The record of a frame (R28). -/
def recordAt (m : RollMap) (f : Nat) : Option FrameRec := m.frames.find? fun r => r.number == f

/-- Whether the record of a frame is marked EXPOSED or SPOILED. -/
def isMarked (m : RollMap) (f : Nat) : Bool :=
  match recordAt m f with
  | some r => r.state != .reserved
  | none => false

/-- A frame record's state changed. -/
def setFrameState (st : St) (f : Nat) (x : FrameState) (s : State) : State :=
  modMap st (fun m => { m with frames := m.frames.map fun r => if r.number = f then { r with state := x } else r }) s

/-! ### Marks (R29) -/

/-- The answers to a mark. -/
inductive MarkAnswer where
  | marked | already | closed
deriving DecidableEq, Repr

/-- What follows a first mark EXPOSED (R29): conversion and charge, frame label, exposed count. -/
def exposeFrame (st : St) (m : RollMap) (r : FrameRec) (s : State) : State :=
  match orderOf s r.order with
  | none => s
  | some o =>
    let s := reportOrder r.order (fun o => { o with charged := satAdd o.charged r.hold })
      (convertHeld o.terms.account r.hold s)
    let steps := (s.plans[o.terms.plan]).getD []
    let lines := frameLabel s.composer.templates[o.terms.template] s.composer.stand o steps m.roll r
    reportOrder r.order (fun o => { o with exposed := satAdd o.exposed 1 })
      (composeSlot r.slot (.frame st r.number) lines s)

/-- What follows a first mark SPOILED (R29): release of the hold, void label, spoiled count. -/
def spoilFrame (st : St) (reason : SpoilReason) (r : FrameRec) (s : State) : State :=
  let s := match orderOf s r.order with
    | some o => releaseHeld o.terms.account r.hold s
    | none => s
  reportOrder r.order (fun o => { o with spoiled := satAdd o.spoiled 1 })
    (composeSlot r.slot (.frame st r.number) (voidLabel reason r) s)

/-- A frame is marked EXPOSED (R29). -/
def markExposed (st : St) (roll f : Nat) (s : State) : MarkAnswer × State :=
  match openMap s st roll with
  | none => (.closed, s)
  | some m => match recordAt m f with
    | none => (.closed, s)
    | some r =>
      if r.state = .reserved then (.marked, exposeFrame st m r (setFrameState st f .exposed s)) else (.already, s)

/-- A frame is marked SPOILED with a reason (R29). -/
def markSpoiled (st : St) (roll f : Nat) (reason : SpoilReason) (s : State) : MarkAnswer × State :=
  match openMap s st roll with
  | none => (.closed, s)
  | some m => match recordAt m f with
    | none => (.closed, s)
    | some r =>
      if r.state = .reserved then (.marked, spoilFrame st reason r (setFrameState st f (.spoiled reason) s))
      else (.already, s)

/-! ### Advance (R30) -/

/-- The answers to an advance. -/
inductive AdvanceAnswer where
  | advanced | rollEnd | closed
deriving DecidableEq, Repr

/-- P moves to P + 1; a P of length + 1 is ROLL_END (R30). -/
def advanceRoll (st : St) (roll : Nat) (s : State) : AdvanceAnswer × State :=
  match openMap s st roll with
  | none => (.closed, s)
  | some m =>
    (if m.gate + 1 = m.length + 1 then .rollEnd else .advanced, modMap st (fun m => { m with gate := m.gate + 1 }) s)

/-! ### Release (R36) -/

/-- One released record gives up its hold and its slot (R36, step 3). -/
def releaseRecord (r : FrameRec) (s : State) : State :=
  freeSlot r.slot (match orderOf s r.order with
    | some o => releaseHeld o.terms.account r.hold s
    | none => s)

/-- The first frame of a release from `f`: the next one when the record at `f` is marked (R36, step 1). -/
def releaseStart (m : RollMap) (f : Nat) : Nat := if isMarked m f then f + 1 else f

/-- The records from the starting frame up leave the map, their holds and slots are given back in ascending order, and the
reserved total falls by their number (R36). -/
def releaseRun (st : St) (m : RollMap) (f : Nat) (s : State) : State :=
  let start := releaseStart m f
  match m.frames.filter fun r => decide (start ≤ r.number) with
  | [] => s
  | r :: rest =>
    let s := modMap st (fun m =>
      { m with frames := m.frames.filter fun r => decide (r.number < start), next := start }) s
    reportOrder r.order (fun o => { o with reserved := o.reserved - (r :: rest).length })
      ((r :: rest).foldl (fun s r => releaseRecord r s) s)

/-- A release from frame `f` (R36); false is MAP_CLOSED. -/
def release (st : St) (roll f : Nat) (s : State) : Bool × State :=
  match openMap s st roll with
  | none => (false, s)
  | some m => (true, releaseRun st m f s)

/-! ### Reservation (R32 to R35) -/

/-- The answers to a reservation. -/
inductive ReserveAnswer where
  | reserved (first count : Nat)
  | budget | tooManyFrames | mapClosed | noRoom | labels
deriving DecidableEq, Repr

/-- The frame records of a bracket set from frame `first` on (R33), with the hold amounts of R99; a record's slot is set
when the slots are given. -/
def bracketSet (stock : Stock) (o : Order) (q : Request) (steps : List PlanStep) (t : Tariff) (first : Nat) :
    List FrameRec :=
  steps.zipIdx.flatMap fun p =>
    (List.range o.terms.copies).map fun j =>
      { number := first + p.2 * o.terms.copies + j, state := .reserved, order := q.order, original := q.original
        step := p.2 + 1, copy := j + 1, nominal := p.1.isNominal
        times := (stepTimes stock o.terms.trim q.index q.marks p.1).1
        marks := (stepTimes stock o.terms.trim q.index q.marks p.1).2
        hold := frameHold t p.1.isNominal, slot := 0 }

/-- The number of film frames of a request (R59). -/
def setSize (steps : List PlanStep) (o : Order) : Nat := steps.length * o.terms.copies

/-- The sum H of the hold amounts of a bracket set (R99). -/
def holdSum (recs : List FrameRec) : Nat := recs.foldl (fun h r => satAdd h r.hold) 0

/-- The reservation stands (R35): the records join the map with their slots, N rises, H is held, the reserved total
rises. -/
def standReservation (st : St) (o : Order) (recs : List FrameRec) (s : State) : State :=
  let slots := (freeSlots s.composer).take recs.length
  let recs' := List.zipWith (fun r i => { r with slot := i }) recs slots
  let s := addHeld o.terms.account (holdSum recs) s
  let s := reserveSlots st (recs'.map fun r => (r.slot, r.number)) s
  let s := modMap st (fun m => { m with frames := m.frames ++ recs', next := m.next + recs.length }) s
  reportOrder o.terms.number (fun o => { o with reserved := satAdd o.reserved recs.length }) s

/-- The holds and the slots of a bracket set (R34): BUDGET, LABELS with a label waiter, or RESERVED. -/
def reserveSet (st : St) (m : RollMap) (o : Order) (recs : List FrameRec) (s : State) : ReserveAnswer × State :=
  match accountOf s o.terms.account with
  | none => (.budget, s)
  | some a =>
    if fits a (holdSum recs) then
      if recs.length ≤ freeCount s.composer then
        (.reserved m.next recs.length, standReservation st o recs s)
      else (.labels, addLabelWaiter st recs.length s)
    else (.budget, s)

/-- A reservation (R32 to R35), taken whole. -/
def reserve (st : St) (roll : Nat) (q : Request) (s : State) : ReserveAnswer × State :=
  match openMap s st roll, orderOf s q.order with
  | some m, some o => match s.plans[o.terms.plan], stockOf s m.stock, s.tariffs[o.cls] with
    | some steps, some stock, some t =>
      if m.length < setSize steps o then (.tooManyFrames, s)
      else if m.length + 1 - m.next < setSize steps o then (.noRoom, s)
      else if m.header = none then (.labels, s)
      else reserveSet st m o (bracketSet stock o q steps t m.next) s
    | _, _, _ => (.mapClosed, s)
  | _, _ => (.mapClosed, s)

/-! ### Opening (R24 to R27) -/

/-- The flag rule (R24): a report of "no roll" clears both flags. -/
def noteRollStatus (st : St) (present : Bool) (s : State) : State :=
  if present then s else modRoll st (fun r => { r with removalRequired := false, insertionReported := false }) s

/-- The roll counter's next value (R25). -/
def nextRoll (counter : Nat) : Nat := if counter = 65535 then 1 else counter + 1

/-- A fresh map (R25). -/
def RollMap.fresh (k : Stock) (roll : Nat) : RollMap :=
  { stock := k.code, length := k.length, roll := roll, gate := 1, next := 1, header := none, frames := []
    opening := false, closing := none }

/-- The map's ROLL_OPEN event. -/
def rollOpenEvent (st : St) (m : RollMap) : Event := .rollOpen st m.roll m.stock m.length

/-- A map opens (R25, R27): counter, map, header request, ROLL_OPEN. The station leaves NO_ROLL when the event is queued at
once (R64). -/
def openRoll (st : St) (k : Stock) (s : State) : State :=
  let m := RollMap.fresh k (nextRoll s.rolls[st].counter)
  let s := requestHeader st (modRoll st (fun r => { r with map := some m, counter := m.roll }) s)
  if canPost s.eq then modStation st (fun x => { x with state := .ready }) (joinTail (.event 0 (rollOpenEvent st m)) s)
  else addWaiter (.rollOpen st) (modMap st (fun m => { m with opening := true }) s)

/-- A refused roll is reported once per insertion, and only when a place is free (R26). -/
def refuseRoll (st : St) (e : Event) (s : State) : State :=
  if s.rolls[st].insertionReported || !canPost s.eq then s
  else joinTail (.event 0 e) (modRoll st (fun r => { r with insertionReported := true }) s)

/-- A report taken for opening (R25, R26). -/
def openOrRefuse (st : St) (r : CameraReport) (s : State) : State :=
  if !r.present || s.rolls[st].removalRequired then s
  else match stockOf s r.stock with
    | some k => if r.gate = 1 then openRoll st k s else refuseRoll st (.rollUnusable st r.stock r.gate) s
    | none => refuseRoll st (.unknownStock st r.stock r.gate) s

/-! ### Closing (R40) -/

/-- The number of records in a state that satisfies a test. -/
def countFrames (m : RollMap) (p : FrameState → Bool) : Nat := (m.frames.filter fun r => p r.state).length

/-- The map's ROLL_REPORT event (R40, step 2). -/
def rollReportEvent (st : St) (m : RollMap) (reason : CloseReason) : Event :=
  .rollReport st m.roll m.stock reason (m.next - 1) (countFrames m fun x => x == .exposed)
    (countFrames m fun x => match x with | .spoiled _ => true | _ => false) m.header.isSome

/-- The lowest RESERVED frame of a map. -/
def lowestReserved (m : RollMap) : Option Nat := (m.frames.find? fun r => r.state == .reserved).map (·.number)

/-- Step 1 of a close (R40): the map is closing, its RESERVED records are released and an outstanding header request is
withdrawn. -/
def beginClose (st : St) (reason : CloseReason) (s : State) : State :=
  let s := match s.rolls[st].map with
    | some m => match lowestReserved m with
      | some f => releaseRun st m f (modMap st (fun m => { m with closing := some reason }) s)
      | none => modMap st (fun m => { m with closing := some reason }) s
    | none => s
  if s.rolls[st].headerRequest then withdrawHeader st s else s

/-- The strip of a closed map (R40, step 3): the header slot, then the slots of its frames in ascending order. -/
def mapStrip (st : St) (m : RollMap) (reason : CloseReason) (h : Fin 320) : Strip :=
  { st := st, roll := m.roll, reason := reason, labels := h :: m.frames.map (·.slot), next := 0, reprints := 0 }

/-- Steps 3 and 4 of a close (R40): the header label and the strip, then the map is discarded. -/
def discardMap (st : St) (s : State) : State :=
  match s.rolls[st].map with
  | none => s
  | some m =>
    let reason := m.closing.getD .unloaded
    let s := match m.header with
      | some h =>
        releaseStrip (mapStrip st m reason h)
          (composeSlot h (.header st) (headerLabel s.composer.stand st m reason) s)
      | none => s
    modRoll st (fun r => { r with map := none, headerRequest := false, lastClose := some reason }) s

end Sys2Proof.Machine
end

