-- ==== Sys2Proof/Machine/Stations.lean ====
section
/-! DEFINITION. The Station Sequencers' operations (Chapters 4 and 9): the run of a frame, the end of a request, suspension
and resume, abort and cancel, and the use of camera reports and of transaction endings. -/

namespace Sys2Proof.Machine

/-! ### Shared pieces -/

/-- A station with its phase none, its timers and its WAIT gap stopped and its WAIT count 0 (R83, R184). -/
def Station.quiet (x : Station) : Station :=
  { x with phase := none, pollTimer := false, shotLimit := none, advanceLimit := false, rewindLimit := false
           gap := none, waits := 0 }

/-- The roll number of the station's map; 0 when it has none. -/
def rollOf (s : State) (st : St) : Nat := (s.rolls[st].map.map (·.roll)).getD 0

/-- The gate frame of the station's map; 0 when it has none. -/
def gateOf (s : State) (st : St) : Nat := (s.rolls[st].map.map (·.gate)).getD 0

/-- The roll number that the head request reserved its frames on. -/
def headRoll (s : State) (st : St) : Nat :=
  match headOf s st with
  | some q => match q.frames with | some r => r.roll | none => rollOf s st
  | none => rollOf s st

/-- Whether the head request carries its abort marker. -/
def headAborts (s : State) (st : St) : Bool := ((headOf s st).map (·.abort)).getD false

/-- Whether the head request holds reserved frames and has not ended. -/
def headHolds (s : State) (st : St) : Bool :=
  match headOf s st with
  | some q => (q.state == .running || q.state == .suspended) && q.frames.isSome && q.outcome.isNone
  | none => false

/-- A fault of a Station Sequencer (R197): order and gate frame while a request is held. -/
def stationFault (kind : FaultKind) (st : St) (address frameKind : Byte) (reason : Option Byte) (s : State) :
    FaultRecord :=
  { kind := kind, address := address, frameKind := frameKind, station := some st
    order := if headHolds s st then (headOf s st).map (·.order) else none
    frame := if headHolds s st then some (gateOf s st) else none
    nakReason := reason }

/-- The state without a roll (R64): OFFLINE, WAITING (FILM) or NO_ROLL. -/
def rollLessState (s : State) (st : St) : StationState :=
  if bothUp s st then
    match headOf s st with
    | some q => if q.state = .waitingFilm then .waitingFilm else .noRoll
    | none => .noRoll
  else .offline

/-- A station enters the state that R64 gives, with nothing running and its suspension record cleared (R181). -/
def enterRollLess (st : St) (s : State) : State :=
  detach (.station st) (dropAsk st (clearBusyStation st
    (modStation st (fun x =>
      { x.quiet with state := rollLessState s st, rollCheck := false, rollEnd := false, susp := Suspension.clear }) s)))

/-- A station enters READY with roll check pending and asks for one STATUS (R63, R66). -/
def enterChecked (st : St) (s : State) : State :=
  askCamera st kindStatus .rollCheck
    (modStation st (fun x => { x with state := .ready, rollCheck := true, gap := none, waits := 0 }) s)

/-- The state of an enabled station whose devices are both UP and that drives nothing (R63, R66). -/
def enterIdle (st : St) (s : State) : State :=
  match s.rolls[st].map with
  | none => modStation st (fun x => { x with state := rollLessState s st }) s
  | some m =>
    if m.opening then modStation st (fun x => { x with state := rollLessState s st }) s
    else enterChecked st s

/-- An unload starts (R38): the camera is busy (R150) and a REWIND is asked for. -/
def startUnload (st : St) (s : State) : State :=
  askCamera st kindRewind .rewind (setBusyAt (cameraOf s st)
    (modStation st (fun x => { x.quiet with state := .unloading, susp := Suspension.clear }) s))

/-- Entry to SUSPENDED as one act (R184). -/
def enterSuspended (st : St) (phase : SuspendedPhase) (held owed : Bool) (s : State) : State :=
  detach (.station st) (dropAsk st (clearBusyStation st
    (modStation st (fun x =>
      { x.quiet with
          state := .suspended, susp := ⟨phase, held, owed, none, .awaiting⟩
          queue := if held then x.queue.modifyHead fun q => { q with state := .suspended } else x.queue }) s)))

/-- A station is suspended in an unload (R183). -/
def suspendUnload (st : St) (owed : Bool) (s : State) : State := enterSuspended st .unload false owed s

/-! ### A step of the resume fails (R183) -/

/-- The phase that a failure of a resume step leaves (R183). -/
def Suspension.failedPhase (u : Suspension) : SuspendedPhase :=
  match u.step with
  | .settlingAdvance => .advance
  | .settlingAdvanceWait => .advanceWait
  | .awaiting => u.phase
  | .checking => u.phase

/-- A step of the resume fails (R183): back to AWAITING; release owed may be set and is never cleared. -/
def failStep (st : St) (owed : Bool) (s : State) : State :=
  detach (.station st) (dropAsk st
    (modStation st (fun x =>
      { x.quiet with susp := { x.susp with
          step := .awaiting, phase := x.susp.failedPhase, releaseOwed := x.susp.releaseOwed || owed } }) s))

/-! ### The end of a request (R83, R84) -/

/-- The REQUEST_DONE of a request (R83). -/
def Request.doneEvent (q : Request) (outcome : RequestOutcome) : Event :=
  .requestDone q.order q.original ((q.frames.map (·.first)).getD 0) ((q.frames.map (·.count)).getD 0) q.exposed
    q.spoiled outcome

/-- Where a station goes when its request has ended (R83); a loss noted while the post waited is taken now (R84). -/
def afterRequest (st : St) (leftUp : Bool) (s : State) : State :=
  let x := s.stations[st]
  if x.rollEnd then
    let s := startUnload st (modStation st (fun x => { x with rollEnd := false }) s)
    if bothUp s st then s else suspendUnload st false s
  else match s.rolls[st].map with
    | none => enterRollLess st s
    | some _ =>
      if x.state = .suspended then s
      else if bothUp s st then
        if leftUp then enterChecked st s else modStation st (fun x => { x with state := .ready }) s
      else modStation st (fun x => { x with state := .offline }) s

/-- The ended request leaves the head, and its timers stop (R83); a SUSPENDED station's resume keeps its own. -/
def Station.dequeue (x : Station) : Station :=
  { (if x.state = .suspended then x else x.quiet) with queue := x.queue.tail, pendingPost := none, leftUp := false }

/-- The steps after a REQUEST_DONE has been queued (R83): the head leaves, the order is told, timers stop, the station goes
on. -/
def finishRequest (st : St) (s : State) : State :=
  match headOf s st with
  | none => s
  | some q =>
    let leftUp := s.stations[st].leftUp
    let s := requestEnded q.order
      (modStation st Station.dequeue s)
    afterRequest st leftUp (clearBusyStation st s)

/-- A station with a pending post asks for no transaction (R84) and runs no resume (R186): a SUSPENDED one gives its check up
and stands in AWAITING, so that the resume begins anew once the post is made. DESIGN CHOICE: R194 does not say what becomes
of the check (log 41). -/
def giveUpCheck (st : St) (s : State) : State :=
  if s.stations[st].state = .suspended then failStep st false s else s

/-- The head request ends with an outcome (R83): its REQUEST_DONE is posted, or becomes the pending post (R84). -/
def endRequest (st : St) (outcome : RequestOutcome) (s : State) : State :=
  match headOf s st with
  | none => s
  | some q =>
    if canPost s.eq then finishRequest st (joinTail (.event q.tag (q.doneEvent outcome)) s)
    else addWaiter (.requestDone st)
      (giveUpCheck st (modStation st (fun x => { x with pendingPost := some (q.doneEvent outcome) })
        (modHead st (fun q => { q with outcome := some outcome }) s)))

/-! ### Marks and abort (R77, R192 to R194) -/

/-- The request's exposed count rises by 1. -/
def countExposed (st : St) (s : State) : State := modHead st (fun q => { q with exposed := q.exposed + 1 }) s

/-- The request's spoiled count rises by 1. -/
def countSpoiled (st : St) (s : State) : State := modHead st (fun q => { q with spoiled := q.spoiled + 1 }) s

/-- The gate frame is marked EXPOSED and a first mark is counted (R77). -/
def markGateExposed (st : St) (s : State) : MarkAnswer × State :=
  match markExposed st (headRoll s st) (gateOf s st) s with
  | (.marked, s) => (.marked, countExposed st s)
  | r => r

/-- The gate frame is marked SPOILED and a first mark is counted (R77, R78). -/
def markGateSpoiled (st : St) (reason : SpoilReason) (s : State) : MarkAnswer × State :=
  match markSpoiled st (headRoll s st) (gateOf s st) reason s with
  | (.marked, s) => (.marked, countSpoiled st s)
  | r => r

/-- The release of an abort, and the end of the request with the outcome that the answer gives (R192, R194, R31). -/
def releaseAndEnd (st : St) (s : State) : State :=
  match release st (headRoll s st) (gateOf s st) s with
  | (true, s) => endRequest st .aborted s
  | (false, s) => endRequest st .mismatch s

/-- An abort is completed before the SHOOT of the gate frame has been ACKed (R192). -/
def completeAbort (st : St) (s : State) : State :=
  releaseAndEnd st (dropAsk st (modStation st (fun x => { x with gap := none, waits := 0 }) s))

/-- The abort of a SUSPENDED request (R194). DESIGN CHOICE: the rule does not name the resume step; an abort that comes in
CHECKING and finds room for its REQUEST_DONE leaves the check under way, its ask, gap or transaction included, and the
report that serves it is then used by R189 (log 41). -/
def abortSuspended (st : St) (s : State) : State :=
  let s := if s.stations[st].susp.phase = .shotWait then (markGateSpoiled st .aborted s).2 else s
  let owesAdvance := (s.rolls[st].map.map fun m => isMarked m m.gate).getD false
  releaseAndEnd st (modStation st (fun x =>
    { x with susp := { x.susp with requestHeld := false, phase := if owesAdvance then .advance else .boundary } }) s)

/-- A station in RUNNING or HELD is suspended with its request (R182); an abort under way is completed at once. -/
def suspendHeld (st : St) (phase : SuspendedPhase) (owed : Bool) (s : State) : State :=
  let s := enterSuspended st phase true owed s
  if headAborts s st then abortSuspended st s else s

/-- The suspended phase of a running phase; no phase is the frame boundary (R182). -/
def suspendedPhase : Option Phase → SuspendedPhase
  | none => .boundary
  | some .lampSet => .lampSet
  | some .shoot => .shoot
  | some .shotWait => .shotWait
  | some .advance => .advance
  | some .advanceWait => .advanceWait

/-- A fault suspends the running station in its phase, release owed set (R182). -/
def failRunning (st : St) (f : FaultRecord) (s : State) : State :=
  suspendHeld st (suspendedPhase s.stations[st].phase) true (offerFault f s)

/-! ### The run of a frame (R74 to R80) -/

/-- The record of the gate frame that the head request runs. -/
def gateRecord (s : State) (st : St) : Option FrameRec :=
  match openMap s st (headRoll s st) with
  | some m => recordAt m m.gate
  | none => none

/-- The station asks for the LAMP_SET of the gate frame's record (R74). -/
def askLampSet (st : St) (s : State) : State :=
  match gateRecord s st with
  | some r => placeAsk st (lampOf s st) kindLampSet (lampPayload r.times) .lampSet s
  | none => s

/-- A frame begins (R74): phase LAMP_SET, both devices busy. -/
def enterLampSet (st : St) (s : State) : State :=
  match gateRecord s st with
  | none => endRequest st .mismatch s
  | some _ =>
    askLampSet st (setBusyStation st
      (modStation st (fun x => { x.quiet with state := .running, phase := some .lampSet }) s))

/-- The checks of a frame boundary (R74). -/
def boundary (st : St) (s : State) : State :=
  let s := modStation st Station.quiet s
  if headAborts s st then completeAbort st s
  else if !bothUp s st then suspendHeld st .boundary false s
  else if s.pins.hold[st] then
    clearBusyStation st (modStation st (fun x => { x with state := .held }) s)
  else enterLampSet st s

/-- The station enters phase ADVANCE and asks for an ADVANCE (R77). -/
def enterAdvance (st : St) (s : State) : State :=
  askCamera st kindAdvance .advance (setBusyStation st
    (modStation st (fun x => { x.quiet with state := .running, phase := some .advance }) s))

/-- What follows a mark: phase ADVANCE, or the end of the request on MAP_CLOSED (R77). -/
def afterMark (st : St) (r : MarkAnswer × State) : State :=
  match r with
  | (.closed, s) => endRequest st .mismatch s
  | (.marked, s) => enterAdvance st s
  | (.already, s) => enterAdvance st s

/-- The LAMP_FAIL of a SHOT with the lamp-fault flag, captured on a first mark (R77, R188, R193). -/
def offerFlagged (st : St) (lampFault : Bool) (r : MarkAnswer × State) : MarkAnswer × State :=
  match lampFault, r with
  | true, (.marked, s) => (.marked, offerFault (stationFault .lampFail st (lampOf s st) kindShoot none s) s)
  | _, r => r

/-- A latched SHOT is taken (R77, R193): a poll still asked for is withdrawn, the gate frame is marked, and the station goes
on to ADVANCE. -/
def takeShot (st : St) (lampFault : Bool) (s : State) : State :=
  let s := dropAsk st (modStation st (fun x => { x with shotLimit := none, pollTimer := false }) s)
  afterMark st (
    match headAborts s st, lampFault with
    | true, _ => offerFlagged st lampFault (markGateSpoiled st .aborted s)
    | false, true => offerFlagged st lampFault (markGateSpoiled st .lamp s)
    | false, false => markGateExposed st s)

/-- Whether no frame of the head request is left to shoot: P has passed its last frame (R80). -/
def noFrameLeft (s : State) (st : St) : Bool :=
  match headOf s st with
  | some q => match q.frames with | some r => decide (r.first + r.count ≤ gateOf s st) | none => true
  | none => true

/-- The current copy, and after the last copy of a step the current step, rises by 1 (R80). -/
def Request.nextFrame (copies : Nat) (q : Request) : Request :=
  if q.copy < copies then { q with copy := q.copy + 1 } else { q with step := q.step + 1, copy := 1 }

/-- The outcome of a request that has no frame left (R80, R188, R193). -/
def lastOutcome (s : State) (st : St) : RequestOutcome := if headAborts s st then .aborted else .complete

/-- The copies of the head request's order. -/
def headCopies (s : State) (st : St) : Nat :=
  match headOf s st with
  | some q => ((orderOf s q.order).map fun o => o.terms.copies).getD 1
  | none => 1

/-- The film has moved: a poll still asked for is withdrawn, P advances and the request goes on or ends (R80). -/
def takeAdvance (st : St) (s : State) : State :=
  let s := dropAsk st
    (modStation st (fun x => { x with advanceLimit := false, pollTimer := false, gap := none, waits := 0 }) s)
  match advanceRoll st (headRoll s st) s with
  | (.closed, s) => endRequest st .mismatch s
  | (.rollEnd, s) => endRequest st (lastOutcome s st) (modStation st (fun x => { x with rollEnd := true }) s)
  | (.advanced, s) =>
    if noFrameLeft s st then endRequest st (lastOutcome s st) s
    else boundary st (modHead st (Request.nextFrame (headCopies s st)) s)

/-! ### Trying the head (R69, R70) -/

/-- Whether the station tries its head (R69). -/
def tryable (s : State) (st : St) : Bool :=
  let x := s.stations[st]
  x.state == .ready && !x.rollCheck && x.pendingPost.isNone && s.rolls[st].map.isSome && !closeUnderWay s st
    && !x.queue.isEmpty

/-- The reservation's answer moves the head and the station (R70). -/
def takeReservation (st : St) (roll : Nat) (r : ReserveAnswer × State) : State :=
  match r with
  | (.reserved first count, s) =>
    boundary st (modStation st (fun x => { x with state := .running })
      (modHead st (fun q => { q with frames := some ⟨roll, first, count⟩, step := 1, copy := 1 }) s))
  | (.budget, s) => endRequest st .budget s
  | (.tooManyFrames, s) => endRequest st .tooManyFrames s
  | (.mapClosed, s) => endRequest st .mismatch s
  | (.noRoom, s) => startUnload st (modHead st (fun q => { q with state := .waitingFilm }) s)
  | (.labels, s) =>
    modStation st (fun x => { x with state := .waitingLabels })
      (modHead st (fun q => { q with state := .waitingLabels }) s)

/-- The station tries its head (R69). -/
def tryHead (st : St) (s : State) : State :=
  let s := modHead st (fun q => { q with state := .running }) s
  match headOf s st with
  | some q => takeReservation st (rollOf s st) (reserve st (rollOf s st) q s)
  | none => s

/-! ### Closing a roll (R40, R64, R190) -/

/-- The Station Sequencer is told that the roll has closed (R40, step 4): a held request ends MISMATCH (R190), a head that
waited for labels waits for film (R71), and the station enters the state that R64 gives. DESIGN CHOICE: so does a head that is
still WAITING (LABELS) at a station that came back READY with its roll check pending (log 42). -/
def rollClosed (st : St) (s : State) : State :=
  let x := s.stations[st]
  if x.pendingPost.isSome then s
  else if x.state = .suspended ∧ x.susp.requestHeld = true then endRequest st .mismatch s
  else
    enterRollLess st (modHead st (fun q =>
      if q.state = .waitingLabels then { q with state := .waitingFilm } else q) s)

/-- A close for UNLOADED or MISMATCH (R40); it waits at step 2 while its ROLL_REPORT finds no room. -/
def closeRoll (st : St) (reason : CloseReason) (s : State) : State :=
  if closeUnderWay s st then s
  else
    let s := beginClose st reason (dropAsk st (modStation st Station.quiet s))
    match s.rolls[st].map with
    | none => s
    | some m =>
      if canPost s.eq then
        rollClosed st (discardMap st (joinTail (.event 0 (rollReportEvent st m reason)) s))
      else addWaiter (.rollReport st) s

/-- A close for MISMATCH (R41, R190): GATE_MISMATCH is captured, removal required is set unless the report said "no
roll", and the roll closes. DESIGN CHOICE outside a resume, where R41 gives no order: the fault is captured, and its
FAULT_NOTICE offered to the Event Queue, before the ROLL_REPORT (log 43). -/
def closeMismatch (st : St) (r : CameraReport) (s : State) : State :=
  closeRoll st .mismatch (modRoll st (fun x => { x with removalRequired := r.present })
    (offerFault (stationFault .gateMismatch st (cameraOf s st) kindStatus none s) s))

/-! ### The resume (R186 to R190) -/

/-- Whether the resume of a SUSPENDED station begins (R186). -/
def resumable (s : State) (st : St) : Bool :=
  let x := s.stations[st]
  x.state == .suspended && bothUp s st && !x.susp.releaseOwed && x.pendingPost.isNone && x.susp.step == .awaiting
    && s.rolls[st].map.isSome && !closeUnderWay s st

/-- The resume begins: CHECKING, with one STATUS asked for (R187). -/
def beginCheck (st : St) (s : State) : State :=
  askCamera st kindStatus .resumeCheck
    (modStation st (fun x => { x with susp := { x.susp with step := .checking }, waits := 0, gap := none }) s)

/-- A latched SHOT becomes the noted SHOT (R185). -/
def noteShot (st : St) (r : CameraReport) (s : State) : State :=
  match r.shot with
  | some f => modStation st (fun x => { x with susp := { x.susp with notedShot := some f } }) s
  | none => s

/-- The held request runs again (R188), and both devices are busy from the return to RUNNING on (R150). -/
def leaveSuspended (st : St) (s : State) : State :=
  modHead st (fun q => { q with state := .running })
    (setBusyStation st (modStation st (fun x => { x with state := .running, susp := Suspension.clear }) s))

/-- The station leaves SUSPENDED for READY (R189). -/
def resumeReady (st : St) (s : State) : State :=
  modStation st (fun x => { x.quiet with state := .ready, susp := Suspension.clear }) s

/-- An advance owed without a request is done (R189). -/
def settleDone (st : St) (s : State) : State :=
  match advanceRoll st (rollOf s st) (dropAsk st s) with
  | (.advanced, s) => resumeReady st s
  | (.rollEnd, s) => startUnload st s
  | (.closed, s) => failStep st false s

/-- A report that states the roll of the map. -/
def sameRoll (r : CameraReport) (m : RollMap) : Bool := r.present && r.stock == m.stock

/-- The check with a request held (R188). A SHOT noted before any SHOOT spoils the gate frame as UNCERTAIN, and its lamp-fault flag
still captures LAMP_FAIL. DEDUCED (assumption log 50): with R77, LAMP_FAIL goes with a first mark only. -/
def checkHeld (st : St) (u : Suspension) (r : CameraReport) (s : State) : State :=
  match openMap s st (headRoll s st) with
  | none => endRequest st .mismatch s
  | some m =>
    if sameRoll r m && r.gate == m.gate then
      let s := leaveSuspended st s
      match u.phase, u.notedShot with
      | .boundary, none => boundary st s
      | .lampSet, none => boundary st s
      | .shoot, none => boundary st s
      | .boundary, some f => afterMark st (offerFlagged st f (markGateSpoiled st .uncertain s))
      | .lampSet, some f => afterMark st (offerFlagged st f (markGateSpoiled st .uncertain s))
      | .shoot, some f => takeShot st f s
      | .shotWait, some f => takeShot st f s
      | .shotWait, none => afterMark st (markGateSpoiled st .uncertain s)
      | .advance, _ => enterAdvance st s
      | .advanceWait, _ => enterAdvance st s
      | .unload, _ => s
    else if sameRoll r m && r.gate == m.gate + 1 && (u.phase == .advance || u.phase == .advanceWait) then
      takeAdvance st (leaveSuspended st s)
    else closeMismatch st r s

/-- The check without a request (R189). -/
def checkFree (st : St) (u : Suspension) (r : CameraReport) (s : State) : State :=
  match s.rolls[st].map with
  | none => s
  | some m =>
    match u.phase with
    | .unload => if r.present then startUnload st s else closeRoll st .unloaded s
    | .advance | .advanceWait =>
      if sameRoll r m && isMarked m m.gate && r.gate == m.gate then
        askCamera st kindAdvance .settleAdvance
          (modStation st (fun x => { x with susp := { x.susp with step := .settlingAdvance } }) s)
      else if sameRoll r m && isMarked m m.gate && r.gate == m.gate + 1 then settleDone st s
      else closeMismatch st r s
    | .boundary =>
      if sameRoll r m && r.gate == m.gate && (recordAt m m.gate).isNone && u.notedShot.isNone then resumeReady st s
      else closeMismatch st r s
    | .lampSet | .shoot | .shotWait => closeMismatch st r s

/-- A report serves the check of a resume (R187): the ask is withdrawn, and the noted SHOT is absent again afterwards. -/
def serveCheck (st : St) (r : CameraReport) (s : State) : State :=
  let u := s.stations[st].susp
  let s := dropAsk st (modStation st (fun x =>
    { x.quiet with susp := { x.susp with step := .awaiting, notedShot := none } }) s)
  if u.requestHeld then checkHeld st u r s else checkFree st u r s

/-! ### Camera reports (R65, R77, R80, R81, R185) -/

/-- The check of R81: the expected stock and gate frame. In ADVANCE_WAIT P + 1 is expected too, and ADVANCED goes with
P + 1 alone. -/
def expected (m : RollMap) (advancing : Bool) (r : CameraReport) : Bool :=
  sameRoll r m
    && ((r.gate == m.gate && !(advancing && r.advanced)) || (advancing && r.gate == m.gate + 1))

/-- A report in RUNNING or HELD (R77, R80, R81). -/
def runningReport (st : St) (r : CameraReport) (s : State) : State :=
  let phase := s.stations[st].phase
  match s.rolls[st].map with
  | none => s
  | some m =>
    if !expected m (phase == some .advanceWait) r then
      noteShot st r (suspendHeld st (suspendedPhase phase) false s)
    else if phase = some .shotWait then
      match r.shot with
      | some f => takeShot st f s
      | none => s
    else if phase = some .advanceWait ∧ r.advanced = true then takeAdvance st s
    else s

/-- A report in READY or WAITING (LABELS) (R41): it serves a pending roll check, or closes the roll MISMATCH.
While the roll's close waits for its ROLL_REPORT it is not compared and serves nothing. DESIGN CHOICE (assumption log 47): R40 is
silent there. -/
def idleReport (st : St) (r : CameraReport) (s : State) : State :=
  match s.rolls[st].map with
  | none => s
  | some m =>
    if m.closing.isSome then s
    else
      let s := if s.stations[st].rollCheck then
          dropAsk st (modStation st (fun x => { x with rollCheck := false, gap := none, waits := 0 }) s)
        else s
      if sameRoll r m && r.gate == m.gate then s else closeMismatch st r s

/-- A report in SUSPENDED (R185). While the roll's close waits for its ROLL_REPORT only a SHOT is noted: DESIGN CHOICE (assumption
log 47). -/
def suspendedReport (st : St) (r : CameraReport) (s : State) : State :=
  let s := noteShot st r s
  match s.rolls[st].map with
  | none => s
  | some m =>
    let u := s.stations[st].susp
    if m.closing.isSome then s
    else if u.phase = .unload ∧ r.present = false then
      closeRoll st .unloaded (modStation st (fun x => { x with susp := { x.susp with step := .awaiting } }) s)
    else match u.step with
      | .awaiting => s
      | .checking => serveCheck st r s
      | .settlingAdvance => if expected m false r then s else failStep st false s
      | .settlingAdvanceWait =>
        if !expected m true r then failStep st false s
        else if r.advanced then settleDone st s
        else s

/-- A camera report is used as the station's state requires (R65, R84). -/
def stationReport (st : St) (r : CameraReport) (s : State) : State :=
  let s := noteRollStatus st r.present s
  let x := s.stations[st]
  if x.pendingPost.isSome then
    if x.state = .suspended then noteShot st r s else s
  else match x.state with
    | .disabled | .offline => s
    | .noRoll | .waitingFilm => if s.rolls[st].map.isSome then s else openOrRefuse st r s
    | .ready | .waitingLabels => idleReport st r s
    | .running | .held => runningReport st r s
    | .unloading => if r.present then s else closeRoll st .unloaded s
    | .suspended => suspendedReport st r s

/-! ### Device changes (R63, R182, R183) -/

/-- A bound device leaves UP. -/
def stationDeviceDown (st : St) (s : State) : State :=
  let x := s.stations[st]
  if x.pendingPost.isSome then modStation st (fun x => { x with leftUp := true }) s
  else match x.state with
    | .disabled | .offline => s
    | .noRoll | .waitingFilm | .ready | .waitingLabels =>
      detach (.station st) (dropAsk st
        (modStation st (fun x => { x with state := .offline, rollCheck := false, gap := none, waits := 0 }) s))
    | .running | .held => suspendHeld st (suspendedPhase x.phase) false s
    | .unloading => suspendUnload st false s
    | .suspended =>
      match x.susp.step with
      | .awaiting => s
      | .checking | .settlingAdvance | .settlingAdvanceWait => failStep st false s

/-- A bound device reaches UP. -/
def stationDeviceUp (st : St) (s : State) : State :=
  let x := s.stations[st]
  if x.pendingPost.isNone ∧ x.state = .offline ∧ bothUp s st = true then enterIdle st s else s

/-- The station that binds an address is told that its device has left UP (R143). -/
def tellStationDown (a : Byte) (s : State) : State :=
  match boundStation s a with
  | some st => stationDeviceDown st s
  | none => s

/-- The station that binds an address is told that its device has reached UP (R143). -/
def tellStationUp (a : Byte) (s : State) : State :=
  match boundStation s a with
  | some st => stationDeviceUp st s
  | none => s

/-! ### Tries and resumes at the end of an act (R69, R186) -/

/-- One station's resume and tries, as often as they follow one another: each try ends or moves the head. -/
def settleStation : Nat → St → State → State
  | 0, _, s => s
  | n + 1, st, s =>
    if resumable s st then settleStation n st (beginCheck st s)
    else if tryable s st then settleStation n st (tryHead st s)
    else s

/-- The stations' resumes and tries, by station number. -/
def settle (s : State) : State :=
  (List.finRange 4).foldl (fun s st => settleStation (s.stations[st].queue.length + 2) st s) s

/-- The end of an act that may let a station go on or an ask be granted (R69, R149, R186). -/
def finish (s : State) : State := arbitrate (settle s)

/-! ### Transaction endings (R73, R75 to R80, R182 to R184) -/

/-- The WAIT count rises and the WAIT gap starts (R73). -/
def startGap (st : St) (p : Purpose) (s : State) : State :=
  modStation st (fun x => { x with waits := x.waits + 1, gap := some p }) s

/-- Whether the next WAIT is the 200th consecutive one (R73). -/
def waitsOut (s : State) (st : St) : Bool := decide (Config.waitLimit ≤ s.stations[st].waits + 1)

/-- The WAIT count of a transaction that ends any other way returns to 0 (R73). -/
def clearWaits (st : St) (s : State) : State := modStation st (fun x => { x with waits := 0 }) s

/-- The poll timer is started at 50 ms (R77). -/
def startPoll (st : St) (s : State) : State := modStation st (fun x => { x with pollTimer := true }) s

/-- The SHOOT is ACKed (R76): shot limit and poll timer, phase SHOT_WAIT. -/
def shootAcked (st : St) (s : State) : State :=
  let limit := (gateRecord s st).map fun r => shotLimitMs r.times
  modStation st (fun x => { x.quiet with phase := some .shotWait, shotLimit := limit, pollTimer := true }) s

/-- The ADVANCE is ACKed (R79): advance limit and poll timer, phase ADVANCE_WAIT. -/
def advanceAcked (st : St) (s : State) : State :=
  modStation st (fun x => { x.quiet with phase := some .advanceWait, advanceLimit := true, pollTimer := true }) s

/-- The address and kind of a purpose's transaction. -/
def Purpose.target (p : Purpose) (s : State) (st : St) : Byte × Byte :=
  match p with
  | .lampSet => (lampOf s st, kindLampSet)
  | .shoot => (cameraOf s st, kindShoot)
  | .advance => (cameraOf s st, kindAdvance)
  | .settleAdvance => (cameraOf s st, kindAdvance)
  | .rewind => (cameraOf s st, kindRewind)
  | _ => (cameraOf s st, kindStatus)

/-- A fault of a station's own transaction: the address it was sent to and its kind (R197). -/
def transactionFault (kind : FaultKind) (st : St) (p : Purpose) (reason : Option Byte) (s : State) : FaultRecord :=
  stationFault kind st (p.target s st).1 (p.target s st).2 reason s

/-- The fault of a NAK to a LAMP_SET, SHOOT, ADVANCE or REWIND (R75, R76, R79, R38). -/
def nakFault (st : St) (p : Purpose) (reason : Byte) (s : State) : FaultRecord :=
  if p = .lampSet ∧ reason = nakLampFail then transactionFault .lampFail st p (some reason) s
  else transactionFault .deviceNak st p (some reason) s

/-- The ending of a LAMP_SET or SHOOT, or of a WAIT, NAK or ACK in the phase that asked for it. -/
def phaseEnding (st : St) (p : Purpose) (ph : Phase) (e : Ending) (s : State) : State :=
  let x := s.stations[st]
  if x.state ≠ .running ∨ x.phase ≠ some ph then s
  else match e with
    | .ack => match ph with
      | .lampSet =>
        if headAborts s st then completeAbort st s
        else askCamera st kindShoot .shoot (modStation st (fun x => { x.quiet with phase := some .shoot }) s)
      | .shoot => shootAcked st s
      | .advance => advanceAcked st s
      | .shotWait => s
      | .advanceWait => s
    | .nak reason => match ph with
      | .lampSet => if headAborts s st then completeAbort st s else failRunning st (nakFault st p reason s) s
      | .shoot => if headAborts s st then completeAbort st s else failRunning st (nakFault st p reason s) s
      | .advance => failRunning st (nakFault st p reason s) s
      | .shotWait => startPoll st (clearWaits st s)
      | .advanceWait => startPoll st (clearWaits st s)
    | .wait =>
      if headAborts s st && (ph == .lampSet || ph == .shoot) then completeAbort st s
      else if waitsOut s st then failRunning st (transactionFault .waitLimit st p none s) s
      else startGap st p s
    | .status => match ph with
      | .shotWait => startPoll st (clearWaits st s)
      | .advanceWait => startPoll st (clearWaits st s)
      | .lampSet => s
      | .shoot => s
      | .advance => s

/-- The ending of a REWIND (R38, R183). -/
def rewindEnding (st : St) (e : Ending) (s : State) : State :=
  if s.stations[st].state ≠ .unloading ∨ closeUnderWay s st = true then s
  else match e with
    | .ack => modStation st (fun x => { x.quiet with rewindLimit := true, pollTimer := true }) s
    | .nak reason => suspendUnload st true (offerFault (nakFault st .rewind reason s) s)
    | .wait =>
      if waitsOut s st then suspendUnload st true (offerFault (transactionFault .waitLimit st .rewind none s) s)
      else startGap st .rewind s
    | .status => s

/-- The ending of a rewind poll (R38, R183). -/
def rewindPollEnding (st : St) (e : Ending) (s : State) : State :=
  if s.stations[st].state ≠ .unloading ∨ closeUnderWay s st = true then s
  else match e with
    | .wait =>
      if waitsOut s st then suspendUnload st true (offerFault (transactionFault .waitLimit st .rewindPoll none s) s)
      else startGap st .rewindPoll s
    | .ack => s
    | .nak _ => startPoll st (clearWaits st s)
    | .status => startPoll st (clearWaits st s)

/-- The ending of the roll check's STATUS (R63): a NAK, or the 200th WAIT, leaves roll check pending. -/
def rollCheckEnding (st : St) (e : Ending) (s : State) : State :=
  if s.stations[st].rollCheck = false then s
  else match e with
    | .wait => if waitsOut s st then clearWaits st s else startGap st .rollCheck s
    | .ack => s
    | .nak _ => clearWaits st s
    | .status => clearWaits st s

/-- The ending of a transaction of a resume step (R183, R187, R189). -/
def resumeEnding (st : St) (p : Purpose) (step : ResumeStep) (e : Ending) (s : State) : State :=
  let x := s.stations[st]
  if x.state ≠ .suspended ∨ x.susp.step ≠ step then s
  else match e with
    | .ack =>
      if step = .settlingAdvance then
        modStation st (fun x => { x.quiet with
          advanceLimit := true, pollTimer := true, susp := { x.susp with step := .settlingAdvanceWait } }) s
      else s
    | .nak reason =>
      if step = .settlingAdvanceWait then startPoll st (clearWaits st s)
      else failStep st true (offerFault (nakFault st p reason s) s)
    | .wait =>
      if waitsOut s st then failStep st true (offerFault (transactionFault .waitLimit st p none s) s)
      else startGap st p s
    | .status => if step = .settlingAdvanceWait then startPoll st (clearWaits st s) else s

/-- The ending of a transaction of the station's own, handed to it (R73). -/
def stationEnding (st : St) (p : Purpose) (e : Ending) (s : State) : State :=
  if s.stations[st].pendingPost.isSome then s
  else match p with
    | .lampSet => phaseEnding st p .lampSet e s
    | .shoot => phaseEnding st p .shoot e s
    | .shotPoll => phaseEnding st p .shotWait e s
    | .advance => phaseEnding st p .advance e s
    | .advancePoll => phaseEnding st p .advanceWait e s
    | .rewind => rewindEnding st e s
    | .rewindPoll => rewindPollEnding st e s
    | .rollCheck => rollCheckEnding st e s
    | .resumeCheck => resumeEnding st p .checking e s
    | .settleAdvance => resumeEnding st p .settlingAdvance e s
    | .settlePoll => resumeEnding st p .settlingAdvanceWait e s
    | .print | .printPoll | .wake | .idlePoll | .forwarded => s

/-- The ending of a transaction that ran on past the station's suspension (R184): an ACK to a SHOOT or to an ADVANCE moves
the suspended phase on. -/
def detachedEnding (st : St) (p : Purpose) (e : Ending) (s : State) : State :=
  let x := s.stations[st]
  if x.state = .suspended ∧ e = .ack then
    if p = .shoot ∧ x.susp.phase = .shoot then
      modStation st (fun x => { x with susp := { x.susp with phase := .shotWait } }) s
    else if p = .advance ∧ x.susp.phase = .advance then
      modStation st (fun x => { x with susp := { x.susp with phase := .advanceWait } }) s
    else s
  else s

/-- The transaction of a purpose is asked for (again): after a WAIT gap, or at a poll (R73, R77). -/
def askFor (st : St) (p : Purpose) (s : State) : State :=
  match p with
  | .lampSet => askLampSet st s
  | .print | .printPoll | .wake | .idlePoll | .forwarded => s
  | .shoot | .shotPoll | .advance | .advancePoll | .rewind | .rewindPoll | .rollCheck | .resumeCheck | .settleAdvance
  | .settlePoll => askCamera st (p.target s st).2 p s

/-! ### ABORT and ORDER_CANCEL at the station (R191 to R195) -/

/-- Whether ABORT is accepted (R191). -/
def abortable (s : State) (st : St) : Bool :=
  match headOf s st with
  | some q => (q.state == .running || q.state == .suspended) && !q.abort && q.outcome.isNone
  | none => false

/-- The abort marker is set, and the abort is completed where the request stands (R192 to R194). -/
def applyAbort (st : St) (s : State) : State :=
  let s := modHead st (fun q => { q with abort := true }) s
  let x := s.stations[st]
  match x.state with
  | .suspended => abortSuspended st s
  | .held => completeAbort st s
  | .running =>
    match x.phase with
    | none => completeAbort st s
    | some .lampSet => if inProgress s st then s else completeAbort st s
    | some .shoot => if inProgress s st then s else completeAbort st s
    | some .shotWait => s
    | some .advance => s
    | some .advanceWait => s
  | .disabled | .offline | .noRoll | .ready | .waitingFilm | .waitingLabels | .unloading => s

/-- Whether a cancel removes a request (R10): it is of the order, and QUEUED or WAITING. -/
def removable (order : Nat) (q : Request) : Bool :=
  q.order == order && (q.state == .queued || q.state == .waitingFilm || q.state == .waitingLabels)

/-- The station's state after its head was removed by a cancel (R195). -/
def afterRemoval (head : Option Request) (order : Nat) (x : StationState) : StationState :=
  match head with
  | some q =>
    if removable order q then
      if q.state = .waitingLabels ∧ x = .waitingLabels then .ready
      else if q.state = .waitingFilm ∧ x = .waitingFilm then .noRoll
      else x
    else x
  | none => x

/-- A cancel reaches the station of an order (R10, R195). -/
def cancelAt (st : St) (order : Nat) (s : State) : State :=
  let x := s.stations[st]
  let removed := (x.queue.filter (removable order)).length
  let s := modStation st (fun x =>
    { x with queue := x.queue.filter fun q => !removable order q
             state := afterRemoval x.queue.head? order x.state }) s
  let s := (List.range removed).foldl (fun s _ => requestEnded order s) s
  if abortable s st && ((headOf s st).map (·.order)) == some order then applyAbort st s else s

end Sys2Proof.Machine
end

