-- ==== Sys2Proof/Machine/Console.lean ====
section
/-! DEFINITION. The console side (8.1 to 8.4, 8.7): receiving a frame, sending a record, the Frame Classifier and the
forward slot's filling. -/

namespace Sys2Proof.Machine

/-! ### The receiver (R160 to R163) -/

/-- The buffers of the receive pool in use: accepted frames that wait, the frame in hand, and a frame being received (R162). -/
def buffersInUse (s : State) : Nat :=
  s.port.pool.length + (if s.inHand.isSome then 1 else 0) + (if s.port.rx.stage = .buffered then 1 else 0)

/-- The receiver's bytes and stage set. -/
def setRx (bytes : List Byte) (stage : RxStage) (s : State) : State :=
  { s with port := { s.port with rx := ⟨bytes, stage⟩ } }

/-- The stage once the tag byte has been received: a free buffer, or the holding stage (R162, R163). -/
def claimStage (s : State) : RxStage :=
  match s.port.rx.stage with
  | .unclaimed => if buffersInUse s < Config.poolSize then .buffered else .holding
  | .buffered => .buffered
  | .holding => .holding
  | .skipping => .skipping

/-- A good frame in the holding stage is refused with BUSY, or discarded when a BUSY is pending (R163). -/
def refuseBusy (f : LinkFrame) (s : State) : State :=
  match s.port.busy with
  | some _ => s
  | none => startTransmit { s with port := { s.port with busy := some (f.tag, f.kind) } }

/-- A complete frame is checked: accepted, refused with BUSY, or discarded for a CHECK fault (R161 to R163). -/
def completeFrame (stage : RxStage) (bytes : List Byte) (s : State) : State :=
  match receive bytes with
  | .error _ => setRx [] .skipping s
  | .ok f =>
    if stage = .buffered then setRx [] .skipping { s with port := { s.port with pool := s.port.pool ++ [f] } }
    else refuseBusy f (setRx [] .skipping s)

/-- What the receiver makes of the bytes taken since the line was last idle (R160, R161). -/
def takeBytes (bytes : List Byte) (s : State) : State :=
  match bytes with
  | [] => s
  | sync :: rest =>
    if sync ≠ 0xC5 then setRx [] .skipping s
    else match rest with
      | [] => setRx bytes s.port.rx.stage s
      | len :: _ =>
        if len.toNat < 4 ∨ 60 < len.toNat then setRx [] .skipping s
        else if bytes.length < 6 then setRx bytes s.port.rx.stage s
        else if bytes.length < len.toNat + 4 then setRx bytes (claimStage s) s
        else completeFrame (claimStage s) bytes s

/-- The line goes idle: a frame begun and not complete is SHORT and is discarded (R161). -/
def lineIdle (s : State) : State := setRx [] .unclaimed s

/-- Bytes arrive on CRX, and the line may then go idle. -/
def receiveBytes (bytes : List Byte) (idle : Bool) (s : State) : State :=
  let s := if s.port.rx.stage = .skipping then s else takeBytes (s.port.rx.bytes ++ bytes) s
  if idle then lineIdle s else s

/-- LINK_FRAME_RECEIVED (R160 to R163). -/
def execLinkFrameReceived (bytes : List Byte) (idle : Bool) (s : State) : Host.Outcome State Fault Refusal :=
  live s (receiveBytes bytes idle s)

/-! ### The transmitter (R163, R177, R178) -/

/-- The record that has been sent leaves the queue, and its place goes to the waiter at the head of the list. -/
def recordLeaves (s : State) : State :=
  { s with eq := servePlace { s.eq with records := s.eq.records.tail }
           port := { s.port with beforeBusy := s.port.beforeBusy - 1 } }

/-- The transmitter finishes a frame and starts the next. -/
def frameSent (s : State) : State :=
  match s.port.sending with
  | none => s
  | some x =>
    let s := if x.holdsPlace then recordLeaves s else s
    startTransmit { s with port := { s.port with sending := none } }

/-- RECORD_SENT (R163, R177, R178). -/
def execRecordSent (s : State) : Host.Outcome State Fault Refusal := live s (frameSent s)

/-! ### The Frame Classifier (R164 to R167) -/

/-- The path of a console frame, or the code that refuses it (R165 to R167). -/
def sortFrame (s : State) (f : LinkFrame) : Except Result Path :=
  if f.src ≠ Config.consoleAddr then .error .badAddress
  else if isRingAddress f.dst then
    if f.kind = kindExpose then .ok .intercept
    else if f.kind = kindWake then .error .protectedDevice
    else if isForwardableKind f.kind then
      if isProtected s f then .error .protectedDevice
      else if isUp s f.dst then .ok .forward
      else .error .deviceDown
    else .error .badKind
  else if f.dst = ownAddress s.pins then (if isManagementKind f.kind then .ok .manage else .error .badKind)
  else .error .badAddress

/-- A frame leaves the pool with a reserved answer place, and is refused at once or taken in hand (R164). -/
def takeFrame (f : LinkFrame) (s : State) : State :=
  let s := { s with port := { s.port with pool := s.port.pool.tail }, eq := { s.eq with reserved := s.eq.reserved + 1 } }
  match sortFrame s f with
  | .ok path => { s with inHand := some ⟨f, path⟩ }
  | .error code => answerWith (.result f.tag code []) s

/-- The Classifier takes the oldest accepted frame, or waits for an answer place (R164, R178). -/
def classify (s : State) : State :=
  match s.inHand, s.port.pool with
  | none, f :: _ =>
    if hasPlace .classifier s then takeFrame f { s with eq := { s.eq with given := s.eq.given.tail } }
    else if s.eq.given.contains .classifier || s.eq.waiters.contains .classifier then s
    else if 0 < freePlaces s.eq then takeFrame f s
    else addWaiter .classifier s
  | _, _ => s

/-- CLASSIFIER_TAKES_FRAME (R164 to R167). -/
def execClassifierTakesFrame (s : State) : Host.Outcome State Fault Refusal := live s (classify s)

/-! ### Filling the forward slot (R168) -/

/-- The forwardable frame in hand enters the EMPTY slot, or is held until the slot is EMPTY. -/
def forwardHand (s : State) : State :=
  match s.inHand with
  | some ⟨f, .forward⟩ =>
    if s.slot = .empty then finish (enterSlot f { s with inHand := none }) else { s with inHand := some ⟨f, .held⟩ }
  | _ => s

/-- FORWARD (R168). -/
def execForward (s : State) : Host.Outcome State Fault Refusal := live s (forwardHand s)

/-- The held frame is copied into the slot that has become EMPTY. -/
def forwardHeld (s : State) : State :=
  match s.inHand with
  | some ⟨f, .held⟩ => if s.slot = .empty then finish (enterSlot f { s with inHand := none }) else s
  | _ => s

/-- FORWARD_SLOT_EMPTIED (R168). -/
def execForwardSlotEmptied (s : State) : Host.Outcome State Fault Refusal := live s (forwardHeld s)

end Sys2Proof.Machine
end

