-- ==== Sys2Proof/WellFormed.lean ====
section
/-! DEFINITION. Which commands are well formed: something arrives with a LINK_FRAME_RECEIVED, and a received ring frame
is of the kind its row names (10_frame_and_record_layouts.md, 10.1 and 10.2: the kind is the byte at offset 4). -/

namespace Sys2Proof

/-- The kind byte of a received frame, when the bytes reach it. -/
def kindByte (bytes : List Byte) : Option Byte := bytes[4]?

/-- The kinds that have a row of their own among the ring replies: READY, ACK, WAIT and NAK. -/
def hasOwnReplyRow (k : Byte) : Bool := k == 0x10 || k == 0x11 || k == 0x12 || k == 0x13

/-- A command that can stand for an event of the part. -/
def Instr.wellFormed : Instr → Bool
  | .linkFrameReceived bytes idle => idle || !bytes.isEmpty
  | .readyReceived bytes => kindByte bytes == some 0x10
  | .ackReceived bytes => kindByte bytes == some 0x11
  | .waitReceived bytes => kindByte bytes == some 0x12
  | .nakReceived bytes => kindByte bytes == some 0x13
  | .statusReplyReceived bytes =>
    match kindByte bytes with
    | some k => !hasOwnReplyRow k
    | none => false
  | .pinReset _ _ _ | .holdLineReleased _ | .recordSent | .classifierTakesFrame | .expose | .forward
  | .forwardSlotEmptied | .orderTableWrite | .deviceTableWrite | .stationTableWrite | .stockTableWrite
  | .planTableWrite | .windowTableWrite | .tariffTableWrite | .accountTableWrite | .templateTableWrite
  | .standTextWrite | .orderTableRead | .deviceTableRead | .stationTableRead | .stockTableRead | .planTableRead
  | .windowTableRead | .tariffTableRead | .accountTableRead | .templateTableRead | .standTextRead | .orderOpen
  | .orderClose | .orderCancel | .enable | .disable | .abort | .unload | .accountRead | .accountClear | .faultRead
  | .printBarrier | .statusReadStand | .statusReadDevicesLow | .statusReadDevicesHigh | .restart
  | .strayRingFrame _ | .replyWindowExpired | .waitGapExpired _ | .idleTimerExpired _ | .wakeTimerExpired _
  | .pollTimerExpired _ | .printPollTimerExpired | .shotLimitExpired _ | .advanceLimitExpired _
  | .rewindLimitExpired _ | .printLimitExpired | .pendingPostQueued _ | .orderSummaryQueued _ | .rollOpenQueued _
  | .rollReportQueued _ | .stripPrintedQueued | .deviceReportQueued | .faultNoticeQueued | .holdLineAsserted _
  | .nresetLow => true

end Sys2Proof
end

