-- ==== Sys2Proof/Machine/Replies.lean ====
section
/-! DEFINITION. The ring's answers: replies taken and routed (R141 to R147, R153 to R156), and the reply window
(R146, R157). -/

namespace Sys2Proof.Machine

/-! ### What is a reply (R145) -/

/-- Whether the payload of a READY parses (R153, R204): by the entry's class when it names that class. A READY that names
another class, or none, carries no status to parse. -/
def readyParses (c : DevClass) (payload : List Byte) : Bool :=
  match payload with
  | [] => false
  | b :: status => if DevClass.ofCode b = some c then (parseStatus c status).isSome else true

/-- Whether a reply to a WAKE is acceptable (R145): any reply kind, a READY or a STATUS_REPLY only when it parses. -/
def wakeAccepted (c : DevClass) (f : LinkFrame) : Bool :=
  if f.kind = kindReady then readyParses c f.payload
  else if f.kind = kindStatusReply then (parseStatus c f.payload).isSome
  else isReplyKind f.kind

/-- Whether a reply's kind, and its payload where R145 asks for it, is acceptable for the request. -/
def kindAccepted (t : Transaction) (f : LinkFrame) : Bool :=
  if t.purpose = .forwarded then true
  else if t.purpose = .wake then wakeAccepted t.cls f
  else if f.kind = kindWait ∨ f.kind = kindNak then true
  else if t.request.kind = kindStatus then f.kind == kindStatusReply && (parseStatus t.cls f.payload).isSome
  else f.kind == kindAck

/-- Whether a received frame is the reply of the attempt in progress: its window is open (R144), and the frame meets the
conditions of R145. -/
def replyAccepted (t : Transaction) (f : LinkFrame) : Bool :=
  !t.isSending && f.src == t.request.dst && f.dst == t.request.src && f.tag == t.request.tag && kindAccepted t f

/-- The reply that received bytes are, with the transaction that it ends. -/
def reply? (s : State) (bytes : List Byte) : Option (Transaction × LinkFrame) :=
  match s.ring.engine, received? bytes with
  | some t, some f => if replyAccepted t f then some (t, f) else none
  | _, _ => none

/-- The grant ends: the engine is idle (R147). -/
def endGrant (s : State) : State := { s with ring := { s.ring with engine := none } }

/-! ### Routing of reports (R154, R155) -/

/-- A DEVICE_REPORT is posted, or held by the Idle Poller until it has room (R155). -/
def postReport (e : Event) (s : State) : State :=
  if canPost s.eq && s.ring.heldReports.isEmpty then joinTail (.event 0 e) s
  else addWaiter .deviceReport { s with ring := { s.ring with heldReports := s.ring.heldReports ++ [e] } }

/-- A camera's latched items go upstream, if there are any (R155). -/
def cameraUpstream (d : Device) (flags : Byte) (r : CameraReport) (s : State) : State :=
  if r.shot.isSome || r.advanced then postReport (.cameraReport d.addr flags (u8 r.gate)) s else s

/-- A report is routed by the device's class and binding (R154). -/
def routeReport (d : Device) (x : Status) (s : State) : State :=
  match x with
  | .camera flags r =>
    match cameraStation s d.addr with
    | some st =>
      if s.bindings[st].enabled then stationReport st r s
      else cameraUpstream d flags r (noteRollStatus st r.present s)
    | none => cameraUpstream d flags r s
  | .printer r => printerReport r s
  | .items condition items =>
    if items.isEmpty then s else postReport (.deviceReport d.addr d.cls condition items) s

/-- The routing of a forwarded STATUS's reply (R156): to the owner, or not at all. -/
def routeForwarded (d : Device) (x : Status) (s : State) : State :=
  match x with
  | .camera _ r =>
    match cameraStation s d.addr with
    | some st => if s.bindings[st].enabled then settle (stationReport st r s) else noteRollStatus st r.present s
    | none => s
  | .printer r => printerReport r s
  | .items _ _ => s

/-! ### The wake handshake (R141, R142) -/

/-- A failed wake (R141): back to ABSENT or LOST, the count rises and the wake timer starts. -/
def Device.failedWake (d : Device) : Device :=
  { d with
      link := match d.link with | .waking true => .lost | .waking false => .absent | l => l
      failedWakes := min (d.failedWakes + 1) 65535, wakeTimer := true }

/-- A wake answered by another class (R141): ABSENT, the count rises, the wake timer starts, the mismatch is noted. -/
def Device.wrongClass (d : Device) : Device :=
  { d with link := .absent, failedWakes := min (d.failedWakes + 1) 65535, wakeTimer := true, mismatchNoted := true }

/-- An entry that becomes UP (R142, step 1). -/
def Device.wokenUp (d : Device) : Device :=
  { d with link := .up, failedWakes := 0, mismatchNoted := false, wakeTimer := false, dueWake := false
           idleTimer := true, duePoll := false, busy := false }

/-- CLASS_MISMATCH is captured unless it is noted already (R141). -/
def wakeMismatch (i : Fin 16) (d : Device) (s : State) : State :=
  let s' := modDevice i Device.wrongClass s
  if d.mismatchNoted then s'
  else offerFault ⟨.classMismatch, d.addr, kindWake, boundStation s d.addr, none, none, none⟩ s'

/-- The device becomes UP, its owners are told, and the READY's status is routed as its first report (R142).
DESIGN CHOICE (assumption log 48): the owners come first, so a Composer that leaves NO_PRINTER for SENDING takes the READY's PRINTED
for its current label, also one that R135 keeps from before a RESTART. -/
def wakeUp (i : Fin 16) (d : Device) (x : Status) (s : State) : State :=
  let s := tellStationUp d.addr (modDevice i Device.wokenUp s)
  routeReport d.wokenUp x (settle (if d.cls = .printer then printerReachesUp s else s))

/-- The reply to a WAKE (R141). One that does not parse is no reply (R145) and does not come here. -/
def takeWake (i : Fin 16) (f : LinkFrame) (s : State) : State :=
  match s.devices[i] with
  | none => s
  | some d =>
    if f.kind = kindReady then
      match f.payload with
      | [] => modDevice i Device.failedWake s
      | c :: status =>
        if DevClass.ofCode c = some d.cls then
          match parseStatus d.cls status with
          | some x => wakeUp i d x s
          | none => modDevice i Device.failedWake s
        else wakeMismatch i d s
    else modDevice i Device.failedWake s

/-! ### Replies handed on (R147) -/

/-- The ending that a reply is for the controller's own request. -/
def endingOf (f : LinkFrame) : Ending :=
  if f.kind = kindAck then .ack else if f.kind = kindWait then .wait
  else if f.kind = kindNak then .nak (nakReason f.payload) else .status

/-- The status of a STATUS_REPLY, routed (R154); any other reply routes nothing. -/
def routeReply (t : Transaction) (f : LinkFrame) (route : Device → Status → State → State) (s : State) : State :=
  match s.devices[t.entry], (if f.kind = kindStatusReply then parseStatus t.cls f.payload else none) with
  | some d, some x => route d x s
  | _, _ => s

/-- Whether the ending of the engine's transaction is still acted on. -/
def stillAttached (s : State) : Bool :=
  match s.ring.engine with
  | some t => !t.detached
  | none => false

/-- The reply to a Station Sequencer's or the Label Composer's own request: routed first, then handed to the requester
(R147, R154, R184). -/
def takeOwn (t : Transaction) (f : LinkFrame) (s : State) : State :=
  let s := routeReply t f routeReport s
  match t.requester with
  | .station st =>
    if stillAttached s then stationEnding st t.purpose (endingOf f) (endGrant s)
    else detachedEnding st t.purpose (endingOf f) (endGrant s)
  | .composer => if stillAttached s then composerEnding t.purpose (endingOf f) (endGrant s) else endGrant s
  | .forward => endGrant s
  | .idlePoller => endGrant s

/-- The FORWARD_REPLY of the forwarded frame (R169). -/
def forwardReply (t : Transaction) (o : ForwardOutcome) : Record := .event t.request.tag (.forwardReply o)

/-- The reply to a forwarded frame: routed where R156 says so, then copied upstream (R169). -/
def takeForwarded (t : Transaction) (f : LinkFrame) (s : State) : State :=
  let s := if t.request.kind = kindStatus then routeReply t f routeForwarded s else s
  answerForward (forwardReply t (.replied f)) (endGrant s)

/-- A reply that meets R145 ends the transaction (R147). After a RESTART it is handed to no one (R159); when the entry has
been removed, only the forward slot takes it (R139). -/
def takeReply (t : Transaction) (f : LinkFrame) (s : State) : State :=
  if t.void then endGrant s
  else if t.orphan then
    match t.requester with
    | .forward => answerForward (forwardReply t (.replied f)) (endGrant s)
    | .station _ => endGrant s
    | .composer => endGrant s
    | .idlePoller => endGrant s
  else
    let s := modDevice t.entry Device.replied s
    match t.requester with
    | .forward => takeForwarded t f s
    | .idlePoller =>
      if t.purpose = .wake then endGrant (takeWake t.entry f s) else endGrant (routeReply t f routeReport s)
    | .station _ => takeOwn t f s
    | .composer => takeOwn t f s

/-- Received bytes, taken when they are a reply of one of the kinds that a command names. -/
def replyOf (kinds : Byte → Bool) (bytes : List Byte) (s : State) : State :=
  match reply? s bytes with
  | some (t, f) => if kinds f.kind then finish (takeReply t f s) else s
  | none => s

/-! ### Loss (R146, R157) -/

/-- Every standing ask of a station or of the Label Composer that names an address is removed (R148). -/
def dropAsksFor (a : Byte) (s : State) : State :=
  let keep (x : Option Ask) : Option Ask := match x with | some k => if k.address = a then none else some k | none => none
  { s with ring := { s.ring with asks := s.ring.asks.map keep, composerAsk := keep s.ring.composerAsk } }

/-- A device has left UP: its owners are told (R143), then the asks that name it are dealt with (R148). -/
def deviceLeftUp (d : Device) (s : State) : State :=
  let s := tellStationDown d.addr s
  dropAsksFor d.addr (slotDeviceDown d.addr (if d.cls = .printer then printerDown s else s))

/-- An entry that becomes LOST (R157, step 1). -/
def Device.toLost (d : Device) : Device :=
  { d with link := .lost, busy := false, idleTimer := false, duePoll := false, wakeTimer := true }

/-- A device becomes LOST (R157), and NO_REPLY is captured (R146). -/
def loseDevice (i : Fin 16) (requestKind : Byte) (s : State) : State :=
  match s.devices[i] with
  | none => s
  | some d =>
    let s := deviceLeftUp d (modDevice i Device.toLost s)
    offerFault ⟨.noReply, d.addr, requestKind, boundStation s d.addr, none, none, none⟩ s

/-- The attempts of a transaction: one for a WAKE, three for any other (R141, R146). -/
def Transaction.attempts (t : Transaction) : Nat := if t.purpose = .wake then 1 else Config.attempts

/-- The forward slot is answered NO_REPLY when the transaction is its own (R156, R169). -/
def forwardNoReply (t : Transaction) (s : State) : State :=
  match t.requester with
  | .forward => answerForward (forwardReply t .noReply) s
  | .station _ => s
  | .composer => s
  | .idlePoller => s

/-- The last window of a transaction closes without a reply (R141, R146). -/
def silentEnd (t : Transaction) (s : State) : State :=
  if t.void then endGrant s
  else if t.orphan then forwardNoReply t (endGrant s)
  else if t.purpose = .wake then endGrant (modDevice t.entry Device.failedWake s)
  else forwardNoReply t (endGrant (loseDevice t.entry t.request.kind s))

/-- The reply window of the open attempt closes (R146). While the frame is being sent no window is open, and none closes
(R144). -/
def windowCloses (s : State) : State :=
  match s.ring.engine with
  | none => s
  | some t =>
    if t.isSending then s
    else if t.attempt < t.attempts then
      { s with ring := { s.ring with engine := some { t with attempt := t.attempt + 1 } } }
    else finish (silentEnd t s)

/-! ### The commands -/

/-- READY_RECEIVED (R141, R142, R145, R147). -/
def execReadyReceived (bytes : List Byte) (s : State) : Host.Outcome State Fault Refusal :=
  live s (replyOf (· == kindReady) bytes s)

/-- ACK_RECEIVED (R145, R147). -/
def execAckReceived (bytes : List Byte) (s : State) : Host.Outcome State Fault Refusal :=
  live s (replyOf (· == kindAck) bytes s)

/-- WAIT_RECEIVED (R73, R145, R147). -/
def execWaitReceived (bytes : List Byte) (s : State) : Host.Outcome State Fault Refusal :=
  live s (replyOf (· == kindWait) bytes s)

/-- NAK_RECEIVED (R145, R147). -/
def execNakReceived (bytes : List Byte) (s : State) : Host.Outcome State Fault Refusal :=
  live s (replyOf (· == kindNak) bytes s)

/-- Whether a kind is one that STATUS_REPLY_RECEIVED brings: every kind but READY, ACK, WAIT and NAK. -/
def isStatusRow (k : Byte) : Bool := !hasOwnReplyRow k

/-- STATUS_REPLY_RECEIVED (R145, R147, R153 to R156). -/
def execStatusReplyReceived (bytes : List Byte) (s : State) : Host.Outcome State Fault Refusal :=
  live s (replyOf isStatusRow bytes s)

/-- STRAY_RING_FRAME (R144, R145): discarded; the window, if one is open, runs on. -/
def execStrayRingFrame (_bytes : List Byte) (s : State) : Host.Outcome State Fault Refusal := live s s

/-- REPLY_WINDOW_EXPIRED (R146, R157). -/
def execReplyWindowExpired (s : State) : Host.Outcome State Fault Refusal := live s (windowCloses s)

end Sys2Proof.Machine
end

