-- ==== Sys2Proof/Machine/Tables.lean ====
section
/-! DEFINITION. TABLE_WRITE and TABLE_READ (R172, R173), each against the rule of the table's owner. A check answers the code
that refuses, or the change that follows the DONE. -/

namespace Sys2Proof.Machine

/-- The answer of an owner to a management frame: a refusal, or DONE and then the change (R170). -/
def answered (f : LinkFrame) (r : Except Result (State → State)) (s : State) : State :=
  match r with
  | .error code => answerHand f code [] s
  | .ok change => change (answerHand f .done [] s)

/-! ### Writes -/

/-- A TABLE_WRITE in hand, given to the owner of a table (R172). One that is too short, or that names no table, is refused
by whichever row takes it. -/
def tableWrite (t : Table) (owner : Byte → List Byte → State → Except Result (State → State)) (s : State) : State :=
  match inHand? s kindTableWrite with
  | none => s
  | some f =>
    match f.payload with
    | id :: index :: record =>
      if id = t.code then answered f (owner index record s) s
      else if isTableCode id then s
      else answerHand f .badField [] s
    | _ => answerHand f .badLength [] s

/-- The Order Table's write rule (R18): refused. -/
def writeOrder (_index : Byte) (_record : List Byte) (_s : State) : Except Result (State → State) := .error .badField

/-- ORDER_TABLE_WRITE (R18, R172). -/
def execOrderTableWrite (s : State) : Host.Outcome State Fault Refusal := live s (tableWrite .order writeOrder s)

/-- A fresh Device Table entry (R139). -/
def Device.fresh (a : Byte) (c : DevClass) : Device :=
  { addr := a, cls := c, link := .absent, failedWakes := 0, tag := 0, busy := false, idleTimer := false
    wakeTimer := false, dueWake := true, duePoll := false, mismatchNoted := false }

/-- The transaction in progress of an entry that is removed runs on without it (R139). -/
def orphanEngine (i : Fin 16) (s : State) : State :=
  { s with ring := { s.ring with engine := s.ring.engine.map fun t => if t.entry = i then { t with orphan := true } else t } }

/-- What follows the removal of an entry (R139): told when it was UP, and the asks that name it are dealt with. -/
def deviceRemoved (d : Device) (s : State) : State :=
  let s := if d.link = .up then tellStationDown d.addr s else s
  dropAsksFor d.addr (slotDeviceDown d.addr (if d.cls = .printer then printerRemoved s else s))

/-- An entry set to a new content, the old one removed (R139). -/
def replaceDevice (i : Fin 16) (x : Option Device) (s : State) : State :=
  let old := s.devices[i]
  let s := { s with devices := s.devices.set i.val x i.isLt }
  match old with
  | some d => finish (deviceRemoved d (orphanEngine i s))
  | none => finish s

/-- Whether another present entry satisfies a test. -/
def otherDevice (s : State) (i : Fin 16) (p : Device → Bool) : Bool :=
  (List.finRange 16).any fun j => j != i && (match s.devices[j] with | some d => p d | none => false)

/-- Whether a present entry's address is named by the entry of an enabled station (R138, check 6). -/
def boundToEnabled (s : State) (i : Fin 16) : Bool :=
  match s.devices[i] with
  | some d => match boundStation s d.addr with | some st => s.bindings[st].enabled | none => false
  | none => false

/-- Whether an entry holds an address and a class already. -/
def sameDevice (s : State) (i : Fin 16) (a : Byte) (c : DevClass) : Bool :=
  match s.devices[i] with
  | some d => d.addr == a && d.cls == c
  | none => false

/-- The Device Table's write rule (R138, R139). -/
def writeDevice (index : Byte) (record : List Byte) (s : State) : Except Result (State → State) :=
  match index? 16 index with
  | none => .error .badField
  | some i =>
    if record = [] then
      if boundToEnabled s i then .error .inUse else .ok (replaceDevice i none)
    else match parseDevice record with
      | none => .error .badLength
      | some none => .error .badField
      | some (some (a, c)) =>
        if otherDevice s i (fun d => d.addr == a) then .error .badField
        else if c == .printer && otherDevice s i (fun d => d.cls == .printer) then .error .badField
        else if sameDevice s i a c then .ok id
        else if boundToEnabled s i then .error .inUse
        else .ok (replaceDevice i (some (Device.fresh a c)))

/-- DEVICE_TABLE_WRITE (R138, R139, R172). -/
def execDeviceTableWrite (s : State) : Host.Outcome State Fault Refusal := live s (tableWrite .device writeDevice s)

/-- A station's binding set (R61). -/
def setBinding (st : St) (b : Option Binding) (s : State) : State :=
  { s with bindings := upd s.bindings st fun e => { e with binding := b } }

/-- Whether another present Station Table entry names an address (R61, check 4). -/
def otherBinding (s : State) (st : St) (a : Byte) : Bool :=
  (List.finRange 4).any fun j =>
    j != st && (match s.bindings[j].binding with | some b => b.camera == a || b.lamp == a | none => false)

/-- The Station Table's write rule (R61). -/
def writeStation (index : Byte) (record : List Byte) (s : State) : Except Result (State → State) :=
  match station? index with
  | none => .error .badField
  | some st =>
    if record = [] then
      if s.bindings[st].enabled then .error .inUse else .ok (setBinding st none)
    else match parseBinding record with
      | none => .error .badLength
      | some r =>
        if s.bindings[st].enabled then .error .inUse
        else match r with
          | none => .error .badField
          | some b =>
            if otherBinding s st b.camera || otherBinding s st b.lamp then .error .badField
            else .ok (setBinding st (some b))

/-- STATION_TABLE_WRITE (R61, R172). -/
def execStationTableWrite (s : State) : Host.Outcome State Fault Refusal := live s (tableWrite .station writeStation s)

/-- Whether the entry at an index holds the stock code of an open map (R22, check 5). DESIGN CHOICE: a closing map whose
ROLL_REPORT still waits for room counts as open until it is discarded (log 44). -/
def stockInUse (s : State) (i : Fin 8) : Bool :=
  match s.stocks[i] with
  | some k => (List.finRange 4).any fun st => match s.rolls[st].map with | some m => m.stock == k.code | none => false
  | none => false

/-- Whether another present entry holds a stock code (R22, check 4). -/
def otherStock (s : State) (i : Fin 8) (code : Nat) : Bool :=
  (List.finRange 8).any fun j => j != i && (match s.stocks[j] with | some k => k.code == code | none => false)

/-- A stock entry set. -/
def setStock (i : Fin 8) (k : Option Stock) (s : State) : State := { s with stocks := s.stocks.set i.val k i.isLt }

/-- The Stock Table's write rule (R22). -/
def writeStock (index : Byte) (record : List Byte) (s : State) : Except Result (State → State) :=
  match index? 8 index with
  | none => .error .badField
  | some i =>
    if record = [] then
      if stockInUse s i then .error .inUse else .ok (setStock i none)
    else match parseStock record with
      | none => .error .badLength
      | some none => .error .badField
      | some (some k) =>
        if otherStock s i k.code then .error .badField
        else if stockInUse s i then .error .inUse
        else .ok (setStock i (some k))

/-- STOCK_TABLE_WRITE (R22, R23, R172). -/
def execStockTableWrite (s : State) : Host.Outcome State Fault Refusal := live s (tableWrite .stock writeStock s)

/-- Whether an order that is not FREE names a plan (R58, check 5). -/
def planInUse (s : State) (i : Fin 8) : Bool :=
  (List.finRange 16).any fun j => match s.orders[j] with | some o => o.terms.plan == i | none => false

/-- A plan set. -/
def setPlan (i : Fin 8) (p : Option (List PlanStep)) (s : State) : State :=
  { s with plans := s.plans.set i.val p i.isLt }

/-- The Plan Table's write rule (R58). -/
def writePlan (index : Byte) (record : List Byte) (s : State) : Except Result (State → State) :=
  match index? 8 index with
  | none => .error .badField
  | some i =>
    if record = [] then
      if planInUse s i then .error .inUse else .ok (setPlan i none)
    else match parsePlan record with
      | none => .error .badLength
      | some none => .error .badField
      | some (some steps) => if planInUse s i then .error .inUse else .ok (setPlan i (some steps))

/-- PLAN_TABLE_WRITE (R58, R172). -/
def execPlanTableWrite (s : State) : Host.Outcome State Fault Refusal := live s (tableWrite .plan writePlan s)

/-- A window set. -/
def setWindow (i : Fin 8) (w : Option Window) (s : State) : State := { s with windows := s.windows.set i.val w i.isLt }

/-- The Window Table's write rule (R89). -/
def writeWindow (index : Byte) (record : List Byte) (_s : State) : Except Result (State → State) :=
  match index? 8 index with
  | none => .error .badField
  | some i =>
    if record = [] then .ok (setWindow i none)
    else match parseWindow record with
      | none => .error .badLength
      | some none => .error .badField
      | some (some w) => .ok (setWindow i (some w))

/-- WINDOW_TABLE_WRITE (R89, R172). -/
def execWindowTableWrite (s : State) : Host.Outcome State Fault Refusal := live s (tableWrite .window writeWindow s)

/-- Whether an order that is not FREE holds a tariff class (R92, check 3). -/
def tariffInUse (s : State) (i : Fin 8) : Bool :=
  (List.finRange 16).any fun j => match s.orders[j] with | some o => o.cls == i | none => false

/-- A tariff class set. -/
def setTariff (i : Fin 8) (t : Option Tariff) (s : State) : State := { s with tariffs := s.tariffs.set i.val t i.isLt }

/-- The Tariff Table's write rule (R92). -/
def writeTariff (index : Byte) (record : List Byte) (s : State) : Except Result (State → State) :=
  match index? 8 index with
  | none => .error .badField
  | some i =>
    if record = [] then
      if tariffInUse s i then .error .inUse else .ok (setTariff i none)
    else match parseTariff record with
      | none => .error .badLength
      | some t => .ok (setTariff i (some t))

/-- TARIFF_TABLE_WRITE (R92, R172). -/
def execTariffTableWrite (s : State) : Host.Outcome State Fault Refusal := live s (tableWrite .tariff writeTariff s)

/-- Whether another present entry holds an account number (R95, check 4). -/
def otherAccount (s : State) (i : Fin 32) (n : Nat) : Bool :=
  (List.finRange 32).any fun j => j != i && (match s.accounts[j] with | some a => a.number == n | none => false)

/-- Whether held money or an open order keeps an entry from being removed or renumbered (R95, check 5). -/
def accountInUse (a : Account) : Bool := a.held != 0 || a.openOrders != 0

/-- An account entry set. -/
def setAccount (i : Fin 32) (a : Option Account) (s : State) : State :=
  { s with accounts := s.accounts.set i.val a i.isLt }

/-- Whether a ceiling lies below spent + held (R95, check 6). -/
def belowUse (a : Account) (ceiling : Option Nat) : Bool :=
  match ceiling with
  | some c => decide (c < satAdd a.spent a.held)
  | none => false

/-- The Account Table's write rule (R95, R96). -/
def writeAccount (index : Byte) (record : List Byte) (s : State) : Except Result (State → State) :=
  match index? 32 index with
  | none => .error .badField
  | some i =>
    if record = [] then
      match s.accounts[i] with
      | some a => if accountInUse a then .error .inUse else .ok (setAccount i none)
      | none => .ok (setAccount i none)
    else match parseAccount record with
      | none => .error .badLength
      | some (n, ceiling) =>
        if n = 0 ∨ otherAccount s i n = true then .error .badField
        else match s.accounts[i] with
          | none => .ok (setAccount i (some ⟨n, ceiling, 0, 0, 0⟩))
          | some a =>
            if a.number = n then
              if belowUse a ceiling then .error .belowUse
              else .ok (setAccount i (some { a with ceiling := ceiling }))
            else if accountInUse a then .error .inUse
            else .ok (setAccount i (some ⟨n, ceiling, 0, 0, 0⟩))

/-- ACCOUNT_TABLE_WRITE (R95, R96, R172). -/
def execAccountTableWrite (s : State) : Host.Outcome State Fault Refusal := live s (tableWrite .account writeAccount s)

/-- A template's items set. -/
def setTemplate (i : Fin 4) (items : List Item) (s : State) : State :=
  modComposer (fun c => { c with templates := c.templates.set i.val items i.isLt }) s

/-- The Template Table's write rule (R112). -/
def writeTemplate (index : Byte) (record : List Byte) (_s : State) : Except Result (State → State) :=
  match index? 4 index with
  | none => .error .badField
  | some i =>
    match parseTemplate record with
    | none => .error .badLength
    | some none => .error .badField
    | some (some items) => .ok (setTemplate i items)

/-- TEMPLATE_TABLE_WRITE (R112, R172). -/
def execTemplateTableWrite (s : State) : Host.Outcome State Fault Refusal :=
  live s (tableWrite .template writeTemplate s)

/-- Stand Text's write rule (R113). -/
def writeStandText (index : Byte) (record : List Byte) (_s : State) : Except Result (State → State) :=
  if index = 0 then
    match parseStandText record with
    | none => .error .badLength
    | some t => .ok (modComposer fun c => { c with stand := t })
  else .error .badField

/-- STAND_TEXT_WRITE (R113, R172). -/
def execStandTextWrite (s : State) : Host.Outcome State Fault Refusal :=
  live s (tableWrite .standText writeStandText s)

/-! ### Reads -/

/-- A TABLE_READ in hand, answered from the record that a table's owner gives for an index (R173); no record refuses the
index. -/
def tableRead (t : Table) (record : Byte → Option (List Byte)) (s : State) : State :=
  match inHand? s kindTableRead with
  | none => s
  | some f =>
    match f.payload with
    | [id, index, part] =>
      if id = t.code then
        match record index with
        | none => answerHand f .badField [] s
        | some bytes => match readData id index part bytes with
          | some data => answerHand f .done data s
          | none => answerHand f .badField [] s
      else if isTableCode id then s
      else answerHand f .badField [] s
    | _ => answerHand f .badLength [] s

/-- ORDER_TABLE_READ (R18, R173). -/
def execOrderTableRead (s : State) : Host.Outcome State Fault Refusal :=
  live s (tableRead .order (fun b => (index? 16 b).map fun i => orderRecord s.orders[i]) s)

/-- DEVICE_TABLE_READ (R137, R173). -/
def execDeviceTableRead (s : State) : Host.Outcome State Fault Refusal :=
  live s (tableRead .device (fun b => (index? 16 b).map fun i => deviceRecord s.devices[i]) s)

/-- STATION_TABLE_READ (R60, R173). -/
def execStationTableRead (s : State) : Host.Outcome State Fault Refusal :=
  live s (tableRead .station (fun b => (station? b).map fun st => stationRecord s.bindings[st]) s)

/-- STOCK_TABLE_READ (R21, R173). -/
def execStockTableRead (s : State) : Host.Outcome State Fault Refusal :=
  live s (tableRead .stock (fun b => (index? 8 b).map fun i => stockRecord s.stocks[i]) s)

/-- PLAN_TABLE_READ (R57, R173). -/
def execPlanTableRead (s : State) : Host.Outcome State Fault Refusal :=
  live s (tableRead .plan (fun b => (index? 8 b).map fun i => planRecord s.plans[i]) s)

/-- WINDOW_TABLE_READ (R88, R173). -/
def execWindowTableRead (s : State) : Host.Outcome State Fault Refusal :=
  live s (tableRead .window (fun b => (index? 8 b).map fun i => windowRecord s.windows[i]) s)

/-- TARIFF_TABLE_READ (R91, R173). -/
def execTariffTableRead (s : State) : Host.Outcome State Fault Refusal :=
  live s (tableRead .tariff (fun b => (index? 8 b).map fun i => tariffRecord s.tariffs[i]) s)

/-- ACCOUNT_TABLE_READ (R94, R173). -/
def execAccountTableRead (s : State) : Host.Outcome State Fault Refusal :=
  live s (tableRead .account (fun b => (index? 32 b).map fun i => accountRecord s.accounts[i]) s)

/-- TEMPLATE_TABLE_READ (R111, R173). -/
def execTemplateTableRead (s : State) : Host.Outcome State Fault Refusal :=
  live s (tableRead .template (fun b => (index? 4 b).map fun i => templateRecord s.composer.templates[i]) s)

/-- STAND_TEXT_READ (R113, R173). -/
def execStandTextRead (s : State) : Host.Outcome State Fault Refusal :=
  live s (tableRead .standText (fun b => if b = 0 then some (standTextRecord s.composer.stand) else none) s)

end Sys2Proof.Machine
end

