-- ==== Sys2Proof/Machine/Orders.lean ====
section
/-! DEFINITION. Orders (Chapter 1): ORDER_OPEN, ORDER_CLOSE, ORDER_CANCEL and the admission of an EXPOSE. -/

namespace Sys2Proof.Machine

/-- The lowest-numbered FREE entry (R1). -/
def freeEntry (s : State) : Option (Fin 16) := (List.finRange 16).find? fun i => s.orders[i].isNone

/-- The order that an accepted ORDER_OPEN places (R7). -/
def Order.opened (t : OrderTerms) (c : Fin 8) (setup : Nat) : Order :=
  { terms := t, cls := c, setupAmount := setup, settled := false, reserved := 0, exposed := 0, spoiled := 0
    charged := 0, outstanding := 0, closing := false, cancelling := false, closingTag := none
    summaryPending := false, summary := none }

/-- An accepted ORDER_OPEN (R7): the setup hold is placed and the entry filled. -/
def placeOrder (i : Fin 16) (o : Order) (s : State) : State :=
  let s := openAccount o.terms.account o.setupAmount s
  { s with orders := s.orders.set i.val (some o) i.isLt }

/-- The checks of ORDER_OPEN (R5 to R7). -/
def checkOpen (payload : List Byte) (s : State) : Except Result (State → State) :=
  match parseOpen payload with
  | none => .error .badLength
  | some x => match x.terms with
    | none => .error .badField
    | some t =>
      if (orderIdx s t.number).isSome then .error .inUse
      else match freeEntry s with
        | none => .error .tableFull
        | some i =>
          if s.plans[t.plan] = none then .error .noEntry
          else match accountOf s t.account with
            | none => .error .noAccount
            | some a => match tariffClass s t.account with
              | none => .error .noTariff
              | some (c, p) =>
                if fits a p.setupFee then .ok (placeOrder i (Order.opened t c p.setupFee))
                else .error .budget

/-- A management frame of a kind in hand, given to its owner's checks (R170). -/
def manage (kind : Byte) (owner : LinkFrame → State → Except Result (State → State)) (s : State) : State :=
  match inHand? s kind with
  | some f => answered f (owner f s) s
  | none => s

/-- ORDER_OPEN (R5 to R8). -/
def execOrderOpen (s : State) : Host.Outcome State Fault Refusal :=
  live s (manage kindOrderOpen (fun f s => checkOpen f.payload s) s)

/-- The order that an ORDER_CLOSE or ORDER_CANCEL names, with its entry (R9, R10). -/
def namedOrder (payload : List Byte) (s : State) : Except Result (Fin 16 × Order) :=
  match parseOrderNumber payload with
  | none => .error .badLength
  | some n =>
    if n = 0 then .error .badField
    else match orderIdx s n with
      | none => .error .noEntry
      | some i => match s.orders[i] with
        | some o => .ok (i, o)
        | none => .error .noEntry

/-- The order moves to CLOSING with a closing tag (R9). -/
def Order.close (tag : Byte) (o : Order) : Order := { o with closing := true, closingTag := some tag }

/-- The checks of ORDER_CLOSE (R9). -/
def checkClose (f : LinkFrame) (s : State) : Except Result (State → State) :=
  match namedOrder f.payload s with
  | .error c => .error c
  | .ok (i, o) =>
    if o.closing then .error .wrongState
    else .ok fun s => tryFree i (modOrder i (Order.close f.tag) s)

/-- ORDER_CLOSE (R9, R13). -/
def execOrderClose (s : State) : Host.Outcome State Fault Refusal := live s (manage kindOrderClose checkClose s)

/-- The order moves to CLOSING with the cancelling marker set (R10). -/
def Order.cancel (tag : Byte) (o : Order) : Order :=
  { o with closing := true, cancelling := true, closingTag := some tag }

/-- The checks of ORDER_CANCEL (R10). -/
def checkCancel (f : LinkFrame) (s : State) : Except Result (State → State) :=
  match namedOrder f.payload s with
  | .error c => .error c
  | .ok (i, o) =>
    if o.closing && (o.cancelling || o.summaryPending) then .error .wrongState
    else .ok fun s =>
      finish (tryFree i (cancelAt o.terms.station o.terms.number (modOrder i (Order.cancel f.tag) s)))

/-- ORDER_CANCEL (R10, R11, R195). -/
def execOrderCancel (s : State) : Host.Outcome State Fault Refusal := live s (manage kindOrderCancel checkCancel s)

/-- The enabled station whose camera an EXPOSE is addressed to (R15). -/
def exposeStation (s : State) (dst : Byte) : Option St :=
  match cameraStation s dst with
  | some st => if s.bindings[st].enabled then some st else none
  | none => none

/-- An admitted request joins the queue's tail, and the order counts it (R17). -/
def admitRequest (st : St) (i : Fin 16) (q : Request) (s : State) : State :=
  finish (modOrder i (fun o => { o with outstanding := o.outstanding + 1 })
    (modStation st (fun x => { x with queue := x.queue ++ [q] }) s))

/-- The checks of an intercepted EXPOSE (R15 to R17). -/
def checkExpose (f : LinkFrame) (s : State) : Except Result (State → State) :=
  match parseExpose f.payload with
  | none => .error .badLength
  | some x =>
    if x.order = 0 ∨ x.original = 0 ∨ 9999 < x.original then .error .badField
    else match exposeStation s f.dst with
      | none => .error .wrongStation
      | some st => match orderIdx s x.order with
        | none => .error .noEntry
        | some i => match s.orders[i] with
          | none => .error .noEntry
          | some o =>
            if o.closing then .error .wrongState
            else if o.terms.station ≠ st then .error .wrongStation
            else if s.stations[st].state = .disabled then .error .wrongStation
            else if Config.stationQueue ≤ s.stations[st].queue.length then .error .queueFull
            else .ok (admitRequest st i (x.request f.tag))

/-- The intercepted frame in hand is admitted or refused (R15 to R17). -/
def exposeHand (s : State) : State :=
  match s.inHand with
  | some ⟨f, .intercept⟩ => answered f (checkExpose f s) s
  | _ => s

/-- EXPOSE (R15 to R17). -/
def execExpose (s : State) : Host.Outcome State Fault Refusal := live s (exposeHand s)

end Sys2Proof.Machine
end

