-- ==== Sys2Proof/Machine/Control.lean ====
section
/-! DEFINITION. STATION_CONTROL (4.4, 9.4, 9.5): ENABLE, DISABLE, ABORT and UNLOAD. -/

namespace Sys2Proof.Machine

/-- A STATION_CONTROL in hand, given to the rule of a sub-command (4.4). One of the wrong length, or that names no station or
no sub-command, is refused by whichever row takes it. -/
def stationControl (c : SubCommand) (owner : St → State → Except Result (State → State)) (s : State) : State :=
  match inHand? s kindStationControl with
  | none => s
  | some f =>
    match f.payload with
    | [n, b] => match station? n, SubCommand.ofCode b with
      | some st, some c' => if c' = c then answered f (owner st s) s else s
      | _, _ => answerHand f .badField [] s
    | _ => answerHand f .badLength [] s

/-- The class of the device at an address. -/
def classAt (s : State) (a : Byte) : Option DevClass :=
  match deviceIdx s a with
  | some i => s.devices[i].map (·.cls)
  | none => none

/-- A station's enabled flag set. -/
def setEnabled (st : St) (b : Bool) (s : State) : State :=
  { s with bindings := upd s.bindings st fun e => { e with enabled := b } }

/-- The state of a station that ENABLE is accepted for (R66). -/
def enableStation (st : St) (s : State) : State :=
  let s := setEnabled st true s
  finish (if bothUp s st then enterIdle st s else modStation st (fun x => { x with state := .offline }) s)

/-- The checks of ENABLE (R66). -/
def checkEnable (st : St) (s : State) : Except Result (State → State) :=
  if s.stations[st].state ≠ .disabled then .error .wrongState
  else match s.bindings[st].binding with
    | none => .error .noEntry
    | some b => match classAt s b.camera, classAt s b.lamp with
      | some cc, some cl => if cc = .camera ∧ cl = .lamp then .ok (enableStation st) else .error .badField
      | _, _ => .error .noEntry

/-- ENABLE (R66). -/
def execEnable (s : State) : Host.Outcome State Fault Refusal := live s (stationControl .enable checkEnable s)

/-- The effect of DISABLE (R67). -/
def disableStation (st : St) (s : State) : State :=
  detach (.station st) (dropAsk st
    (modStation st (fun x => { x with state := .disabled, pollTimer := false, rollCheck := false, gap := none, waits := 0 })
      (setEnabled st false s)))

/-- Whether DISABLE is accepted (R67). -/
def disableable (s : State) (st : St) : Bool :=
  let x := s.stations[st]
  (x.state == .offline || x.state == .noRoll || x.state == .ready) && x.queue.isEmpty && x.pendingPost.isNone
    && !openWaits s st && !closeUnderWay s st

/-- The checks of DISABLE (R67). -/
def checkDisable (st : St) (s : State) : Except Result (State → State) :=
  if disableable s st then .ok (disableStation st) else .error .wrongState

/-- DISABLE (R67). -/
def execDisable (s : State) : Host.Outcome State Fault Refusal := live s (stationControl .disable checkDisable s)

/-- The checks of ABORT (R191). -/
def checkAbort (st : St) (s : State) : Except Result (State → State) :=
  if abortable s st then .ok fun s => finish (applyAbort st s) else .error .wrongState

/-- ABORT (R191 to R194). -/
def execAbort (s : State) : Host.Outcome State Fault Refusal := live s (stationControl .abort checkAbort s)

/-- Whether the station's state admits an UNLOAD (R196, check 1). -/
def unloadable (s : State) (st : St) : Bool :=
  let x := s.stations[st]
  s.rolls[st].map.isSome && !closeUnderWay s st && x.pendingPost.isNone
    && ((x.state == .ready && !x.rollCheck) || x.state == .waitingLabels
      || (x.state == .suspended && !x.susp.requestHeld && x.susp.step == .awaiting))

/-- The effect of UNLOAD (R196): a head that waits for labels waits for film, and the unload starts. -/
def unloadStation (st : St) (s : State) : State :=
  finish (startUnload st
    (modHead st (fun q => if q.state = .waitingLabels then { q with state := .waitingFilm } else q) s))

/-- The checks of UNLOAD (R196). -/
def checkUnload (st : St) (s : State) : Except Result (State → State) :=
  if unloadable s st then
    if s.stations[st].state = .suspended ∧ isUp s (cameraOf s st) = false then .error .deviceDown
    else .ok (unloadStation st)
  else .error .wrongState

/-- UNLOAD (R196). -/
def execUnload (s : State) : Host.Outcome State Fault Refusal := live s (stationControl .unload checkUnload s)

end Sys2Proof.Machine
end

