-- ==== Sys2Proof/Machine/Lines.lean ====
section
/-! DEFINITION. The pins: the pin reset (R179, R180) and the hold lines (R82, R185). -/

namespace Sys2Proof.Machine

/-- PIN_RESET (R179, R180): every block is at its reset state, the straps are latched from their pins, and a receiver whose
line is not idle discards up to the next idle. The hold lines keep their levels and the commands that wait stay. -/
def execPinReset (addrSel consoleRate crxBusy : Bool) (s : State) : Host.Outcome State Fault Refusal :=
  .next
    { State.reset with
        pins := ⟨addrSel, consoleRate, s.pins.hold, false⟩
        port := { State.reset.port with rx := ⟨[], if crxBusy then .skipping else .unclaimed⟩ }
        pending := s.pending }

/-- The level of a hold line set. -/
def setHold (st : St) (level : Bool) (s : State) : State :=
  { s with pins := { s.pins with hold := s.pins.hold.set st.val level st.isLt } }

/-- A hold line is released: a HELD station takes the boundary checks again (R82), a SUSPENDED station clears release
owed (R185). -/
def holdReleased (st : St) (s : State) : State :=
  let x := s.stations[st]
  match x.state with
  | .held => if x.pendingPost.isSome then s else finish (boundary st s)
  | .suspended => finish (modStation st (fun x => { x with susp := { x.susp with releaseOwed := false } }) s)
  | .disabled | .offline | .noRoll | .ready | .running | .waitingFilm | .waitingLabels | .unloading => s

/-- HOLD_LINE_RELEASED (R82, R185): a line that goes from asserted to released. -/
def execHoldLineReleased (st : St) (s : State) : Host.Outcome State Fault Refusal :=
  .next (if s.pins.hold[st] then
      (if s.pins.nresetLow then setHold st false s else holdReleased st (setHold st false s))
    else s)

/-- HOLD_LINE_ASSERTED (R74, R82): the level is kept for the next frame boundary. -/
def execHoldLineAsserted (st : St) (s : State) : Host.Outcome State Fault Refusal := .next (setHold st true s)

/-- NRESET_LOW (R180). -/
def execNresetLow (s : State) : Host.Outcome State Fault Refusal :=
  .next { s with pins := { s.pins with nresetLow := true } }

end Sys2Proof.Machine
end

