-- ==== Sys2Proof/Machine/Posts.lean ====
section
/-! DEFINITION. The waiters of the Event Queue whose turn has come: each uses the place that it has been given (R178) and its
block carries on (R13, R25, R40, R84, R131, R155, R197). -/

namespace Sys2Proof.Machine

/-- PENDING_POST_QUEUED (R84): the held REQUEST_DONE is queued and the station carries on under R83. -/
def execPendingPostQueued (st : St) (s : State) : Host.Outcome State Fault Refusal :=
  live s (
    if hasPlace (.requestDone st) s then
      match s.stations[st].pendingPost, headOf s st with
      | some e, some q => finish (finishRequest st (usePlace (.event q.tag e) s))
      | _, _ => s
    else s)

/-- ORDER_SUMMARY_QUEUED (R13): the built summary is queued and the entry becomes FREE. -/
def execOrderSummaryQueued (i : Fin 16) (s : State) : Host.Outcome State Fault Refusal :=
  live s (
    if hasPlace (.orderSummary i) s then
      match s.orders[i] with
      | some o => match o.summary with
        | some e => freeOrder i (usePlace (.event o.summaryTag e) s)
        | none => s
      | none => s
    else s)

/-- After a ROLL_OPEN that waited (R25): a station in NO_ROLL or WAITING (FILM) enters READY with roll check pending; any
other station stays. -/
def rollOpenTold (st : St) (s : State) : State :=
  if s.stations[st].state = .noRoll ∨ s.stations[st].state = .waitingFilm then enterChecked st s else s

/-- ROLL_OPEN_QUEUED (R25, R63). -/
def execRollOpenQueued (st : St) (s : State) : Host.Outcome State Fault Refusal :=
  live s (
    if hasPlace (.rollOpen st) s then
      match s.rolls[st].map with
      | some m =>
        finish (rollOpenTold st (modMap st (fun m => { m with opening := false })
          (usePlace (.event 0 (rollOpenEvent st m)) s)))
      | none => s
    else s)

/-- ROLL_REPORT_QUEUED (R40): the report is queued, then the strip is released and the map discarded. -/
def execRollReportQueued (st : St) (s : State) : Host.Outcome State Fault Refusal :=
  live s (
    if hasPlace (.rollReport st) s then
      match s.rolls[st].map with
      | some m => match m.closing with
        | some reason =>
          finish (rollClosed st (discardMap st (usePlace (.event 0 (rollReportEvent st m reason)) s)))
        | none => s
      | none => s
    else s)

/-- STRIP_PRINTED_QUEUED (R131, R133). -/
def execStripPrintedQueued (s : State) : Host.Outcome State Fault Refusal :=
  live s (
    if hasPlace .stripPrinted s then
      match s.composer.pendingPost with
      | some e => finish (stripLeaves (usePlace (.event 0 e) s))
      | none => s
    else s)

/-- DEVICE_REPORT_QUEUED (R155): the oldest held DEVICE_REPORT is queued. -/
def execDeviceReportQueued (s : State) : Host.Outcome State Fault Refusal :=
  live s (
    if hasPlace .deviceReport s then
      match s.ring.heldReports with
      | e :: rest => finish (usePlace (.event 0 e) { s with ring := { s.ring with heldReports := rest } })
      | [] => s
    else s)

/-- FAULT_NOTICE_QUEUED (R197): the waiting notice is queued. -/
def execFaultNoticeQueued (s : State) : Host.Outcome State Fault Refusal :=
  live s (
    if hasPlace .faultNotice s then
      match s.capture.record with
      | some f => usePlace (.event 0 (.faultNotice f)) { s with capture := { s.capture with notice := .posted } }
      | none => s
    else s)

end Sys2Proof.Machine
end

