-- ==== Sys2Proof/Machine/Reads.lean ====
section
/-! DEFINITION. The other management requests: ACCOUNT_READ and ACCOUNT_CLEAR (5.9), FAULT_READ (R198), PRINT_BARRIER (R132),
STATUS_READ (R174, R205) and RESTART (8.6). -/

namespace Sys2Proof.Machine

/-! ### Accounts (R107, R108) -/

/-- The account that a request names, with its entry (R107). -/
def namedAccount (payload : List Byte) (s : State) : Except Result (Fin 32 × Account) :=
  match parseAccountNumber payload with
  | none => .error .badLength
  | some n =>
    if n = 0 ∨ 16777215 < n then .error .badField
    else match accountIdx s n with
      | none => .error .noAccount
      | some i => match s.accounts[i] with
        | some a => .ok (i, a)
        | none => .error .noAccount

/-- The class byte of an account: FFh for none (10.5). -/
def classByte (c : Option (Fin 8 × Tariff)) : Byte :=
  match c with
  | some (k, _) => u8 k.val
  | none => 0xFF

/-- An answer with data and a change of an owner that answers DONE with data. -/
def answeredData (f : LinkFrame) (r : Except Result (List Byte × (State → State))) (s : State) : State :=
  match r with
  | .error code => answerHand f code [] s
  | .ok (data, change) => change (answerHand f .done data s)

/-- A management frame of a kind in hand, given to an owner that answers with data. -/
def manageData (kind : Byte) (owner : LinkFrame → State → Except Result (List Byte × (State → State))) (s : State) :
    State :=
  match inHand? s kind with
  | some f => answeredData f (owner f s) s
  | none => s

/-- The answer to ACCOUNT_READ (R107): the account's record, and the class a new open would get. -/
def readAccount (f : LinkFrame) (s : State) : Except Result (List Byte × (State → State)) :=
  match namedAccount f.payload s with
  | .error c => .error c
  | .ok (_, a) => .ok (accountRecord (some a) ++ [classByte (tariffClass s a.number)], id)

/-- ACCOUNT_READ (R107). -/
def execAccountRead (s : State) : Host.Outcome State Fault Refusal := live s (manageData kindAccountRead readAccount s)

/-- The answer to ACCOUNT_CLEAR (R108): the amount cleared; spent becomes 0. -/
def clearAccount (f : LinkFrame) (s : State) : Except Result (List Byte × (State → State)) :=
  match namedAccount f.payload s with
  | .error c => .error c
  | .ok (i, a) => .ok (be32 a.spent, modAccount i fun a => { a with spent := 0 })

/-- ACCOUNT_CLEAR (R108). -/
def execAccountClear (s : State) : Host.Outcome State Fault Refusal :=
  live s (manageData kindAccountClear clearAccount s)

/-! ### FAULT_READ (R198) -/

/-- The data of a FAULT_READ (10.5). -/
def faultData (c : Capture) : List Byte :=
  faultReadFlags c :: (match c.record with | some f => faultBytes f | none => [])

/-- The capture after a reading: empty, LOST clear, a waiting notice withdrawn (R198). -/
def emptyCapture (s : State) : State :=
  let s' := { s with capture := ⟨none, false, .none⟩ }
  if s.capture.notice = .waiting then withdrawWaiter .faultNotice s' else s'

/-- The answer to FAULT_READ (R198). -/
def readFault (f : LinkFrame) (s : State) : Except Result (List Byte × (State → State)) :=
  if f.payload = [] then .ok (faultData s.capture, emptyCapture) else .error .badLength

/-- FAULT_READ (R198). -/
def execFaultRead (s : State) : Host.Outcome State Fault Refusal := live s (manageData kindFaultRead readFault s)

/-! ### PRINT_BARRIER (R132) -/

/-- The print barrier in hand: refused, answered at once, or kept pending with its reserved place (R132). -/
def barrierHand (s : State) : State :=
  match inHand? s kindPrintBarrier with
  | none => s
  | some f =>
    if f.payload ≠ [] then answerHand f .badLength [] s
    else if s.composer.barrierCount.isSome then answerHand f .wrongState [] s
    else if s.composer.strips.isEmpty then answerHand f .done [] s
    else
      { modComposer (fun c => { c with barrierCount := some c.strips.length }) s with
          inHand := none, deferred := some f.tag }

/-- PRINT_BARRIER (R132, R133). -/
def execPrintBarrier (s : State) : Host.Outcome State Fault Refusal := live s (barrierHand s)

/-! ### STATUS_READ (R174, R205) -/

/-- The six bytes of a station in the STAND section (10.5). DESIGN CHOICE (assumption log 49): P and N of a closing map are reported
until its ROLL_REPORT is queued. -/
def stationStatus (s : State) (st : St) : List Byte :=
  let x := s.stations[st]
  [x.state.code, x.state.waitingCode, u8 (gateOf s st), u8 ((s.rolls[st].map.map (·.next)).getD 0), u8 x.queue.length,
    closeCode s.rolls[st].lastClose]

/-- The STAND section with its section byte (R205). -/
def standData (s : State) : List Byte :=
  [0x01] ++ (List.finRange 4).flatMap (stationStatus s) ++ be16 (freeCount s.composer)
    ++ be16 s.composer.strips.length
    ++ [s.composer.print.code, flag s.composer.barrierCount.isSome, u8 s.eq.records.length, u8 s.eq.reserved,
        flag s.capture.record.isSome, strapByte s.pins]

/-- The six bytes of a Device Table entry in a DEVICES section (R205). -/
def deviceStatus : Option Device → List Byte
  | none => [0, 0, 0, 0, 0, 0]
  | some d => [1, d.addr, d.cls.code, d.link.code] ++ be16 d.failedWakes

/-- A DEVICES section with its section byte: eight entries from entry 0 or from entry 8 on (R205). -/
def devicesData (section_ : Byte) (high : Bool) (s : State) : List Byte :=
  section_ :: ((List.finRange 16).filter fun i => decide (8 ≤ i.val) == high).flatMap fun i => deviceStatus s.devices[i]

/-- A STATUS_READ in hand, answered by the row of its section (R174). -/
def statusRead (section_ : Byte) (data : State → List Byte) (s : State) : State :=
  match inHand? s kindStatusRead with
  | none => s
  | some f =>
    match f.payload with
    | [b] =>
      if b = section_ then answerHand f .done (data s) s
      else if b = 0x01 ∨ b = 0x02 ∨ b = 0x03 then s
      else answerHand f .badField [] s
    | _ => answerHand f .badLength [] s

/-- STATUS_READ_STAND (R174, R205). -/
def execStatusReadStand (s : State) : Host.Outcome State Fault Refusal := live s (statusRead 0x01 standData s)

/-- STATUS_READ_DEVICES_LOW (R174, R205). -/
def execStatusReadDevicesLow (s : State) : Host.Outcome State Fault Refusal :=
  live s (statusRead 0x02 (devicesData 0x02 false) s)

/-- STATUS_READ_DEVICES_HIGH (R174, R205). -/
def execStatusReadDevicesHigh (s : State) : Host.Outcome State Fault Refusal :=
  live s (statusRead 0x03 (devicesData 0x03 true) s)

/-! ### RESTART (R20, R42, R85, R110, R135, R159, R175, R176, R199) -/

/-- A station after a RESTART (R85, R181). -/
def Station.restarted (x : Station) : Station :=
  { Station.reset with state := if x.state = .disabled then .disabled else .offline }

/-- A roll record after a RESTART (R42). -/
def RollRec.restarted (r : RollRec) : RollRec :=
  { RollRec.reset with lastClose := if r.map.isSome then some .restart else r.lastClose }

/-- A device entry after a RESTART (R159). -/
def Device.restarted (d : Device) : Device :=
  { d with link := .absent, failedWakes := 0, mismatchNoted := false, busy := false, idleTimer := false
           wakeTimer := false, dueWake := true, duePoll := false }

/-- The Label Composer after a RESTART (R135): templates and Stand Text are kept. -/
def Composer.restarted (c : Composer) : Composer := { Composer.reset with templates := c.templates, stand := c.stand }

/-- The Ring Port's asks, engine and held report after a RESTART (R159). -/
def Ring.restarted (r : Ring) : Ring :=
  { r with asks := Vector.replicate 4 none, composerAsk := none, heldReports := []
           engine := r.engine.map fun t => { t with void := true } }

/-- The records that the Event Queue holds after a RESTART (R176): the barrier's CANCELLED, if there is one, and the DONE. -/
def restartRecords (s : State) (tag : Byte) : List Record :=
  (match s.deferred with | some t => [.result t .cancelled []] | none => []) ++ [.result tag .done []]

/-- The blocks' parts of a RESTART, the console side's among them (R175, R176). -/
def restartBlocks (tag : Byte) (s : State) : State :=
  { s with
      orders := Vector.replicate 16 none
      rolls := s.rolls.map RollRec.restarted
      stations := s.stations.map Station.restarted
      accounts := s.accounts.map fun a => a.map fun a => { a with held := 0, openOrders := 0 }
      composer := s.composer.restarted
      devices := s.devices.map fun d => d.map Device.restarted
      ring := s.ring.restarted
      slot := .empty
      capture := ⟨none, false, .none⟩
      deferred := none
      inHand := none
      eq := ⟨restartRecords s tag, 0, [], []⟩
      port := { s.port with
        beforeBusy := (restartRecords s tag).length
        sending := s.port.sending.map fun x => { x with holdsPlace := false } } }

/-- A RESTART in hand (R175). -/
def restartHand (s : State) : State :=
  match inHand? s kindRestart with
  | none => s
  | some f =>
    if f.payload = [] then arbitrate (startTransmit (restartBlocks f.tag s)) else answerHand f .badLength [] s

/-- RESTART (R175, R176). -/
def execRestart (s : State) : Host.Outcome State Fault Refusal := live s (restartHand s)

end Sys2Proof.Machine
end

