-- ==== Sys2Proof/Machine/Timers.lean ====
section
/-! DEFINITION. The timers and limits that expire: WAIT gaps (R73, R127), idle and wake timers (R140, R151, R152), poll timers
(R77, R128), and the shot, advance, rewind and print limits (R78, R80, R39, R128, R193). -/

namespace Sys2Proof.Machine

/-- A station's WAIT gap passes (R73); a station that has ended its request asks for nothing (R84). -/
def stationGapPasses (st : St) (s : State) : State :=
  match s.stations[st].gap with
  | none => s
  | some p =>
    let s := modStation st (fun x => { x with gap := none }) s
    if s.stations[st].pendingPost.isSome then s else finish (askFor st p s)

/-- The Composer's WAIT gap passes (R127, R128). -/
def composerGapPasses (s : State) : State :=
  match s.composer.gap with
  | none => s
  | some p =>
    let s := modComposer (fun c => { c with gap := none }) s
    finish (if p = .print then askPrint s else placeComposerAsk (printerAddress s) kindStatus [] .printPoll s)

/-- WAIT_GAP_EXPIRED (R73, R127). -/
def execWaitGapExpired (party : GapParty) (s : State) : Host.Outcome State Fault Refusal :=
  live s (match party with
    | .station st => stationGapPasses st s
    | .composer => composerGapPasses s)

/-- IDLE_TIMER_EXPIRED (R151, R152): the entry is due for a poll. -/
def execIdleTimerExpired (i : Fin 16) (s : State) : Host.Outcome State Fault Refusal :=
  live s (match s.devices[i] with
    | some d =>
      if d.idleTimer then finish (modDevice i (fun d => { d with idleTimer := false, duePoll := true }) s) else s
    | none => s)

/-- WAKE_TIMER_EXPIRED (R140, R152): the entry is due for a wake. -/
def execWakeTimerExpired (i : Fin 16) (s : State) : Host.Outcome State Fault Refusal :=
  live s (match s.devices[i] with
    | some d =>
      if d.wakeTimer then finish (modDevice i (fun d => { d with wakeTimer := false, dueWake := true }) s) else s
    | none => s)

/-- What a station polls for when its poll timer expires (R77, R80, R38, R189). -/
def pollPurpose (x : Station) : Option Purpose :=
  match x.state with
  | .running => match x.phase with
    | some .shotWait => some .shotPoll
    | some .advanceWait => some .advancePoll
    | _ => none
  | .unloading => some .rewindPoll
  | .suspended => if x.susp.step = .settlingAdvanceWait then some .settlePoll else none
  | .disabled | .offline | .noRoll | .ready | .held | .waitingFilm | .waitingLabels => none

/-- A station's poll timer expires: it asks for a STATUS to its camera (R77). -/
def pollTimerExpires (st : St) (s : State) : State :=
  let x := s.stations[st]
  if x.pollTimer then
    let s := modStation st (fun x => { x with pollTimer := false }) s
    match pollPurpose x with
    | some p => if x.pendingPost.isSome then s else finish (askFor st p s)
    | none => s
  else s

/-- POLL_TIMER_EXPIRED (R77, R80, R38). -/
def execPollTimerExpired (st : St) (s : State) : Host.Outcome State Fault Refusal := live s (pollTimerExpires st s)

/-- PRINT_POLL_TIMER_EXPIRED (R128): in CONFIRMING the Composer asks for a STATUS to the printer. -/
def execPrintPollTimerExpired (s : State) : Host.Outcome State Fault Refusal :=
  live s (
    if s.composer.pollTimer then
      let s := modComposer (fun c => { c with pollTimer := false }) s
      if s.composer.print = .confirming then
        finish (placeComposerAsk (printerAddress s) kindStatus [] .printPoll s)
      else s
    else s)

/-- OP_TIMEOUT of a station's operation (R197). -/
def operationTimeout (st : St) (frameKind : Byte) (s : State) : State :=
  offerFault (stationFault .opTimeout st (cameraOf s st) frameKind none s) s

/-- The shot limit passes (R78): SPOILED (UNCERTAIN) and suspended; under an abort SPOILED (ABORTED) and on to ADVANCE
(R193). -/
def shotLimitPasses (st : St) (s : State) : State :=
  let s := modStation st (fun x => { x with shotLimit := none, pollTimer := false }) s
  if headAborts s st then
    match markGateSpoiled st .aborted s with
    | (.closed, s) => endRequest st .mismatch s
    | (.marked, s) => enterAdvance st (operationTimeout st kindShoot s)
    | (.already, s) => enterAdvance st (operationTimeout st kindShoot s)
  else
    match markGateSpoiled st .uncertain s with
    | (.closed, s) => endRequest st .mismatch s
    | (.marked, s) => suspendHeld st .shotWait true (operationTimeout st kindShoot s)
    | (.already, s) => suspendHeld st .shotWait true (operationTimeout st kindShoot s)

/-- SHOT_LIMIT_EXPIRED (R78, R193). -/
def execShotLimitExpired (st : St) (s : State) : Host.Outcome State Fault Refusal :=
  live s (
    let x := s.stations[st]
    if x.shotLimit.isSome && x.state == .running && x.phase == some .shotWait && x.pendingPost.isNone then
      finish (shotLimitPasses st s)
    else s)

/-- The advance limit passes (R80, R183): the station is suspended, or its settling step fails. -/
def advanceLimitPasses (st : St) (s : State) : State :=
  let x := s.stations[st]
  let s := operationTimeout st kindAdvance (modStation st (fun x => { x with advanceLimit := false, pollTimer := false }) s)
  if x.state = .suspended then failStep st true s else suspendHeld st .advanceWait true s

/-- ADVANCE_LIMIT_EXPIRED (R80, R183, R189). -/
def execAdvanceLimitExpired (st : St) (s : State) : Host.Outcome State Fault Refusal :=
  live s (
    let x := s.stations[st]
    if x.advanceLimit && x.pendingPost.isNone
        && ((x.state == .running && x.phase == some .advanceWait)
          || (x.state == .suspended && x.susp.step == .settlingAdvanceWait)) then
      finish (advanceLimitPasses st s)
    else s)

/-- REWIND_LIMIT_EXPIRED (R39, R183). -/
def execRewindLimitExpired (st : St) (s : State) : Host.Outcome State Fault Refusal :=
  live s (
    let x := s.stations[st]
    if x.rewindLimit && x.state == .unloading then finish (suspendUnload st true (operationTimeout st kindRewind s)) else s)

/-- PRINT_LIMIT_EXPIRED (R128). -/
def execPrintLimitExpired (s : State) : Host.Outcome State Fault Refusal :=
  live s (
    if s.composer.printLimit && s.composer.print == .confirming then
      finish (pauseComposer .timeout (offerFault (printerFault .opTimeout kindPrint none s) s))
    else s)

end Sys2Proof.Machine
end

