-- ==== Sys2Proof/Machine/Dispatch.lean ====
section
/-! DEFINITION. One arm per command, each a direct call of its meaning. -/

namespace Sys2Proof.Machine

def exec (i : Instr) (s : State) : Host.Outcome State Fault Refusal :=
  match i with
  | .pinReset a r b => Sys2Proof.Machine.execPinReset a r b s
  | .holdLineReleased st => Sys2Proof.Machine.execHoldLineReleased st s
  | .linkFrameReceived bytes idle => Sys2Proof.Machine.execLinkFrameReceived bytes idle s
  | .recordSent => Sys2Proof.Machine.execRecordSent s
  | .classifierTakesFrame => Sys2Proof.Machine.execClassifierTakesFrame s
  | .expose => Sys2Proof.Machine.execExpose s
  | .forward => Sys2Proof.Machine.execForward s
  | .forwardSlotEmptied => Sys2Proof.Machine.execForwardSlotEmptied s
  | .orderTableWrite => Sys2Proof.Machine.execOrderTableWrite s
  | .deviceTableWrite => Sys2Proof.Machine.execDeviceTableWrite s
  | .stationTableWrite => Sys2Proof.Machine.execStationTableWrite s
  | .stockTableWrite => Sys2Proof.Machine.execStockTableWrite s
  | .planTableWrite => Sys2Proof.Machine.execPlanTableWrite s
  | .windowTableWrite => Sys2Proof.Machine.execWindowTableWrite s
  | .tariffTableWrite => Sys2Proof.Machine.execTariffTableWrite s
  | .accountTableWrite => Sys2Proof.Machine.execAccountTableWrite s
  | .templateTableWrite => Sys2Proof.Machine.execTemplateTableWrite s
  | .standTextWrite => Sys2Proof.Machine.execStandTextWrite s
  | .orderTableRead => Sys2Proof.Machine.execOrderTableRead s
  | .deviceTableRead => Sys2Proof.Machine.execDeviceTableRead s
  | .stationTableRead => Sys2Proof.Machine.execStationTableRead s
  | .stockTableRead => Sys2Proof.Machine.execStockTableRead s
  | .planTableRead => Sys2Proof.Machine.execPlanTableRead s
  | .windowTableRead => Sys2Proof.Machine.execWindowTableRead s
  | .tariffTableRead => Sys2Proof.Machine.execTariffTableRead s
  | .accountTableRead => Sys2Proof.Machine.execAccountTableRead s
  | .templateTableRead => Sys2Proof.Machine.execTemplateTableRead s
  | .standTextRead => Sys2Proof.Machine.execStandTextRead s
  | .orderOpen => Sys2Proof.Machine.execOrderOpen s
  | .orderClose => Sys2Proof.Machine.execOrderClose s
  | .orderCancel => Sys2Proof.Machine.execOrderCancel s
  | .enable => Sys2Proof.Machine.execEnable s
  | .disable => Sys2Proof.Machine.execDisable s
  | .abort => Sys2Proof.Machine.execAbort s
  | .unload => Sys2Proof.Machine.execUnload s
  | .accountRead => Sys2Proof.Machine.execAccountRead s
  | .accountClear => Sys2Proof.Machine.execAccountClear s
  | .faultRead => Sys2Proof.Machine.execFaultRead s
  | .printBarrier => Sys2Proof.Machine.execPrintBarrier s
  | .statusReadStand => Sys2Proof.Machine.execStatusReadStand s
  | .statusReadDevicesLow => Sys2Proof.Machine.execStatusReadDevicesLow s
  | .statusReadDevicesHigh => Sys2Proof.Machine.execStatusReadDevicesHigh s
  | .restart => Sys2Proof.Machine.execRestart s
  | .readyReceived bytes => Sys2Proof.Machine.execReadyReceived bytes s
  | .ackReceived bytes => Sys2Proof.Machine.execAckReceived bytes s
  | .waitReceived bytes => Sys2Proof.Machine.execWaitReceived bytes s
  | .nakReceived bytes => Sys2Proof.Machine.execNakReceived bytes s
  | .statusReplyReceived bytes => Sys2Proof.Machine.execStatusReplyReceived bytes s
  | .strayRingFrame bytes => Sys2Proof.Machine.execStrayRingFrame bytes s
  | .replyWindowExpired => Sys2Proof.Machine.execReplyWindowExpired s
  | .waitGapExpired party => Sys2Proof.Machine.execWaitGapExpired party s
  | .idleTimerExpired entry => Sys2Proof.Machine.execIdleTimerExpired entry s
  | .wakeTimerExpired entry => Sys2Proof.Machine.execWakeTimerExpired entry s
  | .pollTimerExpired st => Sys2Proof.Machine.execPollTimerExpired st s
  | .printPollTimerExpired => Sys2Proof.Machine.execPrintPollTimerExpired s
  | .shotLimitExpired st => Sys2Proof.Machine.execShotLimitExpired st s
  | .advanceLimitExpired st => Sys2Proof.Machine.execAdvanceLimitExpired st s
  | .rewindLimitExpired st => Sys2Proof.Machine.execRewindLimitExpired st s
  | .printLimitExpired => Sys2Proof.Machine.execPrintLimitExpired s
  | .pendingPostQueued st => Sys2Proof.Machine.execPendingPostQueued st s
  | .orderSummaryQueued entry => Sys2Proof.Machine.execOrderSummaryQueued entry s
  | .rollOpenQueued st => Sys2Proof.Machine.execRollOpenQueued st s
  | .rollReportQueued st => Sys2Proof.Machine.execRollReportQueued st s
  | .stripPrintedQueued => Sys2Proof.Machine.execStripPrintedQueued s
  | .deviceReportQueued => Sys2Proof.Machine.execDeviceReportQueued s
  | .faultNoticeQueued => Sys2Proof.Machine.execFaultNoticeQueued s
  | .holdLineAsserted st => Sys2Proof.Machine.execHoldLineAsserted st s
  | .nresetLow => Sys2Proof.Machine.execNresetLow s

end Sys2Proof.Machine
end

