-- ==== Sys2Proof/Safety.lean ====
section
/-! DEFINITION. The terms that statements use: how a command completes, what it leaves unchanged, how it is answered, when
nothing is left to do at the end of an act, which tables are legal, and how the places of the Event Queue and the receive
buffers are accounted for. -/

namespace Sys2Proof.Machine

/-- A command answers a next state that has a property. -/
def Completes (o : Host.Outcome State Fault Refusal) (p : State → Prop) : Prop := ∃ t, o = .next t ∧ p t

/-! ### What a command leaves unchanged -/

/-- The parts of State that a frame speaks of. -/
inductive Part where
  | pins | port | inHand | deferred | eventQueue | orders | stocks | plans | bindings | stations | rolls | windows
  | tariffs | accounts | composer | devices | ring | slot | capture | pending
deriving DecidableEq, Repr

/-- A part is the same in two states. -/
def Part.same (p : Part) (s t : State) : Prop :=
  match p with
  | .pins => t.pins = s.pins
  | .port => t.port = s.port
  | .inHand => t.inHand = s.inHand
  | .deferred => t.deferred = s.deferred
  | .eventQueue => t.eq = s.eq
  | .orders => t.orders = s.orders
  | .stocks => t.stocks = s.stocks
  | .plans => t.plans = s.plans
  | .bindings => t.bindings = s.bindings
  | .stations => t.stations = s.stations
  | .rolls => t.rolls = s.rolls
  | .windows => t.windows = s.windows
  | .tariffs => t.tariffs = s.tariffs
  | .accounts => t.accounts = s.accounts
  | .composer => t.composer = s.composer
  | .devices => t.devices = s.devices
  | .ring => t.ring = s.ring
  | .slot => t.slot = s.slot
  | .capture => t.capture = s.capture
  | .pending => t.pending = s.pending

/-- No part changes but the listed ones. -/
def OnlyChanges (ps : List Part) (s t : State) : Prop := ∀ p : Part, p ∉ ps → p.same s t

/-- The parts that the answer to a frame in hand changes. -/
def answerParts : List Part := [.port, .inHand, .eventQueue]

/-- Every other entry of a table is the same. -/
def OthersSame {α : Type} {n : Nat} (i : Fin n) (v w : Vector α n) : Prop := ∀ j, j ≠ i → w[j] = v[j]

/-! ### Answers and posts -/

/-- The transmitter after a record has joined the queue: one that was sending goes on with its frame, an idle one has
started (R163, R177). -/
def Transmits (s t : State) : Prop :=
  t.port.rx = s.port.rx ∧ t.port.pool = s.port.pool ∧ t.port.beforeBusy = s.port.beforeBusy
    ∧ t.port.sending.isSome = true ∧ (s.port.sending.isSome = true → t.port = s.port)

/-- Records have joined the tail of the Event Queue (R177). -/
def Posted (s t : State) (records : List Record) : Prop :=
  t.eq = { s.eq with records := s.eq.records ++ records } ∧ Transmits s t

/-- The frame in hand is answered by a RESULT in its reserved place, its buffer is free, and the events that it causes follow
(R162, R170, R177). -/
def Answered (s t : State) (f : LinkFrame) (code : Result) (data : List Byte) (events : List Record) : Prop :=
  t.inHand = none ∧ Transmits s t
    ∧ t.eq = { s.eq with records := s.eq.records ++ .result f.tag code data :: events
                         reserved := s.eq.reserved - 1 }

/-- The frame in hand is answered by a refusal, and nothing else changes (R171). -/
def Refused (s t : State) (f : LinkFrame) (code : Result) : Prop :=
  OnlyChanges answerParts s t ∧ Answered s t f code [] []

/-- The frame in hand is answered DONE with data, and nothing else changes. -/
def Reported (s t : State) (f : LinkFrame) (data : List Byte) : Prop :=
  OnlyChanges answerParts s t ∧ Answered s t f .done data []

/-- Room for `n` more records, with no waiter to serve first (R177, R178). -/
def Room (s : State) (n : Nat) : Prop :=
  s.eq.given = [] ∧ s.eq.records.length + s.eq.reserved + n ≤ Config.queuePlaces

/-! ### Where a command finds the part -/

/-- nRESET is high: the part takes commands (R180). -/
def Live (s : State) : Prop := s.pins.nresetLow = false

/-- A frame is in hand on a path (R164). -/
def InHandIs (s : State) (f : LinkFrame) (p : Path) : Prop := s.inHand = some ⟨f, p⟩

/-- No station has a resume or a try of its head to make (R69, R186). -/
def Settled (s : State) : Prop := ∀ st, resumable s st = false ∧ tryable s st = false

/-- A ring transaction is in progress, so nothing is granted (R144, R149). -/
def EngineBusy (s : State) : Prop := s.ring.engine.isSome = true

/-- Nothing of the console frame's effect beyond its own: the part is live, settled, and its engine busy. -/
def Steady (s : State) : Prop := Live s ∧ Settled s ∧ EngineBusy s

/-- The part is live and a management frame of a kind and payload is in hand (R165). -/
def Hands (s : State) (f : LinkFrame) (kind : Byte) (payload : List Byte) : Prop :=
  Live s ∧ InHandIs s f .manage ∧ f.kind = kind ∧ f.payload = payload

/-- No requester asks: no ask stands and no entry is due for a wake or a poll (R148, R152). -/
def NoAsk (s : State) : Prop :=
  (∀ f, s.slot ≠ .asking f) ∧ (∀ st : St, s.ring.asks[st] = none) ∧ s.ring.composerAsk = none
    ∧ ∀ (i : Fin 16) d, s.devices[i] = some d → d.dueWake = false ∧ d.duePoll = false

/-- A console frame that is reserved to the controller (R167): an operation of a device that an enabled station binds, or a PRINT
for the printer. -/
def ControllerOnly (s : State) (f : LinkFrame) : Prop :=
  ((f.kind = 0x03 ∨ f.kind = 0x04 ∨ f.kind = 0x05 ∨ f.kind = 0x06)
      ∧ ∃ st : St, boundStation s f.dst = some st ∧ s.bindings[st].enabled = true)
    ∨ f.kind = 0x07 ∧ ∃ (i : Fin 16) (d : Device), deviceIdx s f.dst = some i ∧ s.devices[i] = some d ∧ d.cls = .printer

/-- The engine runs a transaction whose ending will be acted on, and the window of its attempt is open (R144). -/
def Runs (s : State) (t : Transaction) : Prop :=
  s.ring.engine = some t ∧ t.void = false ∧ t.orphan = false ∧ t.detached = false ∧ t.attempt ≤ t.opened

/-- A frame answers the open attempt of a transaction: source, destination and tag are right, and its payload fits a frame
(R145, R160). -/
def Answers (t : Transaction) (f : LinkFrame) : Prop :=
  f.src = t.request.dst ∧ f.dst = t.request.src ∧ f.tag = t.request.tag ∧ f.payload.length ≤ 56

/-- The command that brings a ring frame: each reply kind has its row, and STATUS_REPLY_RECEIVED brings every other kind
(R145). -/
def Brings (c : Instr) (f : LinkFrame) : Prop :=
  c = .readyReceived f.wire ∧ f.kind = 0x10 ∨ c = .ackReceived f.wire ∧ f.kind = 0x11
    ∨ c = .waitReceived f.wire ∧ f.kind = 0x12 ∨ c = .nakReceived f.wire ∧ f.kind = 0x13
    ∨ c = .statusReplyReceived f.wire ∧ f.kind ≠ 0x10 ∧ f.kind ≠ 0x11 ∧ f.kind ≠ 0x12 ∧ f.kind ≠ 0x13

/-- The entry of a device: present at an address, which no other present entry has (R137). -/
def DeviceAt (s : State) (i : Fin 16) (d : Device) : Prop := s.devices[i] = some d ∧ deviceIdx s d.addr = some i

/-- The entry of an order, found by its number (R1). -/
def OrderAt (s : State) (i : Fin 16) (o : Order) : Prop := s.orders[i] = some o ∧ orderIdx s o.terms.number = some i

/-- The entry of an account, found by its number (R94). -/
def AccountAt (s : State) (i : Fin 32) (a : Account) : Prop :=
  s.accounts[i] = some a ∧ accountIdx s a.number = some i

/-- The station runs its head request in a phase, on an open map, with no abort and nothing left to post (4.6). -/
def RunsFrame (s : State) (st : St) (q : Request) (m : RollMap) (ph : Phase) : Prop :=
  s.stations[st].state = .running ∧ s.stations[st].phase = some ph ∧ s.stations[st].pendingPost = none
    ∧ headOf s st = some q ∧ q.state = .running ∧ q.abort = false ∧ q.outcome = none
    ∧ (∃ r, q.frames = some r ∧ r.roll = m.roll) ∧ s.rolls[st].map = some m ∧ m.closing = none

/-- A station's devices: bound, and both UP (R63). -/
def BoundUp (s : State) (st : St) (b : Binding) : Prop := s.bindings[st].binding = some b ∧ bothUp s st = true

/-- A ring frame answers the open attempt of the engine's transaction with a present device, and nothing else waits to be done:
the part is live and settled, and no requester asks (R144, R145). -/
def AnswersOpen (s : State) (t : Transaction) (d : Device) (f : LinkFrame) : Prop :=
  Live s ∧ Settled s ∧ NoAsk s ∧ Runs s t ∧ DeviceAt s t.entry d ∧ t.cls = d.cls ∧ Answers t f

/-- A device is the camera of an enabled station, both of whose devices are UP (R63, R154). -/
def StationCamera (s : State) (st : St) (b : Binding) (d : Device) : Prop :=
  BoundUp s st b ∧ d.cls = .camera ∧ d.addr = b.camera ∧ cameraStation s d.addr = some st ∧ s.bindings[st].enabled = true

/-- The transaction right after its grant: the first attempt is being sent, with the entry's next tag (R143, R144, R149). -/
def granted (s : State) (r : Requester) (i : Fin 16) (d : Device) (p : Purpose) (kind : Byte) (payload : List Byte) :
    Transaction :=
  { requester := r, entry := i, cls := d.cls, purpose := p
    request := ⟨d.addr, ownAddress s.pins, kind, d.tag + 1, payload⟩
    attempt := 1, orphan := false, void := false, detached := false, opened := 0 }

/-- A status that parses by the layout of a class (10.3, R204). -/
def StatusParses (c : DevClass) (status : List Byte) : Prop :=
  match c with
  | .camera => ∃ flags stock gate : Byte, status = [flags, stock, gate] ∧ flags.toNat ≤ 15
      ∧ (flags.getLsbD 2 = true → flags.getLsbD 1 = true)
  | .printer => ∃ condition flags : Byte, status = [condition, flags] ∧ condition.toNat ≤ 3 ∧ flags.toNat ≤ 1
  | .lamp | .other => ∃ (condition n : Byte) (items : List Byte), status = condition :: n :: items ∧ n.toNat ≤ 8
      ∧ items.length = n.toNat

/-! ### A roll's end (2.7) -/

/-- The ROLL_REPORT of a map that holds no RESERVED record (R40). -/
def closeReport (st : St) (m : RollMap) (reason : CloseReason) : Record :=
  .event 0 (.rollReport st m.roll m.stock reason (m.next - 1) (m.frames.countP fun r => r.state == .exposed)
    (m.frames.countP fun r => r.state != .exposed) m.header.isSome)

/-- A map's strip has been released (R40, R124): it stands at the tail of the strip list, its header label is composed, its
slots are QUEUED, and no other slot has changed. -/
def StripReleased (s u : State) (st : St) (m : RollMap) (h : Fin 320) (reason : CloseReason) : Prop :=
  u.composer = { s.composer with
      slots := u.composer.slots
      strips := s.composer.strips ++ [⟨st, m.roll, reason, h :: m.frames.map (·.slot), 0, 0⟩] }
    ∧ ∀ i : Fin 320, u.composer.slots[i] =
        (if i = h then .queued (headerLabel s.composer.stand st m reason)
        else if i ∈ m.frames.map (·.slot) then .queued (slotLines s.composer i) else s.composer.slots[i])

/-- A station with both devices UP whose roll has closed (R64, R71): nothing of it runs, and it is NO_ROLL, or WAITING (FILM)
when its head waits. -/
def RollLess (x y : Station) : Prop :=
  y = { x with
    state := if x.queue.head?.any (fun q => q.state == .waitingFilm || q.state == .waitingLabels) then .waitingFilm
      else .noRoll
    queue := x.queue.modifyHead fun q => if q.state = .waitingLabels then { q with state := .waitingFilm } else q
    phase := none, rollCheck := false, rollEnd := false, pollTimer := false, shotLimit := none, advanceLimit := false
    rewindLimit := false, gap := none, waits := 0, susp := ⟨.boundary, false, false, none, .awaiting⟩ }

/-! ### Legal tables -/

/-- A stock with every field in its range (2.1, R22). -/
def StockLegal (k : Stock) : Prop :=
  1 ≤ k.code ∧ k.code ≤ 255 ∧ 12 ≤ k.length ∧ k.length ≤ 72 ∧ 1 ≤ k.tRef ∧ k.tRef ≤ 65535
    ∧ (-24 ≤ k.balance.r ∧ k.balance.r ≤ 24) ∧ (-24 ≤ k.balance.g ∧ k.balance.g ≤ 24)
    ∧ (-24 ≤ k.balance.b ∧ k.balance.b ≤ 24)
    ∧ 1 ≤ k.tMin ∧ k.tMin ≤ k.knee ∧ k.knee ≤ k.tMax ∧ k.tMax ≤ 65535 ∧ 256 ≤ k.slope ∧ k.slope ≤ 1023

/-- A step in its range: offset −9..+9 and a channel set that is not empty (4.1). -/
def StepLegal (p : PlanStep) : Prop :=
  -9 ≤ p.offset ∧ p.offset ≤ 9 ∧ (p.channels.r || p.channels.g || p.channels.b) = true

/-- A plan of 1..7 legal steps, exactly one of them nominal (R57). -/
def PlanLegal (l : List PlanStep) : Prop :=
  1 ≤ l.length ∧ l.length ≤ 7 ∧ (∀ p ∈ l, StepLegal p) ∧ (l.filter (·.isNominal)).length = 1

/-- A window whose base has no bit where its mask is clear (5.2, R89). -/
def WindowLegal (w : Window) : Prop := w.base &&& ~~~w.mask = 0

/-- A tariff class with every field in its range (5.3). -/
def TariffLegal (t : Tariff) : Prop :=
  t.framePrice ≤ 65535 ∧ t.labelFee ≤ 65535 ∧ t.share ≤ 256 ∧ t.setupFee ≤ 65535

/-- A binding of two different ring addresses (4.2, R61). -/
def BindingLegal (b : Binding) : Prop :=
  isRingAddress b.camera = true ∧ isRingAddress b.lamp = true ∧ b.camera ≠ b.lamp

/-- A text of at most `n` printable characters (R112, R113). -/
def TextLegal (n : Nat) (t : List Byte) : Prop := t.length ≤ n ∧ ∀ b ∈ t, printable b = b

/-- A template item: line 1 or 2, and a LITERAL's text as it is stored (6.1, R112). -/
def ItemLegal (i : Item) : Prop :=
  (i.line = 1 ∨ i.line = 2) ∧ (match i.kind with | .literal t => TextLegal 8 t | _ => True)

/-- Every present entry of the Stock, Plan, Window and Tariff Tables and of the Station Table is legal. -/
def TablesLegal (s : State) : Prop :=
  (∀ i k, s.stocks[(i : Fin 8)] = some k → StockLegal k)
    ∧ (∀ i l, s.plans[(i : Fin 8)] = some l → PlanLegal l)
    ∧ (∀ i w, s.windows[(i : Fin 8)] = some w → WindowLegal w)
    ∧ (∀ i t, s.tariffs[(i : Fin 8)] = some t → TariffLegal t)
    ∧ (∀ i b, s.bindings[(i : Fin 4)].binding = some b → BindingLegal b)

/-! ### Places and buffers -/

/-- The answer places that are owed: one for the frame in hand, one for the frame in the forward slot, one for a pending
barrier (R164, R168, R132). -/
def placesOwed (s : State) : Nat :=
  (if s.inHand.isSome then 1 else 0) + (if s.slot = .empty then 0 else 1) + (if s.deferred.isSome then 1 else 0)

/-- The places of the Event Queue are accounted for (R164, R177): each reserved place belongs to one unanswered frame, no more
than 16 places are held, the deferred-reply slot is filled exactly while a barrier is pending, and the forward slot is
RUNNING while its transaction is. -/
def PlacesKept (s : State) : Prop :=
  s.eq.reserved = placesOwed s
    ∧ s.eq.records.length + s.eq.reserved + s.eq.given.length ≤ Config.queuePlaces
    ∧ s.deferred.isSome = s.composer.barrierCount.isSome
    ∧ (∀ t, s.ring.engine = some t → t.requester = .forward → t.void = false → ∃ f, s.slot = .running f)

/-- No more than four receive buffers are in use (R162). -/
def BuffersKept (s : State) : Prop := buffersInUse s ≤ Config.poolSize

/-- Every exposure queue holds at most four requests (R68). -/
def QueuesKept (s : State) : Prop := ∀ st : St, s.stations[st].queue.length ≤ Config.stationQueue

/-- A device that no Station Table entry names (R143). -/
def Unbound (s : State) (a : Byte) : Prop := boundStation s a = none

/-- An account as its entry can hold it (5.4). -/
def AccountLegal (number : Nat) (ceiling : Option Nat) : Prop :=
  1 ≤ number ∧ number ≤ 16777215 ∧ ∀ c, ceiling = some c → c ≤ 4294967294

/-- The terms of an order with every field in its range and its texts as they are stored (1.1, R2). -/
def TermsLegal (t : OrderTerms) : Prop :=
  1 ≤ t.number ∧ t.number ≤ 65535 ∧ 1 ≤ t.account ∧ t.account ≤ 16777215 ∧ 1 ≤ t.copies ∧ t.copies ≤ 4
    ∧ (-24 ≤ t.trim.r ∧ t.trim.r ≤ 24) ∧ (-24 ≤ t.trim.g ∧ t.trim.g ≤ 24) ∧ (-24 ≤ t.trim.b ∧ t.trim.b ≤ 24)
    ∧ t.course ≠ [] ∧ TextLegal 8 t.course ∧ TextLegal 24 t.title

/-- The payload of an ORDER_OPEN for given terms (10.4). -/
def openPayload (t : OrderTerms) : List Byte :=
  be16 t.number ++ be24 t.account
    ++ [u8 t.plan.val, u8 t.template.val, u8 (stationNumber t.station), u8 t.copies, s8 t.trim.r, s8 t.trim.g, s8 t.trim.b]
    ++ textField t.course ++ textField t.title

/-- The commands that act whatever level nRESET has: the pins' own. -/
def Instr.isPin : Instr → Bool
  | .pinReset _ _ _ | .nresetLow | .holdLineAsserted _ | .holdLineReleased _ => true
  | _ => false

end Sys2Proof.Machine
end

