-- ==== Sys2Proof/Certificates/Slice0/Obligations.lean ====
section
/-! DEFINITION. The statements about the Ridzell 7140, in the order of OBLIGATIONS.json. -/

section

open Sys2Proof Sys2Proof.Machine

/-! ### Step, reset and pins -/

/-- A step carries out the command at the front of the queue with the queue's rest. With an empty queue the block idles, but for
the ring frame that it sends, which is then sent to its end: RDIR is released, the window of that attempt is open and nothing
else changes. The clauses on the empty queue are the model's own choice (assumption logs 1 and 2). -/
def Obligations.StepRunsFrontCommand : Prop :=
  (∀ (c : Instr) (rest : List Instr) (s : State), s.pending = c :: rest → step s = exec c { s with pending := rest })
    ∧ (∀ s : State, s.pending = [] → rdir s = false → step s = .next s)
    ∧ ∀ (s : State) (x : Transaction), s.pending = [] → rdir s = true → s.ring.engine = some x →
        step s = .next { s with ring := { s.ring with engine := some { x with opened := x.attempt } } }
          ∧ Completes (step s) fun t => rdir t = false

/-- What a rising edge of nRESET leaves in every block (R19, R21, R42, R57, R60, R62, R88, R91, R94, R111, R113, R134, R158,
R180, R181, R199). Three parts are the model's own: the hold levels, which follow their pins, and the waiting commands are kept
(assumption log 4), and the suspension record that R181 clears stands in phase BOUNDARY with no request held (log 27). -/
def Obligations.PinResetState : Prop :=
  ∀ (addrSel consoleRate crxBusy : Bool) (s : State), Completes (exec (.pinReset addrSel consoleRate crxBusy) s) fun t =>
    t.pins = ⟨addrSel, consoleRate, s.pins.hold, false⟩ ∧ t.pending = s.pending
      ∧ (∀ i : Fin 16, t.orders[i] = none ∧ t.devices[i] = none) ∧ (∀ i : Fin 32, t.accounts[i] = none)
      ∧ (∀ i : Fin 8, t.stocks[i] = none ∧ t.plans[i] = none ∧ t.windows[i] = none ∧ t.tariffs[i] = none)
      ∧ (∀ st : St, t.bindings[st] = ⟨none, false⟩
          ∧ t.stations[st] = {
              state := .disabled, queue := [], phase := none, rollCheck := false, rollEnd := false, pendingPost := none
              pollTimer := false, shotLimit := none, advanceLimit := false, rewindLimit := false, gap := none, waits := 0
              leftUp := false, susp := ⟨.boundary, false, false, none, .awaiting⟩ }
          ∧ t.rolls[st] = {
              map := none, counter := 0, removalRequired := false, insertionReported := false, headerRequest := false
              lastClose := none })
      ∧ (∀ i : Fin 4, t.composer.templates[i] = []) ∧ t.composer.stand = ⟨[], []⟩
      ∧ (∀ i : Fin 320, t.composer.slots[i] = .free) ∧ freeCount t.composer = 320
      ∧ t.composer.strips = [] ∧ t.composer.headerList = [] ∧ t.composer.labelWaiters = []
      ∧ t.composer.print = .idle ∧ t.composer.condition = none ∧ t.composer.attention = false
      ∧ t.composer.printLimit = false ∧ t.composer.pollTimer = false ∧ t.composer.gap = none ∧ t.composer.waits = 0
      ∧ t.composer.sent = false ∧ t.composer.again = false ∧ t.composer.heldPause = none
      ∧ t.composer.pendingPost = none ∧ t.composer.barrierCount = none
      ∧ NoAsk t ∧ t.ring.engine = none ∧ t.ring.lastGranted = .idlePoller ∧ t.ring.lastServed = 15
      ∧ t.ring.heldReports = []
      ∧ t.slot = .empty ∧ t.capture = ⟨none, false, .none⟩ ∧ t.eq = ⟨[], 0, [], []⟩
      ∧ t.port.pool = [] ∧ t.port.busy = none ∧ t.port.sending = none ∧ t.inHand = none ∧ t.deferred = none
      ∧ t.port.rx.stage = (if crxBusy then .skipping else .unclaimed)
      ∧ attn t = false ∧ ctx t = none ∧ rdir t = false

/-- The state after reset, and every state that a pin reset leaves, meets the invariants that the other statements keep. -/
def Obligations.ResetMeetsInvariants : Prop :=
  (Live State.reset ∧ TablesLegal State.reset ∧ PlacesKept State.reset ∧ BuffersKept State.reset
      ∧ QueuesKept State.reset)
    ∧ ∀ (a r b : Bool) (s : State), Completes (exec (.pinReset a r b) s) fun t =>
        Live t ∧ TablesLegal t ∧ PlacesKept t ∧ BuffersKept t ∧ QueuesKept t

/-- While nRESET is low the part holds CTX idle, releases RDIR, deasserts ATTN and takes nothing. That the edge itself changes the
level alone, and that every command but the pins' own then leaves the state as it is, is the model's choice (assumption
log 4). -/
def Obligations.NresetLowTakesNothing : Prop :=
  (∀ s : State, Completes (exec .nresetLow s) fun t => OnlyChanges [.pins] s t ∧ t.pins = { s.pins with nresetLow := true })
    ∧ (∀ s : State, s.pins.nresetLow = true → attn s = false ∧ ctx s = none ∧ rdir s = false)
    ∧ ∀ (c : Instr) (s : State), s.pins.nresetLow = true → Instr.isPin c = false → exec c s = .next s

/-- A hold line that is asserted only keeps its level for the next frame boundary. Its release clears release owed of a
SUSPENDED station, which then begins its resume when every other condition of R186 holds; in any state but HELD and SUSPENDED it
only keeps its level. That a release of a line that was not asserted is none is read from the rules' words by inference
(assumption log 36). -/
def Obligations.HoldLineLevels : Prop :=
  (∀ (st : St) (s : State), Completes (exec (.holdLineAsserted st) s) fun t =>
      OnlyChanges [.pins] s t ∧ t.pins.hold[st] = true ∧ OthersSame st s.pins.hold t.pins.hold
        ∧ t.pins.nresetLow = s.pins.nresetLow ∧ ownAddress t.pins = ownAddress s.pins)
    ∧ (∀ (st : St) (s : State), s.pins.hold[st] = false → exec (.holdLineReleased st) s = .next s)
    ∧ (∀ (st : St) (s : State), Live s → s.pins.hold[st] = true → s.stations[st].state ≠ .held →
        s.stations[st].state ≠ .suspended → Completes (exec (.holdLineReleased st) s) fun t =>
          OnlyChanges [.pins] s t ∧ t.pins.hold[st] = false ∧ OthersSame st s.pins.hold t.pins.hold)
    ∧ (∀ (st : St) (s : State), Steady s → s.pins.hold[st] = true → s.stations[st].state = .suspended →
        bothUp s st = false → Completes (exec (.holdLineReleased st) s) fun t =>
          OnlyChanges [.pins, .stations] s t ∧ t.pins.hold[st] = false ∧ OthersSame st s.stations t.stations
            ∧ t.stations[st] = { s.stations[st] with susp := { s.stations[st].susp with releaseOwed := false } })
    ∧ (∀ (st : St) (s : State) (b : Binding) (m : RollMap), Steady s → s.pins.hold[st] = true →
        s.stations[st].state = .suspended → BoundUp s st b → s.stations[st].pendingPost = none →
        s.stations[st].susp.step = .awaiting → s.rolls[st].map = some m → m.closing = none →
        Completes (exec (.holdLineReleased st) s) fun t =>
          OnlyChanges [.pins, .stations, .ring] s t ∧ OthersSame st s.stations t.stations
            ∧ t.stations[st].state = .suspended
            ∧ t.stations[st].susp = { s.stations[st].susp with releaseOwed := false, step := .checking }
            ∧ t.ring.asks[st] = some ⟨b.camera, 0x02, [], .resumeCheck⟩ ∧ OthersSame st s.ring.asks t.ring.asks)

/-- A HELD station whose hold line is released takes the boundary checks again: with both devices UP and no abort it enters
LAMP_SET for the gate frame and asks for a LAMP_SET that carries the record's times; with a device down it is suspended at its
boundary, the request held and release not owed. -/
def Obligations.HoldReleaseTakesBoundary : Prop :=
  ∀ (st : St) (s : State) (q : Request), Steady s → s.pins.hold[st] = true → s.stations[st].state = .held →
    s.stations[st].pendingPost = none → headOf s st = some q → q.abort = false →
    (∀ (b : Binding) (r : FrameRec), BoundUp s st b → gateRecord s st = some r →
      Completes (exec (.holdLineReleased st) s) fun t =>
        OnlyChanges [.pins, .stations, .devices, .ring] s t ∧ OthersSame st s.stations t.stations
          ∧ t.stations[st].state = .running ∧ t.stations[st].phase = some .lampSet
          ∧ t.stations[st].queue = s.stations[st].queue
          ∧ t.ring.asks[st] = some ⟨b.lamp, 0x03, be16 r.times.r ++ be16 r.times.g ++ be16 r.times.b, .lampSet⟩
          ∧ t.ring.engine = s.ring.engine ∧ OthersSame st s.ring.asks t.ring.asks
          ∧ ∀ (i : Fin 16) d, t.devices[i] = some d → d.addr = b.camera ∨ d.addr = b.lamp →
              deviceIdx s d.addr = some i → d.busy = true ∧ d.idleTimer = false)
    ∧ (bothUp s st = false → Completes (exec (.holdLineReleased st) s) fun t =>
        OnlyChanges [.pins, .stations, .devices, .ring] s t ∧ OthersSame st s.stations t.stations
          ∧ t.stations[st].state = .suspended ∧ t.stations[st].phase = none
          ∧ t.stations[st].susp = ⟨.boundary, true, false, none, .awaiting⟩
          ∧ headOf t st = some { q with state := .suspended } ∧ t.ring.asks[st] = none)

/-! ### The console link -/

/-- The receiver accepts exactly the frames that travel as 8.1 lays them out: sync byte, length, header, payload of at most 56
bytes and CRC, whatever bytes follow. -/
def Obligations.ReceiveInvertsWire : Prop :=
  ∀ (bytes : List Byte) (f : LinkFrame),
    receive bytes = .ok f ↔ f.payload.length ≤ 56 ∧ ∃ rest : List Byte, bytes = f.wire ++ rest

/-- A frame that arrives whole on a line that was idle waits in the receive pool while a buffer is free; with four buffers in
use it becomes the pending BUSY, or is dropped when a BUSY is pending already. Bytes after its CRC change nothing. -/
def Obligations.FrameReception : Prop :=
  ∀ (f : LinkFrame) (rest : List Byte) (s : State), Live s → s.port.rx = ⟨[], .unclaimed⟩ → f.payload.length ≤ 56 →
    (buffersInUse s < 4 → exec (.linkFrameReceived (f.wire ++ rest) true) s =
      .next { s with port := { s.port with pool := s.port.pool ++ [f] } })
    ∧ (4 ≤ buffersInUse s → s.port.busy.isSome = true →
        exec (.linkFrameReceived (f.wire ++ rest) true) s = .next s)
    ∧ (4 ≤ buffersInUse s → s.port.busy = none → s.port.sending.isSome = true →
        exec (.linkFrameReceived (f.wire ++ rest) true) s =
          .next { s with port := { s.port with busy := some (f.tag, f.kind) } })
    ∧ (4 ≤ buffersInUse s → s.port.busy = none → s.port.sending = none → s.port.beforeBusy = 0 →
        exec (.linkFrameReceived (f.wire ++ rest) true) s =
          .next { s with port := { s.port with
            sending := some ⟨⟨0x40, ownAddress s.pins, 0x30, f.tag, [0x01, f.kind]⟩, false⟩ } })

/-- The four receive faults of R161, each with its cause; a frame with one is discarded and changes nothing. -/
def Obligations.FaultyFramesChangeNothing : Prop :=
  (∀ (b : Byte) (rest : List Byte), b ≠ 0xC5 → receive (b :: rest) = .error .orphan)
    ∧ receive [0xC5] = .error .short
    ∧ (∀ (len : Byte) (rest : List Byte), len.toNat < 4 ∨ 60 < len.toNat →
        receive (0xC5 :: len :: rest) = .error .long)
    ∧ (∀ (len : Byte) (body : List Byte), 4 ≤ len.toNat → len.toNat ≤ 60 → body.length < len.toNat + 2 →
        receive (0xC5 :: len :: body) = .error .short)
    ∧ (∀ (f : LinkFrame) (hi lo : Byte), f.payload.length ≤ 56 → [hi, lo] ≠ be16 (crc16 f.covered).toNat →
        receive (0xC5 :: (f.covered ++ [hi, lo])) = .error .check)
    ∧ ∀ (bytes : List Byte) (e : RxFault) (s : State), Live s → s.port.rx = ⟨[], .unclaimed⟩ →
        receive bytes = .error e → exec (.linkFrameReceived bytes true) s = .next s

/-- It makes no difference in how many pieces the bytes of a frame arrive. -/
def Obligations.FramePiecesJoin : Prop :=
  ∀ (a b : List Byte) (idle : Bool) (s : State), Live s → Completes (exec (.linkFrameReceived a false) s) fun t =>
    exec (.linkFrameReceived b idle) t = exec (.linkFrameReceived (a ++ b) idle) s

/-- When the transmitter finishes a record, the record leaves the queue and its place goes to the waiter at the head of the
list; the pending BUSY is sent next, ahead of the records, unless records that a RESTART left stand before it (R176); else the
record at the head is sent. A BUSY that is finished holds no place. That the waiter's place is kept for it in `given` until a later
command uses it is the model's choice (assumption log 5). -/
def Obligations.RecordSentMovesQueue : Prop :=
  ∀ (s : State) (x : Sending), Live s → s.port.sending = some x → Completes (exec .recordSent s) fun t =>
    OnlyChanges [.port, .eventQueue] s t ∧ t.eq.reserved = s.eq.reserved
      ∧ t.eq.records = (if x.holdsPlace then s.eq.records.tail else s.eq.records)
      ∧ (x.holdsPlace = false → t.eq = s.eq) ∧ (s.eq.waiters = [] → t.eq.given = s.eq.given ∧ t.eq.waiters = [])
      ∧ (x.holdsPlace = true → s.eq.records ≠ [] →
          s.eq.records.length + s.eq.reserved + s.eq.given.length ≤ 16 →
          ∀ w ws, s.eq.waiters = w :: ws → t.eq.given = s.eq.given ++ [w] ∧ t.eq.waiters = ws)
      ∧ t.port.rx = s.port.rx ∧ t.port.pool = s.port.pool
      ∧ (s.port.busy = none → t.port.busy = none
          ∧ t.port.sending = t.eq.records.head?.map fun r => ⟨r.frame (ownAddress s.pins), true⟩)
      ∧ (∀ tag kind, s.port.busy = some (tag, kind) → s.port.beforeBusy ≤ (if x.holdsPlace then 1 else 0) →
          t.port.busy = none
            ∧ t.port.sending = some ⟨⟨0x40, ownAddress s.pins, 0x30, tag, [0x01, kind]⟩, false⟩)
      ∧ (s.port.busy.isSome = true → (if x.holdsPlace then 1 else 0) < s.port.beforeBusy → ∀ r rs, t.eq.records = r :: rs →
          t.port.busy = s.port.busy ∧ t.port.sending = some ⟨r.frame (ownAddress s.pins), true⟩)

/-- The Frame Classifier takes the oldest accepted frame with a reserved answer place and finds its path: management kinds for
the controller itself, EXPOSE for a ring device, and forwardable kinds for an UP device that is not protected. With no free
place it becomes a waiter and nothing else changes. That it takes a further free place while others hold given places is inferred
(assumption log 38). -/
def Obligations.ClassifierTakesInHand : Prop :=
  ∀ (s : State) (f : LinkFrame) (rest : List LinkFrame), Live s → s.inHand = none → s.port.pool = f :: rest →
    Waiter.classifier ∉ s.eq.given → Waiter.classifier ∉ s.eq.waiters → f.src = 0x40 →
    (freePlaces s.eq = 0 → exec .classifierTakesFrame s =
      .next { s with eq := { s.eq with waiters := s.eq.waiters ++ [.classifier] } })
    ∧ ∀ path : Path, 0 < freePlaces s.eq →
      (f.dst = ownAddress s.pins ∧ 0x21 ≤ f.kind.toNat ∧ f.kind.toNat ≤ 0x2C ∧ path = .manage
        ∨ 0x01 ≤ f.dst.toNat ∧ f.dst.toNat ≤ 0x3F ∧ f.kind = 0x20 ∧ path = .intercept
        ∨ 0x01 ≤ f.dst.toNat ∧ f.dst.toNat ≤ 0x3F ∧ isUp s f.dst = true ∧ isProtected s f = false ∧ path = .forward
          ∧ (0x02 ≤ f.kind.toNat ∧ f.kind.toNat ≤ 0x07 ∨ 0x40 ≤ f.kind.toNat ∧ f.kind.toNat ≤ 0x5F)) →
      exec .classifierTakesFrame s =
        .next { s with
          inHand := some ⟨f, path⟩, port := { s.port with pool := rest }
          eq := { s.eq with reserved := s.eq.reserved + 1 } }

/-- The frames that the Classifier refuses, and the codes, in the order of R165 to R167. A refused frame leaves the pool and is
answered by its RESULT; nothing else changes. That it takes the frame while others hold given places is inferred (assumption
log 38). -/
def Obligations.ClassifierRefuses : Prop :=
  ∀ (s : State) (f : LinkFrame) (rest : List LinkFrame) (code : Result), Live s → s.inHand = none →
    s.port.pool = f :: rest → Waiter.classifier ∉ s.eq.given → Waiter.classifier ∉ s.eq.waiters → 0 < freePlaces s.eq →
    (f.src ≠ 0x40 ∧ code = .badAddress
      ∨ f.src = 0x40 ∧ (f.dst.toNat = 0 ∨ 0x3F < f.dst.toNat) ∧ f.dst ≠ ownAddress s.pins ∧ code = .badAddress
      ∨ f.src = 0x40 ∧ f.dst = ownAddress s.pins ∧ (f.kind.toNat < 0x21 ∨ 0x2C < f.kind.toNat) ∧ code = .badKind
      ∨ f.src = 0x40 ∧ (0x01 ≤ f.dst.toNat ∧ f.dst.toNat ≤ 0x3F)
        ∧ (f.kind = 0x01 ∧ code = .protectedDevice
          ∨ (f.kind.toNat = 0 ∨ 0x08 ≤ f.kind.toNat ∧ f.kind.toNat < 0x20
              ∨ 0x21 ≤ f.kind.toNat ∧ f.kind.toNat < 0x40 ∨ 0x60 ≤ f.kind.toNat) ∧ code = .badKind
          ∨ (∃ st : St, (f.kind = 0x03 ∨ f.kind = 0x04 ∨ f.kind = 0x05 ∨ f.kind = 0x06)
              ∧ boundStation s f.dst = some st ∧ s.bindings[st].enabled = true) ∧ code = .protectedDevice
          ∨ (∃ (i : Fin 16) (d : Device), f.kind = 0x07 ∧ deviceIdx s f.dst = some i ∧ s.devices[i] = some d
              ∧ d.cls = .printer) ∧ code = .protectedDevice
          ∨ (f.kind = 0x02 ∨ 0x40 ≤ f.kind.toNat ∧ f.kind.toNat < 0x60
              ∨ (f.kind = 0x03 ∨ f.kind = 0x04 ∨ f.kind = 0x05 ∨ f.kind = 0x06)
                ∧ (∀ st : St, boundStation s f.dst = some st → s.bindings[st].enabled = false)
              ∨ f.kind = 0x07 ∧ ∀ (i : Fin 16) (d : Device), deviceIdx s f.dst = some i → s.devices[i] = some d →
                  d.cls ≠ .printer) ∧ isUp s f.dst = false
              ∧ code = .deviceDown)) →
    Completes (exec .classifierTakesFrame s) fun t =>
      OnlyChanges [.port, .eventQueue] s t ∧ t.port.pool = rest ∧ t.port.rx = s.port.rx
        ∧ t.eq = { s.eq with records := s.eq.records ++ [.result f.tag code []] }
        ∧ (s.port.sending.isSome = true → t.port.sending = s.port.sending ∧ t.port.busy = s.port.busy)

/-! ### The forward slot -/

/-- A forwardable frame in hand enters the EMPTY slot with an ask, and its buffer is free; for a device that is not UP it is
answered DEVICE_DOWN at once; with the slot in use it is held, and enters the slot as soon as the slot is EMPTY. With the engine
idle and nothing else asked, it is granted at once and sent exactly as it was received; one that the tables now reserve to the
controller is answered PROTECTED and not sent. Its reply is copied upstream in a FORWARD_REPLY that is cut after 50 payload bytes,
once the printer's report has been taken by the Label Composer; after the third silent attempt the FORWARD_REPLY says NO_REPLY,
behind the notice of the loss (R156, R168, R169, R207). That
STATUS_REPLY_RECEIVED brings every reply kind without a row of its own is inferred (assumption log 8). -/
def Obligations.ForwardSlotTakesFrame : Prop :=
  (∀ (s : State) (f : LinkFrame) (c : Instr) (p : Path), Steady s →
      (c = .forward ∧ p = .forward ∨ c = .forwardSlotEmptied ∧ p = .held) → InHandIs s f p →
      (s.slot = .empty → isUp s f.dst = true → exec c s = .next { s with inHand := none, slot := .asking f })
      ∧ (s.slot = .empty → isUp s f.dst = false → Completes (exec c s) fun t => Refused s t f .deviceDown)
      ∧ (s.slot ≠ .empty → exec c s = .next { s with inHand := some ⟨f, .held⟩ }))
  ∧ (∀ (s : State) (f : LinkFrame) (i : Fin 16) (d : Device) (c : Instr) (p : Path), Live s → Settled s → NoAsk s →
      s.ring.engine = none → s.slot = .empty → (c = .forward ∧ p = .forward ∨ c = .forwardSlotEmptied ∧ p = .held) →
      InHandIs s f p → DeviceAt s i d → d.addr = f.dst → d.link = .up →
      (¬ ControllerOnly s f → exec c s =
        .next { s with
          inHand := none, slot := .running f
          ring := { s.ring with
            engine := some ⟨.forward, i, d.cls, .forwarded, f, 1, false, false, false, 0⟩
            lastGranted := .forward } })
      ∧ (ControllerOnly s f → Completes (exec c s) fun t =>
          OnlyChanges [.port, .inHand, .eventQueue, .ring] s t ∧ Answered s t f .protectedDevice [] []
            ∧ t.ring = { s.ring with lastGranted := .forward }))
  ∧ (∀ (s : State) (x : Transaction) (g f : LinkFrame) (d : Device), Live s → Settled s → NoAsk s → Runs s x →
      x.requester = .forward → x.purpose = .forwarded → s.slot = .running g → DeviceAt s x.entry d →
      (∀ c : Instr, Brings c f → Answers x f →
        ((x.request.kind ≠ 0x02 ∨ f.kind ≠ 0x14 ∨ x.cls = .lamp ∨ x.cls = .other) →
          Completes (exec c s) fun t => OnlyChanges [.devices, .ring, .slot, .eventQueue, .port] s t
            ∧ t.slot = .empty ∧ t.ring = { s.ring with engine := none } ∧ Transmits s t
            ∧ t.eq = { s.eq with
                reserved := s.eq.reserved - 1
                records := s.eq.records ++ [.event x.request.tag (.forwardReply (.replied f))] }
            ∧ t.devices = s.devices.set x.entry.val
                (some (if d.link = .up ∧ d.busy = false then { d with idleTimer := true } else d)) x.entry.isLt)
        ∧ (x.request.kind = 0x02 → f.kind = 0x14 → x.cls = .printer → f.payload = [0x02, 0x00] →
          s.composer.print = .idle →
          Completes (exec c s) fun t => OnlyChanges [.devices, .ring, .slot, .eventQueue, .port, .composer] s t
            ∧ t.slot = .empty ∧ t.composer = { s.composer with condition := some .outOfStock, attention := true }
            ∧ t.eq.records = s.eq.records ++ [.event x.request.tag (.forwardReply (.replied f))]))
      ∧ (3 ≤ x.attempt → d.cls = .other ∨ d.cls = .lamp → Unbound s d.addr → s.capture.record = none → Room s 1 →
          Completes (exec .replyWindowExpired s) fun t =>
            OnlyChanges [.devices, .ring, .slot, .capture, .eventQueue, .port] s t ∧ t.slot = .empty
              ∧ t.ring = { s.ring with engine := none }
              ∧ t.devices = s.devices.set x.entry.val (some { d with
                  link := .lost, busy := false, idleTimer := false, duePoll := false, wakeTimer := true }) x.entry.isLt
              ∧ t.eq = { s.eq with
                  reserved := s.eq.reserved - 1
                  records := s.eq.records
                    ++ [.event 0 (.faultNotice ⟨.noReply, d.addr, x.request.kind, none, none, none, none⟩),
                      .event x.request.tag (.forwardReply .noReply)] }))
  ∧ ((∀ f : LinkFrame, Event.payload (.forwardReply (.replied f))
        = [0x06, if f.payload.length ≤ 50 then 0x00 else 0x02, f.dst, f.src, f.kind, f.tag] ++ f.payload.take 50)
      ∧ Event.payload (.forwardReply .noReply) = [0x06, 0x01])

/-! ### Orders and exposures -/

/-- An intercepted EXPOSE that passes R15 to R17 joins the tail of its station's queue as QUEUED with its tag, its indices clamped
and marked, its order counts it, and the RESULT is DONE; the station is one that does not try the new request at once. Then the
refusals, in the order of R15 to R17: each clause takes the failures before it as passed. -/
def Obligations.ExposeAdmissionRule : Prop :=
  (∀ (s : State) (f : LinkFrame) (n p r1 r2 g1 g2 b1 b2 : Byte) (n' p' : Byte) (st : St) (i : Fin 16) (o : Order),
      Steady s → InHandIs s f .intercept → f.payload = [n, n', p, p', r1, r2, g1, g2, b1, b2] →
      n.toNat * 256 + n'.toNat = o.terms.number → o.terms.number ≠ 0 → 1 ≤ p.toNat * 256 + p'.toNat →
      p.toNat * 256 + p'.toNat ≤ 9999 → cameraStation s f.dst = some st → s.bindings[st].enabled = true →
      OrderAt s i o → o.closing = false → o.terms.station = st → s.stations[st].state ≠ .disabled →
      s.stations[st].queue.length < 4 → (s.stations[st].state ≠ .ready ∨ s.stations[st].queue ≠ []) →
      Completes (exec .expose s) fun t =>
        OnlyChanges [.port, .inHand, .eventQueue, .stations, .orders] s t ∧ Answered s t f .done [] []
          ∧ t.orders = s.orders.set i.val (some { o with outstanding := o.outstanding + 1 }) i.isLt
          ∧ OthersSame st s.stations t.stations
          ∧ ∃ q : Request, t.stations[st] = { s.stations[st] with queue := s.stations[st].queue ++ [q] }
            ∧ q.order = o.terms.number ∧ q.original = p.toNat * 256 + p'.toNat ∧ q.tag = f.tag ∧ q.state = .queued
            ∧ q.frames = none ∧ q.exposed = 0 ∧ q.spoiled = 0 ∧ q.abort = false ∧ q.outcome = none
            ∧ q.index = ⟨max (-144) (min 144 (r1 ++ r2).toInt), max (-144) (min 144 (g1 ++ g2).toInt),
                max (-144) (min 144 (b1 ++ b2).toInt)⟩
            ∧ q.marks = ⟨⟨decide ((r1 ++ r2).toInt < -144), decide (144 < (r1 ++ r2).toInt)⟩,
                ⟨decide ((g1 ++ g2).toInt < -144), decide (144 < (g1 ++ g2).toInt)⟩,
                ⟨decide ((b1 ++ b2).toInt < -144), decide (144 < (b1 ++ b2).toInt)⟩⟩)
  ∧ (∀ (s : State) (f : LinkFrame), Live s → InHandIs s f .intercept →
      (f.payload.length ≠ 10 → Completes (exec .expose s) fun t => Refused s t f .badLength)
      ∧ ∀ (n n' p p' : Byte) (indices : List Byte), f.payload = [n, n', p, p'] ++ indices → indices.length = 6 →
        (n.toNat * 256 + n'.toNat = 0 ∨ p.toNat * 256 + p'.toNat = 0 ∨ 9999 < p.toNat * 256 + p'.toNat →
          Completes (exec .expose s) fun t => Refused s t f .badField)
        ∧ (n.toNat * 256 + n'.toNat ≠ 0 → p.toNat * 256 + p'.toNat ≠ 0 → p.toNat * 256 + p'.toNat ≤ 9999 →
          ((∀ st : St, cameraStation s f.dst = some st → s.bindings[st].enabled = false) →
            Completes (exec .expose s) fun t => Refused s t f .wrongStation)
          ∧ ∀ st : St, cameraStation s f.dst = some st → s.bindings[st].enabled = true →
            (orderIdx s (n.toNat * 256 + n'.toNat) = none →
              Completes (exec .expose s) fun t => Refused s t f .noEntry)
            ∧ ∀ (i : Fin 16) (o : Order), OrderAt s i o → o.terms.number = n.toNat * 256 + n'.toNat →
              (o.closing = true → Completes (exec .expose s) fun t => Refused s t f .wrongState)
              ∧ (o.closing = false →
                (o.terms.station ≠ st ∨ s.stations[st].state = .disabled →
                  Completes (exec .expose s) fun t => Refused s t f .wrongStation)
                ∧ (o.terms.station = st → s.stations[st].state ≠ .disabled → 4 ≤ s.stations[st].queue.length →
                  Completes (exec .expose s) fun t => Refused s t f .queueFull))))

/-- An ORDER_OPEN that passes R5 to R7 fills the lowest FREE entry with its terms, the class found and the setup amount, adds the
setup fee to the account's held sum and raises its open-order count. -/
def Obligations.OrderOpenAccepted : Prop :=
  ∀ (s : State) (f : LinkFrame) (terms : OrderTerms) (i : Fin 16) (j : Fin 32) (a : Account) (steps : List PlanStep)
    (w : Fin 8) (win : Window) (p : Tariff),
    Hands s f 0x23 (openPayload terms) → TermsLegal terms →
    (∀ k o, s.orders[(k : Fin 16)] = some o → o.terms.number ≠ terms.number) →
    s.orders[i] = none → (∀ k : Fin 16, k < i → s.orders[k] ≠ none) → s.plans[terms.plan] = some steps →
    AccountAt s j a → a.number = terms.account →
    s.windows[w] = some win → win.enabled = true → BitVec.ofNat 24 terms.account &&& win.mask = win.base →
    (∀ k x, k < w → s.windows[(k : Fin 8)] = some x → x.enabled = true →
      BitVec.ofNat 24 terms.account &&& x.mask ≠ x.base) →
    s.tariffs[win.cls] = some p →
    (∀ c, a.ceiling = some c → c ≤ 4294967294 ∧ a.spent + a.held + p.setupFee ≤ c) →
    Completes (exec .orderOpen s) fun t =>
      OnlyChanges [.port, .inHand, .eventQueue, .orders, .accounts] s t ∧ Answered s t f .done [] []
        ∧ t.accounts = s.accounts.set j.val
            (some { a with held := a.held + p.setupFee, openOrders := a.openOrders + 1 }) j.isLt
        ∧ t.orders = s.orders.set i.val
            (some
              { terms := terms, cls := win.cls, setupAmount := p.setupFee, settled := false, reserved := 0, exposed := 0
                spoiled := 0, charged := 0, outstanding := 0, closing := false, cancelling := false
                closingTag := none, summaryPending := false, summary := none }) i.isLt

/-- The refusals of an ORDER_OPEN: BAD_LENGTH for a payload that is not laid out as 10.4 says and BAD_FIELD for a field out of range
(R5); then, for one that is well formed, those of R6 and R7 in order: each clause takes the failures before it as passed. -/
def Obligations.OrderOpenRefusals : Prop :=
  (∀ (s : State) (f : LinkFrame), Live s → InHandIs s f .manage → f.kind = 0x23 →
    ((¬ ∃ head course title : List Byte, head.length = 12 ∧ course.length ≤ 255 ∧ title.length ≤ 255
        ∧ f.payload = head ++ (u8 course.length :: course) ++ (u8 title.length :: title)) →
      Completes (exec .orderOpen s) fun t => Refused s t f .badLength)
    ∧ ∀ (o1 o2 a1 a2 a3 plan template station copies tr tg tb : Byte) (course title : List Byte),
      course.length ≤ 255 → title.length ≤ 255 →
      f.payload = [o1, o2, a1, a2, a3, plan, template, station, copies, tr, tg, tb]
        ++ (u8 course.length :: course) ++ (u8 title.length :: title) →
      ((o1 = 0 ∧ o2 = 0) ∨ (a1 = 0 ∧ a2 = 0 ∧ a3 = 0) ∨ 7 < plan.toNat ∨ 3 < template.toNat ∨ station.toNat = 0
        ∨ 4 < station.toNat ∨ copies.toNat = 0 ∨ 4 < copies.toNat ∨ (∃ x ∈ [tr, tg, tb], x.toInt < -24 ∨ 24 < x.toInt)
        ∨ course = []) →
      Completes (exec .orderOpen s) fun t => Refused s t f .badField)
  ∧ ∀ (s : State) (f : LinkFrame) (terms : OrderTerms), Hands s f 0x23 (openPayload terms) → TermsLegal terms →
    ((∃ k o, s.orders[(k : Fin 16)] = some o ∧ o.terms.number = terms.number) →
      Completes (exec .orderOpen s) fun t => Refused s t f .inUse)
    ∧ ((∀ k o, s.orders[(k : Fin 16)] = some o → o.terms.number ≠ terms.number) →
      ((∀ k : Fin 16, s.orders[k] ≠ none) → Completes (exec .orderOpen s) fun t => Refused s t f .tableFull)
      ∧ ∀ i : Fin 16, s.orders[i] = none →
        (s.plans[terms.plan] = none → Completes (exec .orderOpen s) fun t => Refused s t f .noEntry)
        ∧ (s.plans[terms.plan] ≠ none →
          ((∀ k a, s.accounts[(k : Fin 32)] = some a → a.number ≠ terms.account) →
            Completes (exec .orderOpen s) fun t => Refused s t f .noAccount)
          ∧ ∀ (j : Fin 32) (a : Account), AccountAt s j a → a.number = terms.account →
            (tariffClass s terms.account = none →
              Completes (exec .orderOpen s) fun t => Refused s t f .noTariff)
            ∧ ∀ c p ceiling, tariffClass s terms.account = some (c, p) → a.ceiling = some ceiling →
              ceiling ≤ 4294967294 → ceiling < a.spent + a.held + p.setupFee →
              Completes (exec .orderOpen s) fun t => Refused s t f .budget))

/-- ORDER_CLOSE moves an OPEN order to CLOSING with its tag. With no request outstanding the FREE transition follows at once: the
setup hold is settled by the exposed count, the ORDER_SUMMARY follows the DONE, and the entry is FREE; with no room for the
summary the entry waits settled, its number held. Then the refusals of ORDER_CLOSE and ORDER_CANCEL, in the order of R9 and R10.
ORDER_CANCEL of an order whose requests are all QUEUED at an OFFLINE station removes every one of them without an event, settles
the setup hold in the same way, and posts the ORDER_SUMMARY with the end CANCELLED after the DONE; the entry is FREE. -/
def Obligations.OrderCloseRule : Prop :=
  (∀ (s : State) (f : LinkFrame) (i : Fin 16) (o : Order), Hands s f 0x24 (be16 o.terms.number) → OrderAt s i o →
      1 ≤ o.terms.number → o.terms.number ≤ 65535 → o.closing = false → o.summaryPending = false → 1 ≤ s.eq.reserved →
      (0 < o.outstanding → Completes (exec .orderClose s) fun t =>
        OnlyChanges [.port, .inHand, .eventQueue, .orders] s t ∧ Answered s t f .done [] []
          ∧ t.orders = s.orders.set i.val (some { o with closing := true, closingTag := some f.tag }) i.isLt)
      ∧ ∀ (j : Fin 32) (a : Account), o.outstanding = 0 → AccountAt s j a → a.number = o.terms.account →
        (Room s 1 → Completes (exec .orderClose s) fun t =>
          OnlyChanges [.port, .inHand, .eventQueue, .orders, .accounts] s t
            ∧ Answered s t f .done []
                [.event f.tag (.orderSummary o.terms.number o.terms.account o.cls o.cancelling o.reserved o.exposed o.spoiled
                  (decide (1 ≤ o.exposed)) o.setupAmount
                  (if 1 ≤ o.exposed then min (o.charged + o.setupAmount) 4294967295 else o.charged))]
            ∧ t.orders = s.orders.set i.val none i.isLt
            ∧ t.accounts = s.accounts.set j.val
                (some { a with
                  held := a.held - o.setupAmount, openOrders := a.openOrders - 1
                  spent := if 1 ≤ o.exposed then min (a.spent + o.setupAmount) 4294967295 else a.spent }) j.isLt)
        ∧ (freePlaces s.eq = 0 → s.eq.records.length + s.eq.reserved + s.eq.given.length = 16 →
          Completes (exec .orderClose s) fun t =>
            OnlyChanges [.port, .inHand, .eventQueue, .orders, .accounts] s t
              ∧ t.eq.records = s.eq.records ++ [.result f.tag .done []]
              ∧ t.eq.waiters = s.eq.waiters ++ [.orderSummary i]
              ∧ ∃ o', t.orders = s.orders.set i.val (some o') i.isLt ∧ o'.terms = o.terms ∧ o'.closing = true
                  ∧ o'.closingTag = some f.tag ∧ o'.summaryPending = true ∧ o'.settled = true))
  ∧ ((∀ (s : State) (f : LinkFrame) (c : Instr) (kind : Byte),
      (c = .orderClose ∧ kind = 0x24 ∨ c = .orderCancel ∧ kind = 0x25) → Live s → InHandIs s f .manage → f.kind = kind →
      (f.payload.length ≠ 2 → Completes (exec c s) fun t => Refused s t f .badLength)
      ∧ (f.payload = [0, 0] → Completes (exec c s) fun t => Refused s t f .badField)
      ∧ ∀ n, f.payload = be16 n → 1 ≤ n → n ≤ 65535 → orderIdx s n = none →
          Completes (exec c s) fun t => Refused s t f .noEntry)
    ∧ (∀ (s : State) (f : LinkFrame) (i : Fin 16) (o : Order), OrderAt s i o → 1 ≤ o.terms.number →
        o.terms.number ≤ 65535 → o.closing = true →
        (Hands s f 0x24 (be16 o.terms.number) → Completes (exec .orderClose s) fun t => Refused s t f .wrongState)
        ∧ (Hands s f 0x25 (be16 o.terms.number) → o.cancelling = true ∨ o.summaryPending = true →
            Completes (exec .orderCancel s) fun t => Refused s t f .wrongState)))
  ∧ (∀ (s : State) (f : LinkFrame) (i : Fin 16) (o : Order) (j : Fin 32) (a : Account), Steady s →
    Hands s f 0x25 (be16 o.terms.number) → OrderAt s i o → 1 ≤ o.terms.number → o.terms.number ≤ 65535 →
    o.cancelling = false → o.summaryPending = false → s.stations[o.terms.station].state = .offline →
    (∀ q ∈ s.stations[o.terms.station].queue, q.order = o.terms.number → q.state = .queued) →
    (s.stations[o.terms.station].queue.filter fun q => q.order == o.terms.number).length = o.outstanding →
    AccountAt s j a → a.number = o.terms.account → 1 ≤ s.eq.reserved → Room s 1 →
    Completes (exec .orderCancel s) fun t =>
      OnlyChanges [.port, .inHand, .eventQueue, .orders, .accounts, .stations] s t
        ∧ Answered s t f .done []
            [.event f.tag (.orderSummary o.terms.number o.terms.account o.cls true o.reserved o.exposed o.spoiled
              (decide (1 ≤ o.exposed)) o.setupAmount
              (if 1 ≤ o.exposed then min (o.charged + o.setupAmount) 4294967295 else o.charged))]
        ∧ t.orders = s.orders.set i.val none i.isLt
        ∧ t.accounts = s.accounts.set j.val
            (some { a with
              held := a.held - o.setupAmount, openOrders := a.openOrders - 1
              spent := if 1 ≤ o.exposed then min (a.spent + o.setupAmount) 4294967295 else a.spent }) j.isLt
        ∧ OthersSame o.terms.station s.stations t.stations
        ∧ t.stations[o.terms.station] = { s.stations[o.terms.station] with
            queue := s.stations[o.terms.station].queue.filter fun q => q.order != o.terms.number })

/-! ### Tables -/

/-- The records that the writes of 10.6 take: for every legal entry, the record that a TABLE_READ gives is read back as that
entry, and the record of an ORDER_OPEN as its terms. -/
def Obligations.RecordsReadBack : Prop :=
  (∀ k : Stock, StockLegal k → parseStock (stockRecord (some k)) = some (some k))
    ∧ (∀ l : List PlanStep, PlanLegal l → parsePlan (planRecord (some l)) = some (some l))
    ∧ (∀ w : Window, WindowLegal w → parseWindow (windowRecord (some w)) = some (some w))
    ∧ (∀ t : Tariff, TariffLegal t → parseTariff (tariffRecord (some t)) = some t)
    ∧ (∀ (n : Nat) (c : Option Nat), AccountLegal n c → parseAccount (be24 n ++ be32 (c.getD 4294967295)) = some (n, c))
    ∧ (∀ l : List Item, l.length ≤ 8 → (∀ x ∈ l, ItemLegal x) → parseTemplate (templateRecord l) = some (some l))
    ∧ (∀ t : StandText, TextLegal 8 t.name → TextLegal 10 t.date → parseStandText (standTextRecord t) = some t)
    ∧ (∀ t : OrderTerms, TermsLegal t → ∃ x, parseOpen (openPayload t) = some x ∧ x.terms = some t)

/-- A TABLE_WRITE of a legal stock or plan that no open roll or order uses, and that is no duplicate, sets its entry; an empty
record empties it; an entry in use is refused with IN_USE, filled or emptied (R22, R58; the maps of open rolls alone are meant here,
since a closing map is the model's choice, assumption log 44). An account that is new or renumbered starts at 0; the same number
keeps spent, held and the count and takes the ceiling, unless it lies below spent + held; an empty record removes an account; an
account in use is neither removed nor renumbered (R95, R96). The Template Table's and Stand Text's writes store legal items and
texts as they are (R112, R113). -/
def Obligations.StockPlanAndTextWrites : Prop :=
  ((∀ (s : State) (f : LinkFrame) (i : Fin 8) (k : Stock), StockLegal k →
        Hands s f 0x21 (0x04 :: u8 i.val :: stockRecord (some k)) →
        (∀ j k', j ≠ i → s.stocks[(j : Fin 8)] = some k' → k'.code ≠ k.code) →
        ((∀ k' st m, s.stocks[i] = some k' → s.rolls[(st : St)].map = some m → m.stock ≠ k'.code) →
          Completes (exec .stockTableWrite s) fun t => OnlyChanges [.port, .inHand, .eventQueue, .stocks] s t
            ∧ Answered s t f .done [] [] ∧ t.stocks = s.stocks.set i.val (some k) i.isLt)
        ∧ ((∃ k' st m, s.stocks[i] = some k' ∧ s.rolls[(st : St)].map = some m ∧ m.closing = none ∧ m.stock = k'.code) →
          Completes (exec .stockTableWrite s) fun t => Refused s t f .inUse))
      ∧ (∀ (s : State) (f : LinkFrame) (i : Fin 8), Hands s f 0x21 [0x04, u8 i.val] →
        ((∀ k' st m, s.stocks[i] = some k' → s.rolls[(st : St)].map = some m → m.stock ≠ k'.code) →
          Completes (exec .stockTableWrite s) fun t => OnlyChanges [.port, .inHand, .eventQueue, .stocks] s t
            ∧ Answered s t f .done [] [] ∧ t.stocks = s.stocks.set i.val none i.isLt)
        ∧ ((∃ k' st m, s.stocks[i] = some k' ∧ s.rolls[(st : St)].map = some m ∧ m.closing = none ∧ m.stock = k'.code) →
          Completes (exec .stockTableWrite s) fun t => Refused s t f .inUse))
      ∧ (∀ (s : State) (f : LinkFrame) (i : Fin 8) (l : List PlanStep), PlanLegal l →
        Hands s f 0x21 (0x05 :: u8 i.val :: planRecord (some l)) →
        ((∀ j o, s.orders[(j : Fin 16)] = some o → o.terms.plan ≠ i) →
          Completes (exec .planTableWrite s) fun t => OnlyChanges [.port, .inHand, .eventQueue, .plans] s t
            ∧ Answered s t f .done [] [] ∧ t.plans = s.plans.set i.val (some l) i.isLt)
        ∧ ((∃ j o, s.orders[(j : Fin 16)] = some o ∧ o.terms.plan = i) →
          Completes (exec .planTableWrite s) fun t => Refused s t f .inUse))
      ∧ (∀ (s : State) (f : LinkFrame) (i : Fin 8), Hands s f 0x21 [0x05, u8 i.val] →
        ((∀ j o, s.orders[(j : Fin 16)] = some o → o.terms.plan ≠ i) →
          Completes (exec .planTableWrite s) fun t => OnlyChanges [.port, .inHand, .eventQueue, .plans] s t
            ∧ Answered s t f .done [] [] ∧ t.plans = s.plans.set i.val none i.isLt)
        ∧ ((∃ j o, s.orders[(j : Fin 16)] = some o ∧ o.terms.plan = i) →
          Completes (exec .planTableWrite s) fun t => Refused s t f .inUse)))
  ∧ ((∀ (s : State) (f : LinkFrame) (i : Fin 4) (items : List Item), items.length ≤ 8 → (∀ x ∈ items, ItemLegal x) →
        Hands s f 0x21 (0x09 :: u8 i.val :: templateRecord items) →
        Completes (exec .templateTableWrite s) fun t => OnlyChanges [.port, .inHand, .eventQueue, .composer] s t
          ∧ Answered s t f .done [] []
          ∧ t.composer = { s.composer with templates := s.composer.templates.set i.val items i.isLt })
      ∧ (∀ (s : State) (f : LinkFrame) (x : StandText), TextLegal 8 x.name → TextLegal 10 x.date →
        Hands s f 0x21 (0x0A :: 0x00 :: standTextRecord x) →
        Completes (exec .standTextWrite s) fun t => OnlyChanges [.port, .inHand, .eventQueue, .composer] s t
          ∧ Answered s t f .done [] [] ∧ t.composer = { s.composer with stand := x }))
  ∧ ((∀ (s : State) (f : LinkFrame) (i : Fin 32) (n : Nat) (c : Option Nat), AccountLegal n c →
    Hands s f 0x21 (0x08 :: u8 i.val :: (be24 n ++ be32 (c.getD 4294967295))) →
    ((∃ j a, j ≠ i ∧ s.accounts[(j : Fin 32)] = some a ∧ a.number = n) →
      Completes (exec .accountTableWrite s) fun t => Refused s t f .badField)
    ∧ ((∀ j a, j ≠ i → s.accounts[(j : Fin 32)] = some a → a.number ≠ n) →
      (s.accounts[i] = none ∨ (∃ a, s.accounts[i] = some a ∧ a.number ≠ n ∧ a.held = 0 ∧ a.openOrders = 0) →
        Completes (exec .accountTableWrite s) fun t =>
          OnlyChanges [.port, .inHand, .eventQueue, .accounts] s t ∧ Answered s t f .done [] []
            ∧ t.accounts = s.accounts.set i.val (some ⟨n, c, 0, 0, 0⟩) i.isLt)
      ∧ ∀ a, s.accounts[i] = some a →
        (a.number ≠ n → a.held ≠ 0 ∨ a.openOrders ≠ 0 →
          Completes (exec .accountTableWrite s) fun t => Refused s t f .inUse)
        ∧ (a.number = n → (∀ x, c = some x → a.spent + a.held ≤ x) →
          Completes (exec .accountTableWrite s) fun t =>
            OnlyChanges [.port, .inHand, .eventQueue, .accounts] s t ∧ Answered s t f .done [] []
              ∧ t.accounts = s.accounts.set i.val (some { a with ceiling := c }) i.isLt)
        ∧ (a.number = n → (∃ x, c = some x ∧ x < a.spent + a.held) →
          Completes (exec .accountTableWrite s) fun t => Refused s t f .belowUse)))
    ∧ ∀ (s : State) (f : LinkFrame) (i : Fin 32), Hands s f 0x21 [0x08, u8 i.val] →
      ((s.accounts[i] = none ∨ ∃ a, s.accounts[i] = some a ∧ a.held = 0 ∧ a.openOrders = 0) →
        Completes (exec .accountTableWrite s) fun t => OnlyChanges [.port, .inHand, .eventQueue, .accounts] s t
          ∧ Answered s t f .done [] [] ∧ t.accounts = s.accounts.set i.val none i.isLt)
      ∧ ∀ a, s.accounts[i] = some a → a.held ≠ 0 ∨ a.openOrders ≠ 0 →
        Completes (exec .accountTableWrite s) fun t => Refused s t f .inUse)

/-- The Window Table's write rule, whole (R89): index, length, class, base against mask, each with its code; then the entry takes
the record, or becomes empty, and the RESULT is DONE. -/
def Obligations.WindowWriteRule : Prop :=
  ∀ (s : State) (f : LinkFrame) (index : Byte) (record : List Byte), Hands s f 0x21 (0x06 :: index :: record) →
    (8 ≤ index.toNat → Completes (exec .windowTableWrite s) fun t => Refused s t f .badField)
    ∧ ∀ i : Fin 8, index = u8 i.val →
      (record.length ≠ 0 → record.length ≠ 8 →
        Completes (exec .windowTableWrite s) fun t => Refused s t f .badLength)
      ∧ (record = [] → Completes (exec .windowTableWrite s) fun t =>
          OnlyChanges [.port, .inHand, .eventQueue, .windows] s t ∧ Answered s t f .done [] []
            ∧ t.windows = s.windows.set i.val none i.isLt)
      ∧ ∀ b1 b2 b3 m1 m2 m3 c e : Byte, record = [b1, b2, b3, m1, m2, m3, c, e] →
        (8 ≤ c.toNat ∨ (b1 ++ b2 ++ b3 : BitVec 24) &&& ~~~(m1 ++ m2 ++ m3 : BitVec 24) ≠ 0 →
          Completes (exec .windowTableWrite s) fun t => Refused s t f .badField)
        ∧ ∀ k : Fin 8, c = u8 k.val → (b1 ++ b2 ++ b3 : BitVec 24) &&& ~~~(m1 ++ m2 ++ m3 : BitVec 24) = 0 →
          Completes (exec .windowTableWrite s) fun t =>
            OnlyChanges [.port, .inHand, .eventQueue, .windows] s t ∧ Answered s t f .done [] []
              ∧ t.windows = s.windows.set i.val (some ⟨b1 ++ b2 ++ b3, m1 ++ m2 ++ m3, k, e != 0⟩) i.isLt

/-- The Tariff Table's write rule, whole (R92): index, length, a held class that is not emptied; every 16-bit value accepted, a
share above 256 stored as 256. -/
def Obligations.TariffWriteRule : Prop :=
  ∀ (s : State) (f : LinkFrame) (index : Byte) (record : List Byte), Hands s f 0x21 (0x07 :: index :: record) →
    (8 ≤ index.toNat → Completes (exec .tariffTableWrite s) fun t => Refused s t f .badField)
    ∧ ∀ i : Fin 8, index = u8 i.val →
      (record.length ≠ 0 → record.length ≠ 8 →
        Completes (exec .tariffTableWrite s) fun t => Refused s t f .badLength)
      ∧ (record = [] → (∃ j o, s.orders[(j : Fin 16)] = some o ∧ o.cls = i) →
        Completes (exec .tariffTableWrite s) fun t => Refused s t f .inUse)
      ∧ (record = [] → (∀ j o, s.orders[(j : Fin 16)] = some o → o.cls ≠ i) →
        Completes (exec .tariffTableWrite s) fun t =>
          OnlyChanges [.port, .inHand, .eventQueue, .tariffs] s t ∧ Answered s t f .done [] []
            ∧ t.tariffs = s.tariffs.set i.val none i.isLt)
      ∧ ∀ price fee share setup : Nat, price ≤ 65535 → fee ≤ 65535 → share ≤ 65535 → setup ≤ 65535 →
        record = be16 price ++ be16 fee ++ be16 share ++ be16 setup →
        Completes (exec .tariffTableWrite s) fun t =>
          OnlyChanges [.port, .inHand, .eventQueue, .tariffs] s t ∧ Answered s t f .done [] []
            ∧ t.tariffs = s.tariffs.set i.val (some ⟨price, fee, if 256 < share then 256 else share, setup⟩) i.isLt

/-- The Station Table's writes (R61) bind a disabled station and are refused for an enabled one; a Device Table write (R138, R139)
makes an entry that is ABSENT and due for a wake, and one that repeats an entry's address and class keeps it as it stands. -/
def Obligations.BindingWrites : Prop :=
  (∀ (s : State) (f : LinkFrame) (st : St) (b : Binding), BindingLegal b →
      Hands s f 0x21 [0x03, u8 (st.val + 1), b.camera, b.lamp] →
      (s.bindings[st].enabled = true → Completes (exec .stationTableWrite s) fun t => Refused s t f .inUse)
      ∧ (s.bindings[st].enabled = false →
        (∀ st' b', st' ≠ st → s.bindings[(st' : St)].binding = some b' →
          b'.camera ≠ b.camera ∧ b'.lamp ≠ b.camera ∧ b'.camera ≠ b.lamp ∧ b'.lamp ≠ b.lamp) →
        Completes (exec .stationTableWrite s) fun t => OnlyChanges [.port, .inHand, .eventQueue, .bindings] s t
          ∧ Answered s t f .done [] [] ∧ t.bindings = s.bindings.set st.val ⟨some b, false⟩ st.isLt))
    ∧ (∀ (s : State) (f : LinkFrame) (i : Fin 16) (a : Byte) (c : DevClass), Steady s → isRingAddress a = true →
      Hands s f 0x21 [0x02, u8 i.val, a, c.code] →
      (∀ j d, j ≠ i → s.devices[(j : Fin 16)] = some d → d.addr ≠ a ∧ (c = .printer → d.cls ≠ .printer)) →
      (s.devices[i] = none → Completes (exec .deviceTableWrite s) fun t =>
        OnlyChanges [.port, .inHand, .eventQueue, .devices] s t ∧ Answered s t f .done [] []
          ∧ t.devices = s.devices.set i.val
              (some ⟨a, c, .absent, 0, 0, false, false, false, true, false, false⟩) i.isLt)
      ∧ ∀ d, s.devices[i] = some d →
        (d.addr = a → d.cls = c → Completes (exec .deviceTableWrite s) fun t => Reported s t f [])
        ∧ (d.addr ≠ a ∨ d.cls ≠ c → ∀ st, boundStation s d.addr = some st → s.bindings[(st : St)].enabled = true →
          Completes (exec .deviceTableWrite s) fun t => Refused s t f .inUse))

/-- A TABLE_WRITE of the Order Table is refused with BAD_FIELD (R18), an index out of its table's range with BAD_FIELD (R172). -/
def Obligations.TableWriteRefusals : Prop :=
  (∀ (s : State) (f : LinkFrame) (index : Byte) (record : List Byte), Hands s f 0x21 (0x01 :: index :: record) →
      Completes (exec .orderTableWrite s) fun t => Refused s t f .badField)
    ∧ ∀ c id low high, (c, id, low, high) ∈
        ([(.deviceTableWrite, 0x02, 0, 15), (.stationTableWrite, 0x03, 1, 4), (.stockTableWrite, 0x04, 0, 7),
          (.planTableWrite, 0x05, 0, 7), (.windowTableWrite, 0x06, 0, 7), (.tariffTableWrite, 0x07, 0, 7),
          (.accountTableWrite, 0x08, 0, 31), (.templateTableWrite, 0x09, 0, 3),
          (.standTextWrite, 0x0A, 0, 0)] : List (Instr × Byte × Nat × Nat)) →
      ∀ (s : State) (f : LinkFrame) (index : Byte) (record : List Byte), index.toNat < low ∨ high < index.toNat →
        Hands s f 0x21 (id :: index :: record) → Completes (exec c s) fun t => Refused s t f .badField

/-- Every TABLE_READ answers DONE with the identifier, the index, the part number, the part count and the part's bytes of the
entry's record as it stands (R173); a part at or above the part count, and an index out of range, is refused with BAD_FIELD, and
another length with BAD_LENGTH. Nothing else changes. That each of the ten rows refuses a frame that names no table is inferred
(assumption log 39). Then the read records of 10.6 that no write record pins: the order record byte by byte, and the device,
station, stock, plan and account records. -/
def Obligations.TableReads : Prop :=
  (∀ c id record, (c, id, record) ∈
      ([(.orderTableRead, 0x01, fun s b => (index? 16 b).map fun i => orderRecord s.orders[i]),
        (.deviceTableRead, 0x02, fun s b => (index? 16 b).map fun i => deviceRecord s.devices[i]),
        (.stationTableRead, 0x03, fun s b => (station? b).map fun st => stationRecord s.bindings[st]),
        (.stockTableRead, 0x04, fun s b => (index? 8 b).map fun i => stockRecord s.stocks[i]),
        (.planTableRead, 0x05, fun s b => (index? 8 b).map fun i => planRecord s.plans[i]),
        (.windowTableRead, 0x06, fun s b => (index? 8 b).map fun i => windowRecord s.windows[i]),
        (.tariffTableRead, 0x07, fun s b => (index? 8 b).map fun i => tariffRecord s.tariffs[i]),
        (.accountTableRead, 0x08, fun s b => (index? 32 b).map fun i => accountRecord s.accounts[i]),
        (.templateTableRead, 0x09, fun s b => (index? 4 b).map fun i => templateRecord s.composer.templates[i]),
        (.standTextRead, 0x0A, fun s b => if b = 0 then some (standTextRecord s.composer.stand) else none)] :
        List (Instr × Byte × (State → Byte → Option (List Byte)))) →
    ∀ (s : State) (f : LinkFrame), Live s → InHandIs s f .manage → f.kind = 0x22 →
      (f.payload.length ≠ 3 → Completes (exec c s) fun t => Refused s t f .badLength)
      ∧ ∀ index part : Byte, f.payload = [id, index, part] →
        (record s index = none → Completes (exec c s) fun t => Refused s t f .badField)
        ∧ ∀ bytes, record s index = some bytes →
          (max 1 ((bytes.length + 47) / 48) ≤ part.toNat → Completes (exec c s) fun t => Refused s t f .badField)
          ∧ (part.toNat < max 1 ((bytes.length + 47) / 48) → Completes (exec c s) fun t =>
              Reported s t f ([id, index, part, u8 (max 1 ((bytes.length + 47) / 48))]
                ++ (bytes.drop (48 * part.toNat)).take 48)))
  ∧ (orderRecord none = [0x00] ∧ deviceRecord none = [] ∧ stockRecord none = [] ∧ planRecord none = []
      ∧ accountRecord none = [] ∧ (∀ b : Bool, stationRecord ⟨none, b⟩ = []))
  ∧ (∀ o : Order, o.terms.course.length ≤ 8 → o.terms.title.length ≤ 24 →
      (orderRecord (some o)).length = 68 ∧ orderRecord (some o) =
        [if o.closing then 0x02 else 0x01,
          u8 ((if o.cancelling then 1 else 0) + (if o.summaryPending then 2 else 0) + (if o.settled then 4 else 0))]
        ++ be16 o.terms.number ++ be24 o.terms.account
        ++ [u8 o.cls.val, u8 o.terms.plan.val, u8 o.terms.template.val, u8 (o.terms.station.val + 1), u8 o.terms.copies,
          BitVec.ofInt 8 o.terms.trim.r, BitVec.ofInt 8 o.terms.trim.g, BitVec.ofInt 8 o.terms.trim.b]
        ++ be16 o.setupAmount ++ be32 o.reserved ++ be32 o.exposed ++ be32 o.spoiled ++ be32 o.charged
        ++ [u8 o.outstanding] ++ [u8 o.terms.course.length] ++ o.terms.course
        ++ List.replicate (8 - o.terms.course.length) 0 ++ [u8 o.terms.title.length] ++ o.terms.title
        ++ List.replicate (24 - o.terms.title.length) 0)
  ∧ (∀ d : Device, deviceRecord (some d) =
      [d.addr, (match d.cls with | .camera => 0x01 | .lamp => 0x02 | .printer => 0x03 | .other => 0x04),
        (match d.link with | .absent => 0x00 | .waking _ => 0x01 | .up => 0x02 | .lost => 0x03)] ++ be16 d.failedWakes)
  ∧ (∀ (b : Binding) (on : Bool), stationRecord ⟨some b, on⟩ = [b.camera, b.lamp, if on then 0x01 else 0x00])
  ∧ (∀ k : Stock, stockRecord (some k) =
      [u8 k.code, u8 k.length] ++ be16 k.tRef
        ++ [BitVec.ofInt 8 k.balance.r, BitVec.ofInt 8 k.balance.g, BitVec.ofInt 8 k.balance.b] ++ be16 k.tMin
        ++ be16 k.tMax ++ be16 k.knee ++ be16 k.slope)
  ∧ (∀ l : List PlanStep, planRecord (some l) = u8 l.length :: l.flatMap fun p =>
      [BitVec.ofInt 8 p.offset, u8 ((if p.channels.r then 1 else 0) + (if p.channels.g then 2 else 0)
        + (if p.channels.b then 4 else 0))])
  ∧ ∀ a : Account, accountRecord (some a) =
      be24 a.number ++ be32 (a.ceiling.getD 4294967295) ++ be32 a.spent ++ be32 a.held ++ [u8 a.openOrders]

/-! ### Stations -/

/-- ENABLE of a DISABLED station that binds a camera and a lamp head sets its flag; the station enters OFFLINE, NO_ROLL, or READY
with roll check pending and one STATUS asked for. Its refusals, in the order of R66: a station that is not DISABLED, one that binds
nothing or an address the Device Table does not hold, and one whose devices are of another class. A STATION_CONTROL of another
length, or that names no station or no sub-command, is refused by each of its four rows (R66's section 4.4; which row takes it is
inferred, assumption log 39). -/
def Obligations.EnableAccepted : Prop :=
  (∀ (s : State) (f : LinkFrame) (st : St) (b : Binding) (i k : Fin 16) (dc dl : Device), Steady s →
    Hands s f 0x26 [u8 (st.val + 1), 0x01] → s.stations[st].state = .disabled → s.stations[st].queue = [] →
    s.bindings[st].binding = some b → DeviceAt s i dc → dc.addr = b.camera → dc.cls = .camera → DeviceAt s k dl →
    dl.addr = b.lamp → dl.cls = .lamp →
    Completes (exec .enable s) fun t =>
      OnlyChanges [.port, .inHand, .eventQueue, .bindings, .stations, .ring] s t ∧ Answered s t f .done [] []
        ∧ t.bindings = s.bindings.set st.val ⟨some b, true⟩ st.isLt ∧ OthersSame st s.stations t.stations
        ∧ ((dc.link ≠ .up ∨ dl.link ≠ .up) →
            t.stations[st] = { s.stations[st] with state := .offline } ∧ t.ring = s.ring)
        ∧ (dc.link = .up → dl.link = .up → s.rolls[st].map = none →
            t.stations[st] = { s.stations[st] with state := .noRoll } ∧ t.ring = s.ring)
        ∧ (dc.link = .up → dl.link = .up → ∀ m, s.rolls[st].map = some m → m.opening = false →
            t.stations[st].state = .ready ∧ t.stations[st].rollCheck = true
              ∧ t.ring.asks[st] = some ⟨b.camera, 0x02, [], .rollCheck⟩ ∧ OthersSame st s.ring.asks t.ring.asks))
  ∧ (∀ (s : State) (f : LinkFrame) (st : St), Hands s f 0x26 [u8 (st.val + 1), 0x01] →
      (s.stations[st].state ≠ .disabled → Completes (exec .enable s) fun t => Refused s t f .wrongState)
      ∧ (s.stations[st].state = .disabled →
        (s.bindings[st].binding = none → Completes (exec .enable s) fun t => Refused s t f .noEntry)
        ∧ ∀ b, s.bindings[st].binding = some b →
          (deviceIdx s b.camera = none ∨ deviceIdx s b.lamp = none →
            Completes (exec .enable s) fun t => Refused s t f .noEntry)
          ∧ ∀ (i k : Fin 16) (dc dl : Device), DeviceAt s i dc → dc.addr = b.camera → DeviceAt s k dl → dl.addr = b.lamp →
            dc.cls ≠ .camera ∨ dl.cls ≠ .lamp → Completes (exec .enable s) fun t => Refused s t f .badField))
  ∧ ∀ c ∈ ([.enable, .disable, .abort, .unload] : List Instr), ∀ (s : State) (f : LinkFrame), Live s →
      InHandIs s f .manage → f.kind = 0x26 →
      (f.payload.length ≠ 2 → Completes (exec c s) fun t => Refused s t f .badLength)
      ∧ ∀ n b : Byte, f.payload = [n, b] → n.toNat = 0 ∨ 4 < n.toNat ∨ b.toNat = 0 ∨ 4 < b.toNat →
        Completes (exec c s) fun t => Refused s t f .badField

/-- DISABLE of a station in OFFLINE, NO_ROLL or READY with nothing queued, posted or waiting clears its flag, withdraws its ask
and stops its poll timer; in any other state, or with requests queued, it is refused with WRONG_STATE. -/
def Obligations.DisableRule : Prop :=
  ∀ (s : State) (f : LinkFrame) (st : St), Hands s f 0x26 [u8 (st.val + 1), 0x02] →
    ((s.stations[st].state = .offline ∨ s.stations[st].state = .noRoll ∨ s.stations[st].state = .ready) →
      s.stations[st].queue = [] → s.stations[st].pendingPost = none →
      (∀ m, s.rolls[st].map = some m → m.opening = false ∧ m.closing = none) →
      Completes (exec .disable s) fun t =>
        OnlyChanges [.port, .inHand, .eventQueue, .bindings, .stations, .ring] s t ∧ Answered s t f .done [] []
          ∧ t.bindings = s.bindings.set st.val { s.bindings[st] with enabled := false } st.isLt
          ∧ OthersSame st s.stations t.stations ∧ t.stations[st].state = .disabled
          ∧ t.stations[st].pollTimer = false ∧ t.stations[st].rollCheck = false ∧ t.ring.asks[st] = none
          ∧ OthersSame st s.ring.asks t.ring.asks)
    ∧ ((s.stations[st].state ≠ .offline ∧ s.stations[st].state ≠ .noRoll ∧ s.stations[st].state ≠ .ready)
        ∨ s.stations[st].queue ≠ [] ∨ s.stations[st].pendingPost.isSome = true
        ∨ (∃ m, s.rolls[st].map = some m ∧ (m.opening = true ∨ m.closing.isSome = true)) →
      Completes (exec .disable s) fun t => Refused s t f .wrongState)

/-- ABORT of a request in SHOT_WAIT, ADVANCE or ADVANCE_WAIT sets its abort marker and lets the frame finish (R193). ABORT of a
SUSPENDED request is completed at once (R194): the frames from the gate frame up, or behind a gate frame that is marked, leave the
map, a RESERVED gate frame in SHOT_WAIT is spoiled first, the REQUEST_DONE follows the DONE with outcome ABORTED, and the station
stays SUSPENDED without a request in phase ADVANCE or BOUNDARY, release owed and the noted SHOT kept; with no room the post waits,
and the station stands in AWAITING. What becomes of the resume step is the model's choice (assumption log 41). ABORT where no head
runs or is suspended, or where the head carries its marker or its outcome, is refused with WRONG_STATE (R191). -/
def Obligations.AbortRule : Prop :=
  ∀ (s : State) (f : LinkFrame) (st : St), Hands s f 0x26 [u8 (st.val + 1), 0x03] →
    (∀ (q : Request) (m : RollMap) (ph : Phase), Steady s → RunsFrame s st q m ph →
      ph = .shotWait ∨ ph = .advance ∨ ph = .advanceWait →
      Completes (exec .abort s) fun t => OnlyChanges [.port, .inHand, .eventQueue, .stations] s t
        ∧ Answered s t f .done [] [] ∧ OthersSame st s.stations t.stations
        ∧ t.stations[st] = { s.stations[st] with
            queue := { q with abort := true } :: s.stations[st].queue.tail })
    ∧ (∀ (q : Request) (r : Reserved) (m : RollMap) (i : Fin 16) (o : Order) (gate : FrameRec), Steady s →
      s.stations[st].state = .suspended → s.stations[st].rollEnd = false → s.stations[st].pendingPost = none →
      s.stations[st].susp.requestHeld = true → headOf s st = some q → q.state = .suspended → q.abort = false →
      q.outcome = none → q.frames = some r → r.roll = m.roll → s.rolls[st].map = some m → m.closing = none →
      recordAt m m.gate = some gate →
      s.composer.headerList = [] → s.composer.labelWaiters = [] → OrderAt s i o → o.terms.number = q.order →
      o.closing = false →
      (Room s 1 → 1 ≤ s.eq.reserved → ∀ (spoils marked : Bool),
        spoils = decide (s.stations[st].susp.phase = .shotWait ∧ gate.state = .reserved) →
        marked = (spoils || decide (gate.state ≠ .reserved)) →
        Completes (exec .abort s) fun t =>
          OnlyChanges [.port, .inHand, .eventQueue, .stations, .rolls, .orders, .accounts, .composer, .devices] s t
            ∧ OthersSame st s.stations t.stations ∧ OthersSame st s.rolls t.rolls
            ∧ Answered s t f .done [] [.event q.tag (.requestDone q.order q.original r.first r.count q.exposed
                (if spoils then q.spoiled + 1 else q.spoiled) .aborted)]
            ∧ t.stations[st] = { s.stations[st] with
                queue := s.stations[st].queue.tail, leftUp := false
                susp := { s.stations[st].susp with
                  requestHeld := false, phase := if marked then .advance else .boundary } }
            ∧ t.rolls[st].map.map (fun m' => (m'.roll, m'.stock, m'.gate, m'.header, m'.closing))
              = some (m.roll, m.stock, m.gate, m.header, m.closing)
            ∧ ∃ m', t.rolls[st].map = some m' ∧ m'.frames.map (·.number)
                = (m.frames.map (·.number)).filter (fun n => decide (n < if marked then m.gate + 1 else m.gate))
              ∧ (spoils = true → isMarked m' m.gate = true)
              ∧ ((∃ x ∈ m.frames, (if marked then m.gate + 1 else m.gate) ≤ x.number) →
                  m'.next = if marked then m.gate + 1 else m.gate))
      ∧ (freePlaces s.eq = 0 → s.eq.records.length + s.eq.reserved + s.eq.given.length = 16 → 1 ≤ s.eq.reserved →
        Completes (exec .abort s) fun t =>
          t.stations[st].state = .suspended ∧ t.stations[st].pendingPost.isSome = true
            ∧ t.stations[st].susp.requestHeld = false ∧ t.stations[st].susp.step = .awaiting
            ∧ t.stations[st].susp.releaseOwed = s.stations[st].susp.releaseOwed
            ∧ t.stations[st].susp.notedShot = s.stations[st].susp.notedShot
            ∧ (headOf t st).map (·.outcome) = some (some .aborted) ∧ t.ring.asks[st] = none
            ∧ t.eq.records = s.eq.records ++ [.result f.tag .done []]
            ∧ t.eq.waiters = s.eq.waiters ++ [.requestDone st]))
    ∧ ((∀ q, headOf s st = some q →
          (q.state ≠ .running ∧ q.state ≠ .suspended) ∨ q.abort = true ∨ q.outcome.isSome = true) →
      Completes (exec .abort s) fun t => Refused s t f .wrongState)

/-- An ABORT that finds the only request of a HELD station: the frames from the gate frame up leave the map, and the request ends
ABORTED with its REQUEST_DONE after the DONE; the station is READY on its roll. -/
def Obligations.AbortInHeldEndsRequest : Prop :=
  ∀ (s : State) (f : LinkFrame) (st : St) (q : Request) (r : Reserved) (m : RollMap) (b : Binding) (i : Fin 16) (o : Order),
    Steady s → Hands s f 0x26 [u8 (st.val + 1), 0x03] → s.stations[st].state = .held →
    s.stations[st].pendingPost = none → s.stations[st].rollEnd = false → s.stations[st].queue = [q] →
    q.state = .running → q.abort = false → q.outcome = none → q.frames = some r → r.roll = m.roll →
    s.rolls[st].map = some m → m.closing = none →
    (∀ x ∈ m.frames, m.gate ≤ x.number → x.state = .reserved) →
    BoundUp s st b → s.stations[st].leftUp = false → OrderAt s i o → o.terms.number = q.order → o.closing = false →
    s.composer.headerList = [] → s.composer.labelWaiters = [] → 1 ≤ s.eq.reserved → Room s 1 →
    (∃ x ∈ m.frames, m.gate ≤ x.number) →
    Completes (exec .abort s) fun t =>
      Answered s t f .done []
          [.event q.tag (.requestDone q.order q.original r.first r.count q.exposed q.spoiled .aborted)]
        ∧ t.stations[st].queue = [] ∧ t.stations[st].state = .ready ∧ t.stations[st].phase = none
        ∧ OthersSame st s.stations t.stations ∧ OthersSame st s.rolls t.rolls
        ∧ t.rolls[st].map = some { m with frames := m.frames.filter fun x => decide (x.number < m.gate), next := m.gate }
        ∧ OnlyChanges [.port, .inHand, .eventQueue, .stations, .rolls, .orders, .accounts, .composer, .devices, .ring] s t

/-- UNLOAD of a READY station whose head does not run starts an unload: the station is UNLOADING, its camera busy, and a REWIND
is asked for; UNLOAD of a SUSPENDED station whose camera is not UP is refused with DEVICE_DOWN, and without an open map with
WRONG_STATE. That the cleared suspension record stands in phase BOUNDARY is the model's choice (assumption log 27). -/
def Obligations.UnloadRule : Prop :=
  ∀ (s : State) (f : LinkFrame) (st : St), Hands s f 0x26 [u8 (st.val + 1), 0x04] →
    (∀ (m : RollMap) (b : Binding), Steady s → s.stations[st].state = .ready → s.stations[st].rollCheck = false →
      s.stations[st].queue = [] → s.stations[st].pendingPost = none → s.rolls[st].map = some m → m.closing = none →
      BoundUp s st b →
      Completes (exec .unload s) fun t =>
        OnlyChanges [.port, .inHand, .eventQueue, .stations, .devices, .ring] s t ∧ Answered s t f .done [] []
          ∧ OthersSame st s.stations t.stations ∧ t.stations[st].state = .unloading
          ∧ t.stations[st].phase = none ∧ t.stations[st].susp = ⟨.boundary, false, false, none, .awaiting⟩
          ∧ t.ring.asks[st] = some ⟨b.camera, 0x06, [], .rewind⟩ ∧ OthersSame st s.ring.asks t.ring.asks
          ∧ ∀ (i : Fin 16) d, t.devices[i] = some d → d.addr = b.camera → deviceIdx s d.addr = some i → d.busy = true)
    ∧ (∀ m, s.rolls[st].map = some m → m.closing = none → s.stations[st].pendingPost = none →
        s.stations[st].state = .suspended → s.stations[st].susp.requestHeld = false →
        s.stations[st].susp.step = .awaiting → isUp s (cameraOf s st) = false →
        Completes (exec .unload s) fun t => Refused s t f .deviceDown)
    ∧ (s.rolls[st].map = none ∨ s.stations[st].pendingPost.isSome = true ∨ s.stations[st].state = .disabled
        ∨ s.stations[st].state = .offline ∨ s.stations[st].state = .noRoll ∨ s.stations[st].state = .waitingFilm
        ∨ s.stations[st].state = .unloading ∨ s.stations[st].state = .running ∨ s.stations[st].state = .held
        ∨ (s.stations[st].state = .suspended ∧ s.stations[st].susp.requestHeld = true)
        ∨ (s.stations[st].state = .ready ∧ s.stations[st].rollCheck = true) →
      Completes (exec .unload s) fun t => Refused s t f .wrongState)

/-! ### The other management requests -/

/-- ACCOUNT_READ, whole (R107): its refusals in order, and the values that its DONE carries. ACCOUNT_CLEAR: checked as ACCOUNT_READ;
spent becomes 0, and the DONE carries the amount cleared (R108). -/
def Obligations.AccountReadAndClearRules : Prop :=
  (∀ (s : State) (f : LinkFrame), Live s → InHandIs s f .manage → f.kind = 0x27 →
      (f.payload.length ≠ 4 → Completes (exec .accountRead s) fun t => Refused s t f .badLength)
      ∧ ∀ n : Nat, n ≤ 4294967295 → f.payload = be32 n →
        (n = 0 ∨ 16777215 < n → Completes (exec .accountRead s) fun t => Refused s t f .badField)
        ∧ (n ≠ 0 → n ≤ 16777215 → (∀ j a, s.accounts[(j : Fin 32)] = some a → a.number ≠ n) →
            Completes (exec .accountRead s) fun t => Refused s t f .noAccount)
        ∧ ∀ (j : Fin 32) (a : Account), n ≠ 0 → n ≤ 16777215 → AccountAt s j a → a.number = n →
            Completes (exec .accountRead s) fun t => Reported s t f
              (be24 n ++ be32 (a.ceiling.getD 4294967295) ++ be32 a.spent ++ be32 a.held ++ [u8 a.openOrders]
                ++ [match tariffClass s n with | some (c, _) => u8 c.val | none => 0xFF]))
  ∧ (∀ (s : State) (f : LinkFrame), Live s → InHandIs s f .manage → f.kind = 0x28 →
      (f.payload.length ≠ 4 → Completes (exec .accountClear s) fun t => Refused s t f .badLength)
      ∧ ∀ n : Nat, n ≤ 4294967295 → f.payload = be32 n →
        (n = 0 ∨ 16777215 < n → Completes (exec .accountClear s) fun t => Refused s t f .badField)
        ∧ (n ≠ 0 → n ≤ 16777215 → (∀ j a, s.accounts[(j : Fin 32)] = some a → a.number ≠ n) →
            Completes (exec .accountClear s) fun t => Refused s t f .noAccount)
        ∧ ∀ (j : Fin 32) (a : Account), n ≠ 0 → n ≤ 16777215 → AccountAt s j a → a.number = n →
            Completes (exec .accountClear s) fun t =>
              OnlyChanges [.port, .inHand, .eventQueue, .accounts] s t ∧ Answered s t f .done (be32 a.spent) []
                ∧ t.accounts = s.accounts.set j.val (some { a with spent := 0 }) j.isLt)

/-- FAULT_READ (R198): the DONE carries the record, LOST and whether the notice still waited; the capture is then empty, and a
waiting notice is withdrawn. -/
def Obligations.FaultReadRule : Prop :=
  ∀ (s : State) (f : LinkFrame), Live s → InHandIs s f .manage → f.kind = 0x29 →
    (f.payload ≠ [] → Completes (exec .faultRead s) fun t => Refused s t f .badLength)
    ∧ (f.payload = [] →
      (s.capture = ⟨none, false, .none⟩ → Completes (exec .faultRead s) fun t => Reported s t f [0x00])
      ∧ ∀ (x : FaultRecord) (lost : Bool),
        (s.capture = ⟨some x, lost, .posted⟩ → Completes (exec .faultRead s) fun t =>
          OnlyChanges [.port, .inHand, .eventQueue, .capture] s t ∧ t.capture = ⟨none, false, .none⟩
            ∧ Answered s t f .done ((if lost then 0x03 else 0x01) :: faultBytes x) [])
        ∧ (s.capture = ⟨some x, lost, .waiting⟩ → Waiter.faultNotice ∉ s.eq.given →
            s.eq.records.length + s.eq.reserved + s.eq.given.length = 16 → 1 ≤ s.eq.reserved →
            Completes (exec .faultRead s) fun t =>
              OnlyChanges [.port, .inHand, .eventQueue, .capture] s t ∧ t.capture = ⟨none, false, .none⟩
                ∧ t.eq.records = s.eq.records ++ [.result f.tag .done ((if lost then 0x07 else 0x05) :: faultBytes x)]
                ∧ t.eq.waiters = s.eq.waiters.erase .faultNotice ∧ t.eq.given = s.eq.given))

/-- PRINT_BARRIER, whole (R132): BAD_LENGTH for a payload, WRONG_STATE while a barrier is pending, DONE at once with no strip
listed, and else pending with the number of strips as its count, its tag kept and no RESULT sent. -/
def Obligations.PrintBarrierRule : Prop :=
  ∀ (s : State) (f : LinkFrame), Live s → InHandIs s f .manage → f.kind = 0x2A →
    (f.payload ≠ [] → Completes (exec .printBarrier s) fun t => Refused s t f .badLength)
    ∧ (f.payload = [] →
      (s.composer.barrierCount.isSome = true → Completes (exec .printBarrier s) fun t => Refused s t f .wrongState)
      ∧ (s.composer.barrierCount = none → s.composer.strips = [] →
          Completes (exec .printBarrier s) fun t => Reported s t f [])
      ∧ (s.composer.barrierCount = none → s.composer.strips ≠ [] →
          exec .printBarrier s = .next { s with
            inHand := none, deferred := some f.tag
            composer := { s.composer with barrierCount := some s.composer.strips.length } }))

/-- STATUS_READ (R174, R205): the STAND section is 34 bytes after its section byte, a DEVICES section 48, each station, count and
entry at its place; nothing else changes. Another length is refused with BAD_LENGTH and another section with BAD_FIELD, by each of
the three rows (inferred, assumption log 39). That a place given to a waiter counts neither as a record nor as reserved is inferred
(log 32). That P and N of a closing map are reported until its ROLL_REPORT is queued is the model's choice (log 49). -/
def Obligations.StatusReads : Prop :=
  ∀ c section_, (c, section_) ∈
      ([(.statusReadStand, 0x01), (.statusReadDevicesLow, 0x02), (.statusReadDevicesHigh, 0x03)] : List (Instr × Byte)) →
    ∀ (s : State) (f : LinkFrame), Live s → InHandIs s f .manage → f.kind = 0x2B →
      (f.payload.length ≠ 1 → Completes (exec c s) fun t => Refused s t f .badLength)
      ∧ (∀ b : Byte, f.payload = [b] → b.toNat = 0 ∨ 3 < b.toNat →
          Completes (exec c s) fun t => Refused s t f .badField)
      ∧ (f.payload = [section_] → ∃ data : List Byte,
          (Completes (exec c s) fun t => Reported s t f (section_ :: data))
          ∧ data.length = (if section_ = 0x01 then 34 else 48)
          ∧ (section_ = 0x01 → (∀ st : St, (data.drop (6 * st.val)).take 6 =
                [s.stations[st].state.code, s.stations[st].state.waitingCode,
                  u8 ((s.rolls[st].map.map (·.gate)).getD 0), u8 ((s.rolls[st].map.map (·.next)).getD 0),
                  u8 s.stations[st].queue.length, closeCode s.rolls[st].lastClose])
              ∧ data.drop 24 = be16 (freeCount s.composer) ++ be16 s.composer.strips.length
                ++ [s.composer.print.code, (if s.composer.barrierCount.isSome then 1 else 0), u8 s.eq.records.length,
                  u8 s.eq.reserved, (if s.capture.record.isSome then 1 else 0),
                  u8 ((if s.pins.addrSel then 1 else 0) + (if s.pins.consoleRate then 2 else 0))])
          ∧ ∀ i : Fin 16, (section_ = 0x02 ∧ i.val < 8 ∨ section_ = 0x03 ∧ 8 ≤ i.val) →
              (data.drop (6 * (i.val % 8))).take 6 = (match s.devices[i] with
                | none => [0, 0, 0, 0, 0, 0]
                | some d => [1, d.addr, d.cls.code, d.link.code] ++ be16 d.failedWakes))

/-- What a RESTART leaves in every block (R20, R42, R56, R85, R110, R135, R159, R175, R176, R199): orders, maps, queues, holds,
store, strips, records and capture dropped; tables, ceilings and spent sums kept; the CANCELLED of a pending barrier and the DONE
are the records, and a pending BUSY waits behind them (R176). That the cleared suspension record stands in phase BOUNDARY with no
request held is the model's choice (assumption log 27). -/
def Obligations.RestartState : Prop :=
  ∀ (s : State) (f : LinkFrame), Live s → EngineBusy s → InHandIs s f .manage → f.kind = 0x2C →
    (f.payload ≠ [] → Completes (exec .restart s) fun t => Refused s t f .badLength)
    ∧ (f.payload = [] → Completes (exec .restart s) fun t =>
        OnlyChanges [.port, .inHand, .deferred, .eventQueue, .orders, .stations, .rolls, .accounts, .composer, .devices,
          .ring, .slot, .capture] s t
        ∧ (∀ i : Fin 16, t.orders[i] = none)
        ∧ (∀ st : St, t.rolls[st] = ⟨none, 0, false, false, false,
              if s.rolls[st].map.isSome then some .restart else s.rolls[st].lastClose⟩
            ∧ t.stations[st] = {
                state := if s.stations[st].state = .disabled then .disabled else .offline
                queue := [], phase := none, rollCheck := false, rollEnd := false, pendingPost := none
                pollTimer := false, shotLimit := none, advanceLimit := false, rewindLimit := false, gap := none, waits := 0
                leftUp := false, susp := ⟨.boundary, false, false, none, .awaiting⟩ })
        ∧ (∀ j : Fin 32, t.accounts[j] = s.accounts[j].map fun a => { a with held := 0, openOrders := 0 })
        ∧ t.composer = {
            templates := s.composer.templates, stand := s.composer.stand, slots := Vector.replicate 320 .free
            strips := [], headerList := [], labelWaiters := [], print := .idle, sent := false, again := false
            heldPause := none, printLimit := false, pollTimer := false, gap := none, waits := 0, condition := none
            attention := false, pendingPost := none, barrierCount := none }
        ∧ (∀ i : Fin 16, t.devices[i] = s.devices[i].map fun d =>
            { d with link := .absent, failedWakes := 0, mismatchNoted := false, busy := false, idleTimer := false
                     wakeTimer := false, dueWake := true, duePoll := false })
        ∧ (∀ st : St, t.ring.asks[st] = none) ∧ t.ring.composerAsk = none ∧ t.ring.heldReports = []
        ∧ t.ring.lastGranted = s.ring.lastGranted ∧ t.ring.lastServed = s.ring.lastServed
        ∧ (∀ x, t.ring.engine = some x → x.void = true)
        ∧ t.slot = .empty ∧ t.capture = ⟨none, false, .none⟩ ∧ t.deferred = none ∧ t.inHand = none
        ∧ t.eq = ⟨(match s.deferred with | some tag => [.result tag .cancelled []] | none => [])
            ++ [.result f.tag .done []], 0, [], []⟩
        ∧ t.port.pool = s.port.pool ∧ t.port.rx = s.port.rx ∧ t.port.sending.isSome = true ∧ attn t = false
        ∧ t.port.busy = s.port.busy ∧ t.port.beforeBusy = t.eq.records.length
        ∧ ∀ x, s.port.sending = some x → t.port.sending = some { x with holdsPlace := false })

/-! ### The ring -/

/-- The reply to a WAKE (R141, R142): a READY of the entry's class makes the entry UP, and the OFFLINE station that waited for the
device is NO_ROLL, or READY with its roll check sent. The READY's status is the first report: a camera's that agrees with the map
serves that check and one without a roll ends the notes of an insertion (R24, R63), and a printer's gives the Composer its condition
(R125). A READY of another class leaves the entry ABSENT and captures CLASS_MISMATCH once; any other reply puts it back to ABSENT or
LOST, its failed-wake count raised and its wake timer started. Inferred are that the served check withdraws its ask and its gap
(assumption log 15), that a mismatch is taken whatever follows the class byte (log 10), and that STATUS_REPLY_RECEIVED brings the
other reply kinds (log 8). -/
def Obligations.WakeReplies : Prop :=
  ∀ (s : State) (t : Transaction) (d : Device) (f : LinkFrame) (wasLost : Bool), AnswersOpen s t d f →
    t.requester = .idlePoller → t.purpose = .wake → d.link = .waking wasLost →
    (∀ condition : Byte, f.kind = 0x10 → (d.cls = .other ∧ f.payload = [0x04, condition, 0x00]
        ∨ d.cls = .lamp ∧ f.payload = [0x02, condition, 0x00]) →
      (Unbound s d.addr →
        Completes (exec (.readyReceived f.wire) s) fun u => OnlyChanges [.devices, .ring] s u
          ∧ u.ring = { s.ring with engine := none }
          ∧ u.devices = s.devices.set t.entry.val (some { d with
              link := .up, failedWakes := 0, mismatchNoted := false, wakeTimer := false, dueWake := false
              idleTimer := true, duePoll := false, busy := false }) t.entry.isLt)
      ∧ ∀ (st : St) (b : Binding) (i : Fin 16) (camera : Device), boundStation s d.addr = some st →
        s.bindings[st].binding = some b → b.lamp = d.addr → DeviceAt s i camera → camera.addr = b.camera →
        camera.link = .up → s.stations[st].state = .offline → s.stations[st].pendingPost = none →
        s.stations[st].queue = [] →
        (∀ st' b', st' ≠ st → s.bindings[(st' : St)].binding = some b' → b'.camera ≠ d.addr ∧ b'.lamp ≠ d.addr) →
        (s.rolls[st].map = none → Completes (exec (.readyReceived f.wire) s) fun u =>
          OnlyChanges [.devices, .ring, .stations] s u ∧ OthersSame st s.stations u.stations
            ∧ u.ring = { s.ring with engine := none } ∧ isUp u d.addr = true
            ∧ u.stations[st] = { s.stations[st] with state := .noRoll })
        ∧ ∀ m, s.rolls[st].map = some m → m.opening = false → Completes (exec (.readyReceived f.wire) s) fun u =>
          OnlyChanges [.devices, .ring, .stations] s u ∧ OthersSame st s.stations u.stations ∧ isUp u d.addr = true
            ∧ u.stations[st] = { s.stations[st] with state := .ready, rollCheck := true, gap := none, waits := 0 }
            ∧ u.ring = { s.ring with
                engine := some (granted s (.station st) i camera .rollCheck 0x02 []), lastGranted := .station st })
    ∧ (∀ (condition flags : Byte) (k : Condition), f.kind = 0x10 → d.cls = .printer → f.payload = [0x03, condition, flags] →
        (condition, k) ∈ ([(0x00, .ready), (0x01, .busy), (0x02, .outOfStock)] : List (Byte × Condition)) → flags.toNat ≤ 1 →
        Unbound s d.addr → s.composer.print = .idle →
        Completes (exec (.readyReceived f.wire) s) fun u => OnlyChanges [.devices, .ring, .composer] s u
          ∧ u.ring = { s.ring with engine := none }
          ∧ u.composer = { s.composer with condition := some k, attention := decide (k = .outOfStock) }
          ∧ u.devices = s.devices.set t.entry.val (some { d with
              link := .up, failedWakes := 0, mismatchNoted := false, wakeTimer := false, dueWake := false
              idleTimer := true, duePoll := false, busy := false }) t.entry.isLt)
    ∧ (∀ (st : St) (b : Binding) (i : Fin 16) (lamp : Device) (flags stock gate : Byte), f.kind = 0x10 → d.cls = .camera →
        f.payload = [0x01, flags, stock, gate] → StatusParses .camera [flags, stock, gate] → boundStation s d.addr = some st →
        cameraStation s d.addr = some st → s.bindings[st].enabled = true → s.bindings[st].binding = some b →
        b.camera = d.addr → DeviceAt s i lamp → lamp.addr = b.lamp → lamp.link = .up → s.stations[st].state = .offline →
        s.stations[st].pendingPost = none → s.stations[st].queue = [] →
        (∀ st' b', st' ≠ st → s.bindings[(st' : St)].binding = some b' → b'.camera ≠ d.addr ∧ b'.lamp ≠ d.addr) →
        (flags.getLsbD 0 = false → s.rolls[st].map = none → Completes (exec (.readyReceived f.wire) s) fun u =>
          OnlyChanges [.devices, .ring, .stations, .rolls] s u ∧ OthersSame st s.stations u.stations
            ∧ OthersSame st s.rolls u.rolls ∧ u.ring = { s.ring with engine := none } ∧ isUp u d.addr = true
            ∧ u.stations[st] = { s.stations[st] with state := .noRoll }
            ∧ u.rolls[st] = { s.rolls[st] with removalRequired := false, insertionReported := false })
        ∧ ∀ m, s.rolls[st].map = some m → m.opening = false → m.closing = none → flags.getLsbD 0 = true →
          stock.toNat = m.stock → gate.toNat = m.gate → Completes (exec (.readyReceived f.wire) s) fun u =>
            OnlyChanges [.devices, .ring, .stations] s u ∧ OthersSame st s.stations u.stations
              ∧ u.ring = { s.ring with engine := none } ∧ isUp u d.addr = true
              ∧ u.stations[st] = { s.stations[st] with state := .ready, rollCheck := false, gap := none, waits := 0 })
    ∧ (∀ c status, f.kind = 0x10 → f.payload = c :: status → c ≠ d.cls.code →
        (d.mismatchNoted = false → s.capture.record = none → Room s 1 →
          Completes (exec (.readyReceived f.wire) s) fun u =>
            OnlyChanges [.devices, .ring, .capture, .eventQueue, .port] s u ∧ u.ring = { s.ring with engine := none }
              ∧ u.capture.record = some ⟨.classMismatch, d.addr, 0x01, boundStation s d.addr, none, none, none⟩
              ∧ u.capture.notice = .posted
              ∧ Posted s u
                [.event 0 (.faultNotice ⟨.classMismatch, d.addr, 0x01, boundStation s d.addr, none, none, none⟩)]
              ∧ u.devices = s.devices.set t.entry.val (some { d with
                  link := .absent, failedWakes := min (d.failedWakes + 1) 65535, wakeTimer := true, mismatchNoted := true
                  }) t.entry.isLt)
        ∧ (d.mismatchNoted = true → Completes (exec (.readyReceived f.wire) s) fun u =>
            OnlyChanges [.devices, .ring] s u ∧ u.ring = { s.ring with engine := none }
              ∧ u.devices = s.devices.set t.entry.val (some { d with
                  link := .absent, failedWakes := min (d.failedWakes + 1) 65535, wakeTimer := true }) t.entry.isLt))
    ∧ ∀ c : Instr, (c = .ackReceived f.wire ∧ f.kind = 0x11 ∨ c = .waitReceived f.wire ∧ f.kind = 0x12
          ∨ c = .nakReceived f.wire ∧ f.kind = 0x13
          ∨ c = .statusReplyReceived f.wire ∧ f.kind = 0x14 ∧ StatusParses d.cls f.payload) →
        Completes (exec c s) fun u => OnlyChanges [.devices, .ring] s u ∧ u.ring = { s.ring with engine := none }
          ∧ u.devices = s.devices.set t.entry.val (some { d with
              link := if wasLost then .lost else .absent, failedWakes := min (d.failedWakes + 1) 65535, wakeTimer := true
              }) t.entry.isLt

/-- ACKs to a station's requests (R75, R76, R79): the ACK to a LAMP_SET moves the phase to SHOOT, and the SHOOT is sent with the
camera's next tag; the ACK to a SHOOT starts the shot limit of the record's times and the poll timer in SHOT_WAIT; the ACK to an
ADVANCE starts the advance limit and the poll timer in ADVANCE_WAIT. -/
def Obligations.AcksMovePhases : Prop :=
  ∀ (s : State) (t : Transaction) (st : St) (q : Request) (m : RollMap) (ph : Phase) (d : Device) (f : LinkFrame),
    Live s → Settled s → NoAsk s → Runs s t → t.requester = .station st → DeviceAt s t.entry d → d.busy = true →
    RunsFrame s st q m ph → Answers t f → f.kind = 0x11 →
    (t.purpose = .shoot → t.request.kind = 0x04 → ph = .shoot → ∀ r, gateRecord s st = some r →
      Completes (exec (.ackReceived f.wire) s) fun u =>
        OnlyChanges [.stations, .ring] s u ∧ u.ring = { s.ring with engine := none } ∧ OthersSame st s.stations u.stations
          ∧ u.stations[st].state = .running ∧ u.stations[st].queue = s.stations[st].queue
          ∧ u.stations[st].phase = some .shotWait ∧ u.stations[st].pollTimer = true ∧ u.stations[st].waits = 0
          ∧ u.stations[st].shotLimit = some ((r.times.r + r.times.g + r.times.b + 9) / 10 + 2000))
    ∧ (t.purpose = .advance → t.request.kind = 0x05 → ph = .advance →
      Completes (exec (.ackReceived f.wire) s) fun u =>
        OnlyChanges [.stations, .ring] s u ∧ u.ring = { s.ring with engine := none } ∧ OthersSame st s.stations u.stations
          ∧ u.stations[st].state = .running ∧ u.stations[st].queue = s.stations[st].queue
          ∧ u.stations[st].phase = some .advanceWait ∧ u.stations[st].pollTimer = true
          ∧ u.stations[st].advanceLimit = true ∧ u.stations[st].shotLimit = none)
    ∧ (t.purpose = .lampSet → t.request.kind = 0x03 → ph = .lampSet → ∀ b i camera, BoundUp s st b → DeviceAt s i camera →
      camera.addr = b.camera →
      Completes (exec (.ackReceived f.wire) s) fun u =>
        OnlyChanges [.stations, .ring, .devices] s u ∧ OthersSame st s.stations u.stations
          ∧ u.stations[st].phase = some .shoot ∧ u.stations[st].queue = s.stations[st].queue
          ∧ u.devices = s.devices.set i.val (some { camera with tag := camera.tag + 1 }) i.isLt
          ∧ u.ring = { s.ring with
              engine := some ⟨.station st, i, camera.cls, .shoot,
                ⟨b.camera, ownAddress s.pins, 0x04, camera.tag + 1, []⟩, 1, false, false, false, 0⟩
              lastGranted := .station st })

/-- A WAIT to a request of a station's own starts the WAIT gap and is counted, in every phase of a frame, at a REWIND and its polls,
and at a roll check; the 200th in a row suspends the station where it stands, with WAIT_LIMIT captured and release owed, and leaves
a roll check pending with nothing captured (R38, R63, R73, R182, R183). -/
def Obligations.WaitsAreCounted : Prop :=
  ∀ (s : State) (t : Transaction) (st : St) (d : Device) (f : LinkFrame), AnswersOpen s t d f →
    t.requester = .station st → f.kind = 0x12 →
    (∀ (q : Request) (m : RollMap) (ph : Phase) (kind : Byte) (sp : SuspendedPhase), d.busy = true →
      RunsFrame s st q m ph → (t.purpose, kind, ph, sp) ∈
        ([(.lampSet, 0x03, .lampSet, .lampSet), (.shoot, 0x04, .shoot, .shoot), (.shotPoll, 0x02, .shotWait, .shotWait),
          (.advance, 0x05, .advance, .advance), (.advancePoll, 0x02, .advanceWait, .advanceWait)] :
          List (Purpose × Byte × Phase × SuspendedPhase)) →
      (s.stations[st].waits < 199 → Completes (exec (.waitReceived f.wire) s) fun u =>
        OnlyChanges [.stations, .ring] s u ∧ u.ring = { s.ring with engine := none } ∧ OthersSame st s.stations u.stations
          ∧ u.stations[st] = { s.stations[st] with waits := s.stations[st].waits + 1, gap := some t.purpose })
      ∧ (199 ≤ s.stations[st].waits → s.capture.record = none → Room s 1 →
        Completes (exec (.waitReceived f.wire) s) fun u =>
          OthersSame st s.stations u.stations ∧ u.stations[st].state = .suspended ∧ u.stations[st].phase = none
            ∧ u.stations[st].waits = 0 ∧ u.stations[st].susp = ⟨sp, true, true, none, .awaiting⟩
            ∧ headOf u st = some { q with state := .suspended } ∧ u.ring.engine = none
            ∧ u.capture.record = some ⟨.waitLimit, if ph = .lampSet then lampOf s st else cameraOf s st, kind, some st,
                some q.order, some m.gate, none⟩
            ∧ OnlyChanges [.stations, .ring, .devices, .capture, .eventQueue, .port] s u))
    ∧ (∀ kind : Byte, d.busy = true → s.stations[st].state = .unloading → s.stations[st].pendingPost = none →
        s.stations[st].queue = [] → closeUnderWay s st = false →
        (t.purpose = .rewind ∧ kind = 0x06 ∨ t.purpose = .rewindPoll ∧ kind = 0x02) →
        (s.stations[st].waits < 199 → Completes (exec (.waitReceived f.wire) s) fun u =>
          OnlyChanges [.stations, .ring] s u ∧ u.ring = { s.ring with engine := none }
            ∧ OthersSame st s.stations u.stations
            ∧ u.stations[st] = { s.stations[st] with waits := s.stations[st].waits + 1, gap := some t.purpose })
        ∧ (199 ≤ s.stations[st].waits → s.capture.record = none → Room s 1 →
          Completes (exec (.waitReceived f.wire) s) fun u =>
            OthersSame st s.stations u.stations ∧ u.stations[st].state = .suspended
              ∧ u.stations[st].susp = ⟨.unload, false, true, none, .awaiting⟩ ∧ u.ring.engine = none
              ∧ u.capture.record = some ⟨.waitLimit, cameraOf s st, kind, some st, none, none, none⟩
              ∧ OnlyChanges [.stations, .ring, .devices, .capture, .eventQueue, .port] s u))
    ∧ (t.purpose = .rollCheck → s.stations[st].rollCheck = true → s.stations[st].pendingPost = none →
        Completes (exec (.waitReceived f.wire) s) fun u =>
          OnlyChanges [.stations, .ring, .devices] s u ∧ u.ring = { s.ring with engine := none }
            ∧ OthersSame st s.stations u.stations
            ∧ u.stations[st] = (if s.stations[st].waits < 199 then
                { s.stations[st] with waits := s.stations[st].waits + 1, gap := some .rollCheck }
              else { s.stations[st] with waits := 0 }))

/-- A NAK to a LAMP_SET, SHOOT or ADVANCE suspends the station in its phase with release owed: a LAMP_SET's with reason 01h is
captured as LAMP_FAIL, every other as DEVICE_NAK, each with its reason; a NAK to a REWIND suspends the unload in the same way; a NAK
to a poll in SHOT_WAIT or ADVANCE_WAIT only starts the poll timer again, and one to a roll check leaves it pending (R38, R63, R75,
R76, R79, R182 to R184). -/
def Obligations.NakSuspendsStation : Prop :=
  ∀ (s : State) (t : Transaction) (st : St) (d : Device) (f : LinkFrame), AnswersOpen s t d f →
    t.requester = .station st → f.kind = 0x13 → ∀ reason : Byte, f.payload.headD 0 = reason →
    (∀ (q : Request) (m : RollMap) (ph : Phase) (kind : Byte) (sp : SuspendedPhase), d.busy = true →
      RunsFrame s st q m ph → (t.purpose, kind, ph, sp) ∈
        ([(.lampSet, 0x03, .lampSet, .lampSet), (.shoot, 0x04, .shoot, .shoot), (.advance, 0x05, .advance, .advance)] :
          List (Purpose × Byte × Phase × SuspendedPhase)) →
      s.capture.record = none → Room s 1 →
      Completes (exec (.nakReceived f.wire) s) fun u =>
        OnlyChanges [.stations, .ring, .devices, .capture, .eventQueue, .port] s u ∧ OthersSame st s.stations u.stations
          ∧ u.stations[st].state = .suspended ∧ u.stations[st].phase = none ∧ u.stations[st].pollTimer = false
          ∧ u.stations[st].susp = ⟨sp, true, true, none, .awaiting⟩
          ∧ headOf u st = some { q with state := .suspended } ∧ u.ring.engine = none
          ∧ ∃ x, u.capture.record = some x
            ∧ x.kind = (if ph = .lampSet ∧ reason = 0x01 then .lampFail else .deviceNak)
            ∧ x.address = (if ph = .lampSet then lampOf s st else cameraOf s st) ∧ x.frameKind = kind
            ∧ x.station = some st ∧ x.order = some q.order ∧ x.frame = some m.gate ∧ x.nakReason = some reason
            ∧ Posted s u [.event 0 (.faultNotice x)])
    ∧ (t.purpose = .rewind → d.busy = true → s.stations[st].state = .unloading → s.stations[st].pendingPost = none →
        s.stations[st].queue = [] → closeUnderWay s st = false → s.capture.record = none → Room s 1 →
        Completes (exec (.nakReceived f.wire) s) fun u =>
          OnlyChanges [.stations, .ring, .devices, .capture, .eventQueue, .port] s u ∧ OthersSame st s.stations u.stations
            ∧ u.stations[st].state = .suspended ∧ u.stations[st].susp = ⟨.unload, false, true, none, .awaiting⟩
            ∧ u.ring.engine = none
            ∧ u.capture.record = some ⟨.deviceNak, cameraOf s st, 0x06, some st, none, none, some reason⟩)
    ∧ (∀ (q : Request) (m : RollMap) (ph : Phase), d.busy = true → RunsFrame s st q m ph →
        (t.purpose = .shotPoll ∧ ph = .shotWait ∨ t.purpose = .advancePoll ∧ ph = .advanceWait) →
        Completes (exec (.nakReceived f.wire) s) fun u =>
          OnlyChanges [.stations, .ring] s u ∧ u.ring = { s.ring with engine := none }
            ∧ OthersSame st s.stations u.stations
            ∧ u.stations[st] = { s.stations[st] with pollTimer := true, waits := 0 })
    ∧ (t.purpose = .rollCheck → s.stations[st].rollCheck = true → s.stations[st].pendingPost = none →
        Completes (exec (.nakReceived f.wire) s) fun u =>
          OnlyChanges [.stations, .ring, .devices] s u ∧ u.ring = { s.ring with engine := none }
            ∧ OthersSame st s.stations u.stations ∧ u.stations[st] = { s.stations[st] with waits := 0 })

/-- A poll's report of SHOT without the lamp-fault flag marks the gate frame EXPOSED (R29, R77): its hold moves from held to spent
and is charged to the order, whose exposed count rises; its slot takes the frame label of the order's template (R117); the request
counts it; and the station's ADVANCE is sent. A poll's report of ADVANCED with gate frame P + 1 moves P on (R30, R80): with frames
left the station stands at the next frame boundary, with the next step or copy, and is HELD on an asserted hold line or sends the
next LAMP_SET; after the last frame the request ends COMPLETE; past the end of the roll it starts an unload too (R83). A report
that fails the check of R81 suspends the station, whose resume begins at once with both devices UP; one without film ends the notes
of an insertion (R24). That the failed report does not serve the check, so that the resume sends a STATUS of its own, is inferred
(assumption log 14). -/
def Obligations.ShotReportExposesFrame : Prop :=
  (∀ (s : State) (t : Transaction) (st : St) (q : Request) (m : RollMap) (d : Device) (b : Binding) (f : LinkFrame)
    (r : FrameRec) (k : Fin 16) (o : Order) (j : Fin 32) (a : Account),
    Live s → Settled s → NoAsk s → Runs s t → t.requester = .station st → t.purpose = .shotPoll → t.request.kind = 0x02 →
    t.cls = .camera → DeviceAt s t.entry d → d.cls = .camera → d.addr = b.camera → d.busy = true → d.idleTimer = false →
    BoundUp s st b → cameraStation s d.addr = some st → s.bindings[st].enabled = true →
    (∀ i l, DeviceAt s i l → l.addr = b.lamp → l.busy = true ∧ l.idleTimer = false) →
    RunsFrame s st q m .shotWait → recordAt m m.gate = some r → r.state = .reserved → m.stock ≤ 255 → m.gate ≤ 255 →
    OrderAt s k o → o.terms.number = r.order → AccountAt s j a → a.number = o.terms.account →
    Answers t f → f.kind = 0x14 → f.payload = [0x03, u8 m.stock, u8 m.gate] →
    Completes (exec (.statusReplyReceived f.wire) s) fun u =>
      OnlyChanges [.stations, .rolls, .orders, .accounts, .composer, .devices, .ring] s u
        ∧ OthersSame st s.stations u.stations ∧ OthersSame st s.rolls u.rolls
        ∧ u.rolls[st].map = some { m with frames := m.frames.map fun x =>
            if x.number = m.gate then { x with state := .exposed } else x }
        ∧ u.accounts = s.accounts.set j.val
            (some { a with held := a.held - r.hold, spent := min (a.spent + r.hold) 4294967295 }) j.isLt
        ∧ u.orders = s.orders.set k.val
            (some { o with
              charged := min (o.charged + r.hold) 4294967295, exposed := min (o.exposed + 1) 4294967295 }) k.isLt
        ∧ u.composer = { s.composer with
            slots := s.composer.slots.set r.slot.val
              (.composed (.frame st r.number) (frameLabel s.composer.templates[o.terms.template] s.composer.stand o
                ((s.plans[o.terms.plan]).getD []) m.roll r)) r.slot.isLt }
        ∧ u.stations[st].state = .running ∧ u.stations[st].phase = some .advance
        ∧ u.stations[st].shotLimit = none ∧ u.stations[st].pollTimer = false
        ∧ headOf u st = some { q with exposed := q.exposed + 1 }
        ∧ u.devices = s.devices.set t.entry.val (some { d with tag := d.tag + 1 }) t.entry.isLt
        ∧ u.ring = { s.ring with
            engine := some ⟨.station st, t.entry, .camera, .advance,
              ⟨b.camera, ownAddress s.pins, 0x05, d.tag + 1, []⟩, 1, false, false, false, 0⟩
            lastGranted := .station st })
  ∧ (∀ (s : State) (t : Transaction) (st : St) (q : Request) (z : Reserved) (m : RollMap) (d : Device) (b : Binding)
      (f : LinkFrame) (i : Fin 16) (o : Order), AnswersOpen s t d f → t.requester = .station st →
      t.purpose = .advancePoll → t.request.kind = 0x02 → StationCamera s st b d → RunsFrame s st q m .advanceWait →
      q.frames = some z → m.stock ≤ 255 → m.gate + 1 ≤ 255 → s.stations[st].rollEnd = false → OrderAt s i o →
      o.terms.number = q.order → o.closing = false → f.kind = 0x14 →
      (f.payload = [0x09, u8 m.stock, u8 (m.gate + 1)] →
        (m.gate ≠ m.length → m.gate + 1 < z.first + z.count →
          (s.pins.hold[st] = true → Completes (exec (.statusReplyReceived f.wire) s) fun u =>
            OnlyChanges [.stations, .rolls, .devices, .ring] s u ∧ u.ring = { s.ring with engine := none }
              ∧ OthersSame st s.stations u.stations ∧ OthersSame st s.rolls u.rolls
              ∧ u.rolls[st].map = some { m with gate := m.gate + 1 } ∧ u.stations[st].state = .held
              ∧ u.stations[st].phase = none ∧ u.stations[st].advanceLimit = false ∧ u.stations[st].pollTimer = false
              ∧ headOf u st = some (if q.copy < o.terms.copies then { q with copy := q.copy + 1 }
                  else { q with step := q.step + 1, copy := 1 })
              ∧ ∀ (j : Fin 16) x, u.devices[j] = some x → deviceIdx s x.addr = some j → x.addr = b.camera ∨ x.addr = b.lamp →
                x.busy = false)
          ∧ (s.pins.hold[st] = false → ∀ (r : FrameRec) (j : Fin 16) (lamp : Device), recordAt m (m.gate + 1) = some r →
            DeviceAt s j lamp → lamp.addr = b.lamp → Completes (exec (.statusReplyReceived f.wire) s) fun u =>
              OnlyChanges [.stations, .rolls, .devices, .ring] s u
                ∧ OthersSame st s.stations u.stations ∧ OthersSame st s.rolls u.rolls
                ∧ u.rolls[st].map = some { m with gate := m.gate + 1 } ∧ u.stations[st].state = .running
                ∧ u.stations[st].phase = some .lampSet ∧ u.stations[st].advanceLimit = false
                ∧ u.stations[st].pollTimer = false
                ∧ headOf u st = some (if q.copy < o.terms.copies then { q with copy := q.copy + 1 }
                    else { q with step := q.step + 1, copy := 1 })
                ∧ u.ring = { s.ring with
                    lastGranted := .station st
                    engine := some (granted s (.station st) j lamp .lampSet 0x03
                      (be16 r.times.r ++ be16 r.times.g ++ be16 r.times.b)) }))
        ∧ (m.gate = m.length ∨ z.first + z.count ≤ m.gate + 1 → Room s 1 → s.stations[st].queue = [q] →
          s.stations[st].leftUp = false → Completes (exec (.statusReplyReceived f.wire) s) fun u =>
            OnlyChanges [.stations, .rolls, .orders, .devices, .ring, .eventQueue, .port] s u
              ∧ OthersSame st s.stations u.stations ∧ OthersSame st s.rolls u.rolls
              ∧ u.rolls[st].map = some { m with gate := m.gate + 1 } ∧ u.stations[st].queue = []
              ∧ u.stations[st].phase = none ∧ u.stations[st].advanceLimit = false ∧ u.stations[st].pollTimer = false
              ∧ u.orders = s.orders.set i.val (some { o with outstanding := o.outstanding - 1 }) i.isLt
              ∧ Posted s u [.event q.tag
                  (.requestDone q.order q.original z.first z.count q.exposed q.spoiled .complete)]
              ∧ (m.gate ≠ m.length → u.stations[st].state = .ready ∧ u.ring = { s.ring with engine := none })
              ∧ (m.gate = m.length → u.stations[st].state = .unloading ∧ u.stations[st].rollEnd = false
                ∧ u.ring = { s.ring with
                    lastGranted := .station st, engine := some (granted s (.station st) t.entry d .rewind 0x06 []) })))
      ∧ (∀ (flags stock gate : Byte), f.payload = [flags, stock, gate] → StatusParses .camera f.payload →
          (flags.getLsbD 0 = false ∨ stock.toNat ≠ m.stock ∨ gate.toNat ≠ m.gate ∧ gate.toNat ≠ m.gate + 1
            ∨ flags.getLsbD 3 = true ∧ gate.toNat ≠ m.gate + 1) →
          Completes (exec (.statusReplyReceived f.wire) s) fun u =>
            OnlyChanges [.stations, .rolls, .devices, .ring] s u ∧ OthersSame st s.stations u.stations
              ∧ OthersSame st s.rolls u.rolls
              ∧ u.rolls[st] = (if flags.getLsbD 0 then s.rolls[st] else { s.rolls[st] with
                  removalRequired := false, insertionReported := false })
              ∧ u.stations[st].state = .suspended ∧ u.stations[st].phase = none
              ∧ headOf u st = some { q with state := .suspended }
              ∧ u.stations[st].susp = ⟨.advanceWait, true, false,
                  if flags.getLsbD 1 then some (flags.getLsbD 2) else none, .checking⟩
              ∧ u.ring = { s.ring with
                  lastGranted := .station st, engine := some (granted s (.station st) t.entry d .resumeCheck 0x02 []) }))

/-- An idle poll's camera report opens or closes the station's roll (R24 to R27, R39 to R41, R124). In NO_ROLL or WAITING (FILM): a
listed stock with gate frame 1 and removal required clear opens a map, with the next roll number, the lowest FREE slot or a place
in the header list, and a ROLL_OPEN, and the station is READY, or waits with the ROLL_OPEN; an unknown stock or another gate frame
is reported once per insertion; "no roll" clears both flags. In UNLOADING, "no roll" posts the ROLL_REPORT, releases the strip and
leaves NO_ROLL or WAITING (FILM); with no room the close waits. In READY or WAITING (LABELS), a report that agrees serves the roll
check, and one that does not closes the roll MISMATCH with GATE_MISMATCH. The fault before the report, and the head that still
waits for labels in a READY station, are the model's choices (assumption logs 43, 42), and the phase BOUNDARY of a cleared record
is a fixed value (log 27). That a served check withdraws its ask and gap (log 15), and that a close stops the station's ask, gap
and WAIT count (log 17), is inferred. -/
def Obligations.RollsOpenAndClose : Prop :=
  ∀ (s : State) (t : Transaction) (st : St) (b : Binding) (d : Device) (f : LinkFrame) (flags stock gate : Byte),
    AnswersOpen s t d f → t.requester = .idlePoller → t.purpose = .idlePoll → t.request.kind = 0x02 →
    StationCamera s st b d → s.stations[st].pendingPost = none → f.kind = 0x14 → f.payload = [flags, stock, gate] →
    StatusParses .camera f.payload →
    (s.stations[st].state = .noRoll ∨ s.stations[st].state = .waitingFilm → s.rolls[st].map = none →
      (flags.getLsbD 0 = false → Completes (exec (.statusReplyReceived f.wire) s) fun u =>
        OnlyChanges [.devices, .ring, .rolls] s u ∧ u.ring = { s.ring with engine := none }
          ∧ OthersSame st s.rolls u.rolls
          ∧ u.rolls[st] = { s.rolls[st] with removalRequired := false, insertionReported := false })
      ∧ (flags.getLsbD 0 = true → s.rolls[st].removalRequired = true ∨ (stockOf s stock.toNat = none ∨ gate ≠ 1)
            ∧ (s.rolls[st].insertionReported = true ∨ freePlaces s.eq = 0) →
          Completes (exec (.statusReplyReceived f.wire) s) fun u =>
            OnlyChanges [.devices, .ring] s u ∧ u.ring = { s.ring with engine := none })
      ∧ (flags.getLsbD 0 = true → s.rolls[st].removalRequired = false → s.rolls[st].insertionReported = false →
          Room s 1 → stockOf s stock.toNat = none ∨ gate ≠ 1 → Completes (exec (.statusReplyReceived f.wire) s) fun u =>
            OnlyChanges [.devices, .ring, .rolls, .eventQueue, .port] s u ∧ u.ring = { s.ring with engine := none }
              ∧ OthersSame st s.rolls u.rolls ∧ u.rolls[st] = { s.rolls[st] with insertionReported := true }
              ∧ Posted s u [.event 0 (if stockOf s stock.toNat = none then .unknownStock st stock.toNat gate.toNat
                  else .rollUnusable st stock.toNat gate.toNat)])
      ∧ ∀ (k : Stock) (number : Nat) (m : RollMap) (slot : Option (Fin 320)), flags.getLsbD 0 = true → gate = 1 →
          s.rolls[st].removalRequired = false → stockOf s stock.toNat = some k →
          number = (if s.rolls[st].counter = 65535 then 1 else s.rolls[st].counter + 1) →
          slot = (freeSlots s.composer).head? →
          m = { stock := k.code, length := k.length, roll := number, gate := 1, next := 1, header := slot, frames := []
                opening := decide (freePlaces s.eq = 0), closing := none } →
          s.stations[st].queue = [] → Room s 1 ∨ freePlaces s.eq = 0 →
          Completes (exec (.statusReplyReceived f.wire) s) fun u =>
            OnlyChanges [.devices, .ring, .rolls, .composer, .stations, .eventQueue, .port] s u
              ∧ u.ring = { s.ring with engine := none } ∧ OthersSame st s.rolls u.rolls
              ∧ OthersSame st s.stations u.stations
              ∧ u.rolls[st] = { s.rolls[st] with map := some m, counter := number, headerRequest := slot.isNone }
              ∧ u.composer = (match slot with
                  | some i => { s.composer with slots := s.composer.slots.set i.val (.reserved (.header st)) i.isLt }
                  | none => { s.composer with headerList := s.composer.headerList ++ [st] })
              ∧ (m.opening = false → Posted s u [.event 0 (.rollOpen st number k.code k.length)]
                ∧ u.stations[st] = { s.stations[st] with state := .ready })
              ∧ (m.opening = true → u.stations = s.stations ∧ u.port = s.port
                ∧ u.eq = { s.eq with waiters := s.eq.waiters ++ [.rollOpen st] }))
    ∧ (∀ m, s.rolls[st].map = some m → m.closing = none → (∀ r ∈ m.frames, r.state ≠ .reserved) →
      s.stations[st].state = .unloading → flags.getLsbD 0 = false →
      (Room s 1 → (∀ h, m.header = some h → s.rolls[st].headerRequest = false → s.composer.strips ≠ [] →
          Completes (exec (.statusReplyReceived f.wire) s) fun u =>
            OnlyChanges [.devices, .ring, .rolls, .composer, .stations, .eventQueue, .port] s u
              ∧ u.ring = { s.ring with engine := none } ∧ OthersSame st s.rolls u.rolls
              ∧ OthersSame st s.stations u.stations ∧ RollLess s.stations[st] u.stations[st]
              ∧ u.rolls[st] = ⟨none, s.rolls[st].counter, false, false, false, some .unloaded⟩
              ∧ StripReleased s u st m h .unloaded ∧ Posted s u [closeReport st m .unloaded])
        ∧ (m.header = none → s.rolls[st].headerRequest = true → Completes (exec (.statusReplyReceived f.wire) s) fun u =>
            OnlyChanges [.devices, .ring, .rolls, .composer, .stations, .eventQueue, .port] s u
              ∧ u.ring = { s.ring with engine := none } ∧ OthersSame st s.rolls u.rolls
              ∧ OthersSame st s.stations u.stations ∧ RollLess s.stations[st] u.stations[st]
              ∧ u.rolls[st] = ⟨none, s.rolls[st].counter, false, false, false, some .unloaded⟩
              ∧ u.composer = { s.composer with headerList := s.composer.headerList.erase st }
              ∧ Posted s u [closeReport st m .unloaded]))
      ∧ (freePlaces s.eq = 0 → s.rolls[st].headerRequest = false →
          Completes (exec (.statusReplyReceived f.wire) s) fun u =>
            OnlyChanges [.devices, .ring, .rolls, .stations, .eventQueue] s u ∧ u.ring = { s.ring with engine := none }
              ∧ OthersSame st s.rolls u.rolls ∧ OthersSame st s.stations u.stations
              ∧ u.stations[st].state = .unloading ∧ u.rolls[st] = { s.rolls[st] with
                  map := some { m with closing := some .unloaded }, removalRequired := false, insertionReported := false }
              ∧ u.eq = { s.eq with waiters := s.eq.waiters ++ [.rollReport st] }))
    ∧ ∀ m, s.rolls[st].map = some m → m.closing = none →
      s.stations[st].state = .ready ∨ s.stations[st].state = .waitingLabels →
      (flags.getLsbD 0 = true → stock.toNat = m.stock → gate.toNat = m.gate →
        (s.stations[st].state = .ready → s.stations[st].queue = []) →
        Completes (exec (.statusReplyReceived f.wire) s) fun u =>
          OnlyChanges [.devices, .ring, .stations] s u ∧ u.ring = { s.ring with engine := none }
            ∧ OthersSame st s.stations u.stations
            ∧ u.stations[st] = (if s.stations[st].rollCheck then
                { s.stations[st] with rollCheck := false, gap := none, waits := 0 } else s.stations[st]))
      ∧ ∀ h, (flags.getLsbD 0 = false ∨ stock.toNat ≠ m.stock ∨ gate.toNat ≠ m.gate) → m.header = some h →
          s.rolls[st].headerRequest = false → (∀ r ∈ m.frames, r.state ≠ .reserved) → s.composer.strips ≠ [] →
          (∀ q, headOf s st = some q → q.state ≠ .running ∧ q.state ≠ .suspended) → s.capture.record = none →
          Room s 2 → Completes (exec (.statusReplyReceived f.wire) s) fun u =>
            OnlyChanges [.devices, .ring, .rolls, .composer, .stations, .capture, .eventQueue, .port] s u
              ∧ u.ring = { s.ring with engine := none } ∧ OthersSame st s.rolls u.rolls
              ∧ OthersSame st s.stations u.stations ∧ RollLess s.stations[st] u.stations[st]
              ∧ u.rolls[st] = ⟨none, s.rolls[st].counter, flags.getLsbD 0,
                  flags.getLsbD 0 && s.rolls[st].insertionReported, false, some .mismatch⟩
              ∧ StripReleased s u st m h .mismatch
              ∧ u.capture.record = some ⟨.gateMismatch, b.camera, 0x02, some st, none, none, none⟩
              ∧ Posted s u [.event 0 (.faultNotice ⟨.gateMismatch, b.camera, 0x02, some st, none, none, none⟩),
                  closeReport st m .mismatch]

/-- The check of a resume (R185, R187 to R190). With a request held: a frame of which no SHOT is noted is redone from its boundary;
a noted SHOT marks the gate frame EXPOSED, or SPOILED (LAMP), or SPOILED (UNCERTAIN) before SHOOT, with LAMP_FAIL captured when it
is flagged; a SHOT_WAIT without one spoils it UNCERTAIN; then, or in ADVANCE, the ADVANCE is sent; a gate frame of P + 1 moves P
on. Without one: an unload is begun again or its roll closed, an owed ADVANCE is sent or counted, and a roll that agrees leaves
READY. Any other report closes the roll MISMATCH: the fault, the ROLL_REPORT and the REQUEST_DONE are posted in this order. A NAK
fails the step with DEVICE_NAK captured and release owed, a WAIT starts the gap, the 200th fails the step with WAIT_LIMIT. The
phase BOUNDARY of a cleared record is a fixed value of the model's (assumption log 27); that a MISMATCH close by a report of no
roll leaves removal required clear (log 28), what a close stops (log 17), and that a flagged SHOT without a first mark captures
nothing (log 50), is inferred. -/
def Obligations.ResumeChecksDecide : Prop :=
  ∀ (s : State) (t : Transaction) (st : St) (b : Binding) (d : Device) (m : RollMap) (f : LinkFrame),
    AnswersOpen s t d f → t.requester = .station st → t.purpose = .resumeCheck → t.request.kind = 0x02 →
    StationCamera s st b d → d.busy = false → s.stations[st].state = .suspended → s.stations[st].susp.step = .checking →
    s.stations[st].pendingPost = none → s.stations[st].rollEnd = false → s.rolls[st].map = some m → m.closing = none →
    (∀ (flags stock gate : Byte) (noted : Option Bool), f.kind = 0x14 → f.payload = [flags, stock, gate] →
      StatusParses .camera f.payload →
      noted = (if flags.getLsbD 1 then some (flags.getLsbD 2) else s.stations[st].susp.notedShot) →
      (∀ (q : Request) (z : Reserved) (i : Fin 16) (o : Order), s.stations[st].susp.requestHeld = true →
        s.stations[st].susp.phase ≠ .unload → headOf s st = some q → q.state = .suspended → q.abort = false → q.outcome = none → q.frames = some z →
        z.roll = m.roll → OrderAt s i o → o.terms.number = q.order → o.closing = false →
        (flags.getLsbD 0 = true → stock.toNat = m.stock → gate.toNat = m.gate →
          (noted = none → s.stations[st].susp.phase ∈ [SuspendedPhase.boundary, .lampSet, .shoot] →
            (s.pins.hold[st] = true → Completes (exec (.statusReplyReceived f.wire) s) fun u =>
              OnlyChanges [.stations, .devices, .ring] s u ∧ u.ring = { s.ring with engine := none }
                ∧ OthersSame st s.stations u.stations ∧ u.stations[st].state = .held ∧ u.stations[st].phase = none
                ∧ u.stations[st].susp = ⟨.boundary, false, false, none, .awaiting⟩
                ∧ headOf u st = some { q with state := .running })
            ∧ (s.pins.hold[st] = false → ∀ (r : FrameRec) (j : Fin 16) (lamp : Device), recordAt m m.gate = some r →
              DeviceAt s j lamp → lamp.addr = b.lamp → Completes (exec (.statusReplyReceived f.wire) s) fun u =>
                OnlyChanges [.stations, .devices, .ring] s u
                  ∧ OthersSame st s.stations u.stations ∧ u.stations[st].state = .running
                  ∧ u.stations[st].phase = some .lampSet ∧ headOf u st = some { q with state := .running }
                  ∧ u.ring = { s.ring with
                      lastGranted := .station st
                      engine := some (granted s (.station st) j lamp .lampSet 0x03
                        (be16 r.times.r ++ be16 r.times.g ++ be16 r.times.b)) }))
          ∧ (∀ (r : FrameRec) (x : FrameState), recordAt m m.gate = some r → r.state = .reserved →
            (s.stations[st].susp.phase ∈ [SuspendedPhase.shoot, .shotWait] ∧ noted = some false ∧ x = .exposed
              ∨ s.stations[st].susp.phase ∈ [SuspendedPhase.shoot, .shotWait] ∧ noted = some true ∧ x = .spoiled .lamp
                ∧ s.capture.record = none ∧ Room s 1
              ∨ s.stations[st].susp.phase ∈ [SuspendedPhase.boundary, .lampSet] ∧ noted = some false
                ∧ x = .spoiled .uncertain
              ∨ s.stations[st].susp.phase ∈ [SuspendedPhase.boundary, .lampSet] ∧ noted = some true
                ∧ x = .spoiled .uncertain ∧ s.capture.record = none ∧ Room s 1
              ∨ s.stations[st].susp.phase = .shotWait ∧ noted = none ∧ x = .spoiled .uncertain) →
            Completes (exec (.statusReplyReceived f.wire) s) fun u =>
              OnlyChanges [.stations, .rolls, .orders, .accounts, .composer, .devices, .ring, .capture, .eventQueue, .port] s u
                ∧ OthersSame st s.stations u.stations ∧ OthersSame st s.rolls u.rolls
                ∧ u.rolls[st].map = some { m with frames := m.frames.map fun y =>
                    if y.number = m.gate then { y with state := x } else y }
                ∧ headOf u st = some { q with
                    state := .running
                    exposed := if x = .exposed then q.exposed + 1 else q.exposed
                    spoiled := if x = .exposed then q.spoiled else q.spoiled + 1 }
                ∧ u.stations[st].state = .running ∧ u.stations[st].phase = some .advance
                ∧ u.ring = { s.ring with
                    lastGranted := .station st, engine := some (granted s (.station st) t.entry d .advance 0x05 []) }
                ∧ (noted ≠ some true → OnlyChanges [.stations, .rolls, .orders, .accounts, .composer, .devices, .ring] s u)
                ∧ (noted = some true → u.capture.record =
                    some ⟨.lampFail, b.lamp, 0x04, some st, some q.order, some m.gate, none⟩))
          ∧ (s.stations[st].susp.phase ∈ [SuspendedPhase.advance, .advanceWait]
              ∨ s.stations[st].susp.phase = .shotWait ∧ isMarked m m.gate = true →
            Completes (exec (.statusReplyReceived f.wire) s) fun u => OnlyChanges [.stations, .devices, .ring] s u
              ∧ OthersSame st s.stations u.stations ∧ u.stations[st].state = .running
              ∧ u.stations[st].phase = some .advance ∧ headOf u st = some { q with state := .running }
              ∧ u.ring = { s.ring with
                  lastGranted := .station st, engine := some (granted s (.station st) t.entry d .advance 0x05 []) }))
        ∧ (flags.getLsbD 0 = true → stock.toNat = m.stock → gate.toNat = m.gate + 1 → m.gate ≠ m.length →
          s.stations[st].susp.phase ∈ [SuspendedPhase.advance, .advanceWait] →
          (m.gate + 1 < z.first + z.count → s.pins.hold[st] = true →
            Completes (exec (.statusReplyReceived f.wire) s) fun u =>
              OnlyChanges [.stations, .rolls, .devices, .ring] s u ∧ u.ring = { s.ring with engine := none }
                ∧ OthersSame st s.stations u.stations ∧ OthersSame st s.rolls u.rolls
                ∧ u.rolls[st].map = some { m with gate := m.gate + 1 } ∧ u.stations[st].state = .held
                ∧ headOf u st = some (if q.copy < o.terms.copies then { q with state := .running, copy := q.copy + 1 }
                    else { q with state := .running, step := q.step + 1, copy := 1 }))
          ∧ (m.gate + 1 < z.first + z.count → s.pins.hold[st] = false → ∀ (r : FrameRec) (j : Fin 16) (lamp : Device),
            recordAt m (m.gate + 1) = some r → DeviceAt s j lamp → lamp.addr = b.lamp →
            Completes (exec (.statusReplyReceived f.wire) s) fun u =>
              OnlyChanges [.stations, .rolls, .devices, .ring] s u ∧ OthersSame st s.stations u.stations
                ∧ OthersSame st s.rolls u.rolls ∧ u.rolls[st].map = some { m with gate := m.gate + 1 }
                ∧ u.stations[st].state = .running ∧ u.stations[st].phase = some .lampSet
                ∧ headOf u st = some (if q.copy < o.terms.copies then { q with state := .running, copy := q.copy + 1 }
                    else { q with state := .running, step := q.step + 1, copy := 1 })
                ∧ u.ring = { s.ring with
                    lastGranted := .station st
                    engine := some (granted s (.station st) j lamp .lampSet 0x03
                      (be16 r.times.r ++ be16 r.times.g ++ be16 r.times.b)) })
          ∧ (z.first + z.count ≤ m.gate + 1 → Room s 1 → s.stations[st].queue = [q] → s.stations[st].leftUp = false →
            Completes (exec (.statusReplyReceived f.wire) s) fun u =>
              OnlyChanges [.stations, .rolls, .orders, .devices, .ring, .eventQueue, .port] s u
                ∧ u.ring = { s.ring with engine := none } ∧ OthersSame st s.stations u.stations
                ∧ OthersSame st s.rolls u.rolls ∧ u.rolls[st].map = some { m with gate := m.gate + 1 }
                ∧ u.stations[st].state = .ready ∧ u.stations[st].queue = []
                ∧ u.stations[st].susp = ⟨.boundary, false, false, none, .awaiting⟩
                ∧ Posted s u [.event q.tag
                    (.requestDone q.order q.original z.first z.count q.exposed q.spoiled .complete)]))
        ∧ (∀ h first : Nat, ∀ slot, flags.getLsbD 0 = false ∨ stock.toNat ≠ m.stock
              ∨ gate.toNat ≠ m.gate ∧ (gate.toNat ≠ m.gate + 1
                ∨ s.stations[st].susp.phase ∉ [SuspendedPhase.advance, .advanceWait]) →
          m.header = some slot → s.rolls[st].headerRequest = false → s.composer.headerList = [] →
          s.composer.labelWaiters = [] → s.composer.strips ≠ [] → s.capture.record = none → Room s 3 → s.stations[st].queue = [q] →
          first = (((m.frames.find? fun r => r.state == .reserved).map (·.number)).getD m.next) →
          (∀ r ∈ m.frames, r.state ≠ .reserved ↔ r.number < first) →
          h = m.frames.countP (fun r => r.state == .exposed) → Completes (exec (.statusReplyReceived f.wire) s) fun u =>
            OthersSame st s.stations u.stations ∧ OthersSame st s.rolls u.rolls ∧ u.ring.engine = none
              ∧ u.rolls[st] = ⟨none, s.rolls[st].counter, flags.getLsbD 0,
                  flags.getLsbD 0 && s.rolls[st].insertionReported, false, some .mismatch⟩
              ∧ u.stations[st].state = .noRoll ∧ u.stations[st].queue = []
              ∧ u.stations[st].susp = ⟨.boundary, false, false, none, .awaiting⟩
              ∧ u.capture.record = some ⟨.gateMismatch, b.camera, 0x02, some st, some q.order, some m.gate, none⟩
              ∧ Posted s u
                [.event 0 (.faultNotice ⟨.gateMismatch, b.camera, 0x02, some st, some q.order, some m.gate, none⟩),
                  .event 0 (.rollReport st m.roll m.stock .mismatch (first - 1) h
                    ((m.frames.countP fun r => r.state != .reserved) - h) true),
                  .event q.tag (.requestDone q.order q.original z.first z.count q.exposed q.spoiled .mismatch)]))
      ∧ (s.stations[st].susp.requestHeld = false → s.stations[st].queue = [] →
        (s.stations[st].susp.phase = .unload → flags.getLsbD 0 = true →
          Completes (exec (.statusReplyReceived f.wire) s) fun u => OnlyChanges [.stations, .devices, .ring] s u
            ∧ OthersSame st s.stations u.stations ∧ u.stations[st].state = .unloading
            ∧ u.stations[st].susp = ⟨.boundary, false, false, none, .awaiting⟩
            ∧ u.ring = { s.ring with
                lastGranted := .station st, engine := some (granted s (.station st) t.entry d .rewind 0x06 []) })
        ∧ (s.stations[st].susp.phase ∈ [SuspendedPhase.advance, .advanceWait] → flags.getLsbD 0 = true →
          stock.toNat = m.stock → isMarked m m.gate = true →
          (gate.toNat = m.gate → Completes (exec (.statusReplyReceived f.wire) s) fun u =>
            OnlyChanges [.stations, .devices, .ring] s u ∧ OthersSame st s.stations u.stations
              ∧ u.stations[st].state = .suspended ∧ u.stations[st].susp.step = .settlingAdvance
              ∧ u.ring = { s.ring with
                  lastGranted := .station st
                  engine := some (granted s (.station st) t.entry d .settleAdvance 0x05 []) })
          ∧ (gate.toNat = m.gate + 1 → Completes (exec (.statusReplyReceived f.wire) s) fun u =>
            OnlyChanges [.stations, .rolls, .devices, .ring] s u ∧ OthersSame st s.stations u.stations
              ∧ OthersSame st s.rolls u.rolls ∧ u.rolls[st].map = some { m with gate := m.gate + 1 }
              ∧ u.stations[st].susp = ⟨.boundary, false, false, none, .awaiting⟩
              ∧ (m.gate ≠ m.length → u.stations[st].state = .ready ∧ u.stations[st].rollCheck = s.stations[st].rollCheck
                ∧ u.ring = { s.ring with engine := none })
              ∧ (m.gate = m.length → u.stations[st].state = .unloading ∧ u.ring = { s.ring with
                  lastGranted := .station st, engine := some (granted s (.station st) t.entry d .rewind 0x06 []) })))
        ∧ (s.stations[st].susp.phase = .boundary → flags.getLsbD 0 = true → stock.toNat = m.stock →
          gate.toNat = m.gate → recordAt m m.gate = none → noted = none →
          Completes (exec (.statusReplyReceived f.wire) s) fun u => OnlyChanges [.stations, .devices, .ring] s u
            ∧ OthersSame st s.stations u.stations ∧ u.stations[st].state = .ready
            ∧ u.stations[st].susp = ⟨.boundary, false, false, none, .awaiting⟩
            ∧ u.ring = { s.ring with engine := none })
        ∧ ∀ slot, (s.stations[st].susp.phase = .unload ∧ flags.getLsbD 0 = false
              ∨ s.stations[st].susp.phase ≠ .unload ∧ (flags.getLsbD 0 = false ∨ stock.toNat ≠ m.stock
                ∨ s.stations[st].susp.phase = .boundary
                  ∧ (gate.toNat ≠ m.gate ∨ (recordAt m m.gate).isSome = true ∨ noted.isSome = true)
                ∨ s.stations[st].susp.phase ∈ [SuspendedPhase.advance, .advanceWait]
                  ∧ (isMarked m m.gate = false ∨ gate.toNat ≠ m.gate ∧ gate.toNat ≠ m.gate + 1))) →
          m.header = some slot → s.rolls[st].headerRequest = false → (∀ r ∈ m.frames, r.state ≠ .reserved) →
          s.composer.strips ≠ [] → s.capture.record = none → Room s 2 → ∀ reason : CloseReason,
          reason = (if s.stations[st].susp.phase = .unload then .unloaded else .mismatch) →
          Completes (exec (.statusReplyReceived f.wire) s) fun u =>
            OnlyChanges [.devices, .ring, .rolls, .composer, .stations, .capture, .eventQueue, .port] s u
              ∧ u.ring = { s.ring with engine := none } ∧ OthersSame st s.rolls u.rolls
              ∧ OthersSame st s.stations u.stations ∧ RollLess s.stations[st] u.stations[st]
              ∧ u.rolls[st] = ⟨none, s.rolls[st].counter, flags.getLsbD 0,
                  flags.getLsbD 0 && s.rolls[st].insertionReported, false, some reason⟩
              ∧ StripReleased s u st m slot reason
              ∧ (reason = .unloaded → u.capture = s.capture ∧ Posted s u [closeReport st m .unloaded])
              ∧ (reason = .mismatch →
                u.capture.record = some ⟨.gateMismatch, b.camera, 0x02, some st, none, none, none⟩
                  ∧ Posted s u [.event 0 (.faultNotice ⟨.gateMismatch, b.camera, 0x02, some st, none, none, none⟩),
                      closeReport st m .mismatch])))
    ∧ (∀ kind : FaultKind, ∀ reason : Option Byte, ∀ c : Instr, s.capture.record = none → Room s 1 →
        (c = .nakReceived f.wire ∧ f.kind = 0x13 ∧ kind = .deviceNak ∧ reason = some (f.payload.headD 0)
          ∨ c = .waitReceived f.wire ∧ f.kind = 0x12 ∧ kind = .waitLimit ∧ reason = none ∧ 199 ≤ s.stations[st].waits) →
        Completes (exec c s) fun u =>
          OnlyChanges [.devices, .ring, .stations, .capture, .eventQueue, .port] s u
            ∧ u.ring = { s.ring with engine := none } ∧ OthersSame st s.stations u.stations
            ∧ u.stations[st].state = .suspended ∧ u.stations[st].waits = 0
            ∧ u.stations[st].susp = { s.stations[st].susp with step := .awaiting, releaseOwed := true }
            ∧ ∃ x, u.capture.record = some x ∧ x.kind = kind ∧ x.address = b.camera ∧ x.frameKind = 0x02
              ∧ x.station = some st ∧ x.nakReason = reason)
    ∧ (f.kind = 0x12 → s.stations[st].waits < 199 → Completes (exec (.waitReceived f.wire) s) fun u =>
        OnlyChanges [.devices, .ring, .stations] s u ∧ u.ring = { s.ring with engine := none }
          ∧ OthersSame st s.stations u.stations
          ∧ u.stations[st] = { s.stations[st] with waits := s.stations[st].waits + 1, gap := some .resumeCheck })

/-- A ring frame that is no reply of the open attempt is discarded and the window runs on (R145): no transaction runs, the attempt's
frame is still being sent (R144; the sending ends in a step on an empty queue, assumption log 2), the frame has a receive fault, its
source, destination or tag is not the attempt's, its kind does not fit the request, or it carries a status that does not parse
(R204), a READY that names no class included. That the row of stray frames looks at no byte, even of a frame that would match, is
inferred (assumption log 9), and so is that a READY to a WAKE which does not parse or names no class is discarded with the window
running on (log 10). -/
def Obligations.OtherFramesDiscarded : Prop :=
  (∀ (bytes : List Byte) (s : State), exec (.strayRingFrame bytes) s = .next s)
    ∧ ∀ (bytes : List Byte) (s : State) (c : Instr),
      (c = .readyReceived bytes ∨ c = .ackReceived bytes ∨ c = .waitReceived bytes ∨ c = .nakReceived bytes
        ∨ c = .statusReplyReceived bytes) →
      (s.ring.engine = none ∨ (∃ t, s.ring.engine = some t ∧ t.opened < t.attempt) ∨ (∃ e, receive bytes = .error e)
        ∨ ∃ t f, s.ring.engine = some t ∧ receive bytes = .ok f
          ∧ (f.src ≠ t.request.dst ∨ f.dst ≠ t.request.src ∨ f.tag ≠ t.request.tag
            ∨ (t.purpose ≠ .forwarded ∧ t.purpose ≠ .wake
              ∧ ((t.request.kind = 0x02 ∧ f.kind ≠ 0x14 ∨ t.request.kind ≠ 0x02 ∧ f.kind ≠ 0x11)
                ∧ f.kind ≠ 0x12 ∧ f.kind ≠ 0x13))
            ∨ (t.purpose ≠ .forwarded ∧ t.purpose ≠ .wake ∧ t.request.kind = 0x02 ∧ f.kind = 0x14
              ∧ ¬ StatusParses t.cls f.payload)
            ∨ (t.purpose = .wake
              ∧ ((f.kind ≠ 0x10 ∧ f.kind ≠ 0x11 ∧ f.kind ≠ 0x12 ∧ f.kind ≠ 0x13 ∧ f.kind ≠ 0x14)
                ∨ (f.kind = 0x14 ∧ ¬ StatusParses t.cls f.payload)
                ∨ (f.kind = 0x10 ∧ (f.payload = []
                  ∨ ∃ status, f.payload = t.cls.code :: status ∧ ¬ StatusParses t.cls status)))))) →
      exec c s = .next s

/-- The reply window closes (R141, R146, R157): the same frame is sent again, RDIR asserted, up to three attempts in all; after the
third the device is LOST with its wake timer started, NO_REPLY is captured and the grant ends. A station at rest that binds the
device is OFFLINE; one whose own transaction it was is suspended in its phase with its request, release not owed. A WAKE has one
attempt and captures nothing. Without an open window the command changes nothing. RDIR asserted from the repetition on is the
model's choice (assumption log 2), and what the station clears when it goes OFFLINE (roll check, gap and WAIT count) is inferred
(log 17). -/
def Obligations.ReplyWindowCloses : Prop :=
  (∀ (s : State) (t : Transaction), Live s → s.ring.engine = some t → t.opened < t.attempt →
    exec .replyWindowExpired s = .next s)
  ∧ ∀ (s : State) (t : Transaction) (d : Device), Live s → Runs s t → DeviceAt s t.entry d →
    (t.purpose ≠ .wake → t.attempt < 3 →
      exec .replyWindowExpired s = .next { s with ring := { s.ring with engine := some { t with attempt := t.attempt + 1 } } }
      ∧ (t.opened ≤ t.attempt → Completes (exec .replyWindowExpired s) fun u => rdir u = true))
    ∧ (Settled s → NoAsk s →
      (t.requester = .idlePoller → t.purpose = .idlePoll → 3 ≤ t.attempt → d.cls ≠ .printer → s.capture.record = none →
        Room s 1 →
        (Unbound s d.addr → Completes (exec .replyWindowExpired s) fun u =>
          OnlyChanges [.devices, .ring, .capture, .eventQueue, .port] s u ∧ u.ring = { s.ring with engine := none }
            ∧ u.devices = s.devices.set t.entry.val (some { d with
                link := .lost, busy := false, idleTimer := false, duePoll := false, wakeTimer := true }) t.entry.isLt
            ∧ u.capture.record = some ⟨.noReply, d.addr, t.request.kind, none, none, none, none⟩)
        ∧ ∀ st : St, boundStation s d.addr = some st → s.stations[st].pendingPost = none →
          (s.stations[st].state = .noRoll ∨ s.stations[st].state = .ready ∨ s.stations[st].state = .waitingFilm
            ∨ s.stations[st].state = .waitingLabels) →
          Completes (exec .replyWindowExpired s) fun u =>
            OnlyChanges [.devices, .ring, .stations, .capture, .eventQueue, .port] s u
              ∧ u.ring = { s.ring with engine := none } ∧ OthersSame st s.stations u.stations
              ∧ u.devices = s.devices.set t.entry.val (some { d with
                  link := .lost, busy := false, idleTimer := false, duePoll := false, wakeTimer := true }) t.entry.isLt
              ∧ u.stations[st] = { s.stations[st] with state := .offline, rollCheck := false, gap := none, waits := 0 }
              ∧ u.capture.record = some ⟨.noReply, d.addr, t.request.kind, some st, none, none, none⟩)
      ∧ (∀ (st : St) (q : Request) (m : RollMap) (ph : Phase) (sp : SuspendedPhase), t.requester = .station st →
          t.purpose ≠ .wake → 3 ≤ t.attempt → d.cls ≠ .printer → s.capture.record = none → Room s 1 →
          boundStation s d.addr = some st → RunsFrame s st q m ph →
          (ph, sp) ∈ ([(.lampSet, .lampSet), (.shoot, .shoot), (.shotWait, .shotWait), (.advance, .advance),
            (.advanceWait, .advanceWait)] : List (Phase × SuspendedPhase)) →
          Completes (exec .replyWindowExpired s) fun u =>
            OnlyChanges [.devices, .ring, .stations, .capture, .eventQueue, .port] s u ∧ u.ring.engine = none
              ∧ OthersSame st s.stations u.stations ∧ isUp u d.addr = false
              ∧ u.stations[st].state = .suspended ∧ u.stations[st].phase = none
              ∧ u.stations[st].susp = ⟨sp, true, false, none, .awaiting⟩
              ∧ headOf u st = some { q with state := .suspended }
              ∧ u.capture.record = some ⟨.noReply, d.addr, t.request.kind, some st, none, none, none⟩)
      ∧ (∀ wasLost, t.requester = .idlePoller → t.purpose = .wake → 1 ≤ t.attempt → d.link = .waking wasLost →
        Completes (exec .replyWindowExpired s) fun u =>
          OnlyChanges [.devices, .ring] s u ∧ u.ring = { s.ring with engine := none }
            ∧ u.devices = s.devices.set t.entry.val (some { d with
                link := if wasLost then .lost else .absent, failedWakes := min (d.failedWakes + 1) 65535
                wakeTimer := true }) t.entry.isLt))

/-- The Arbiter grants the first requester with a standing ask in the circle from the one after the last granted (R149): what is
granted asks, everything between the last granted and it does not, and something is granted whenever anything asks and the engine is
idle. The granted requester becomes the last granted, its ask is spent and its frame is being sent, RDIR asserted (R143, R144): that
the sending, and RDIR, begin with the grant is the model's choice (assumption log 2). A grant of the Idle Poller wakes the entry or
polls it (R141, R152). -/
def Obligations.ArbiterSearchesCircle : Prop :=
  (∀ (s : State) (r : Requester), nextGranted s = some r → hasAsk s r = true
      ∧ ∀ r' : Requester, (r'.place + 6 - s.ring.lastGranted.place) % 7 < (r.place + 6 - s.ring.lastGranted.place) % 7 →
          hasAsk s r' = false)
    ∧ (∀ (s : State) (r : Requester), hasAsk s r = true → (nextGranted s).isSome = true)
    ∧ (∀ s : State, s.ring.engine.isSome = true ∨ nextGranted s = none → arbitrate s = s)
    ∧ (∀ s : State, Live s → s.ring.engine = none → (arbitrate s).ring.engine.isSome = true → rdir (arbitrate s) = true)
    ∧ ∀ s : State, s.ring.engine = none →
      (∀ (st : St) (a : Ask) (i : Fin 16) (d : Device), nextGranted s = some (.station st) → s.ring.asks[st] = some a →
        DeviceAt s i d → d.addr = a.address →
        arbitrate s = { s with
          devices := s.devices.set i.val (some { d with tag := d.tag + 1 }) i.isLt
          ring := { s.ring with
            asks := s.ring.asks.set st.val none st.isLt, lastGranted := .station st
            engine := some (granted s (.station st) i d a.purpose a.kind a.payload) } })
      ∧ (∀ (a : Ask) (i : Fin 16) (d : Device), nextGranted s = some .composer → s.ring.composerAsk = some a →
        a.purpose ≠ .print → DeviceAt s i d → d.addr = a.address →
        arbitrate s = { s with
          devices := s.devices.set i.val (some { d with tag := d.tag + 1 }) i.isLt
          ring := { s.ring with
            composerAsk := none, lastGranted := .composer
            engine := some (granted s .composer i d a.purpose a.kind a.payload) } })
      ∧ (∀ (f : LinkFrame) (i : Fin 16) (d : Device), nextGranted s = some .forward → s.slot = .asking f →
        ¬ ControllerOnly s f → DeviceAt s i d → d.addr = f.dst →
        arbitrate s = { s with
          slot := .running f
          ring := { s.ring with
            lastGranted := .forward
            engine := some ⟨.forward, i, d.cls, .forwarded, f, 1, false, false, false, 0⟩ } })
      ∧ ∀ (i : Fin 16) (d : Device), nextGranted s = some .idlePoller → nextServed s = some i → s.devices[i] = some d →
        (d.link = .up → arbitrate s = { s with
          devices := s.devices.set i.val (some { d with tag := d.tag + 1, duePoll := false }) i.isLt
          ring := { s.ring with
            lastGranted := .idlePoller, lastServed := i
            engine := some (granted s .idlePoller i d .idlePoll 0x02 []) } })
        ∧ (d.link = .absent ∨ d.link = .lost → arbitrate s = { s with
          devices := s.devices.set i.val
            (some { d with tag := d.tag + 1, dueWake := false, link := .waking (d.link == .lost) }) i.isLt
          ring := { s.ring with
            lastGranted := .idlePoller, lastServed := i
            engine := some (granted s .idlePoller i d .wake 0x01 []) } })

/-! ### Timers and limits -/

/-- A WAIT gap that passes stands the same ask again, and an expired poll timer asks for a STATUS, at a station and at the Label
Composer (R73, R77, R127, R128). An idle timer that expires makes its entry due for a poll, a wake timer due for a wake (R140,
R151); that a timer that does not run makes nothing due is inferred (assumption log 6). -/
def Obligations.TimersAct : Prop :=
  ((∀ (s : State) (st : St) (b : Binding) (p : Purpose) (kind : Byte), Steady s → BoundUp s st b →
        s.stations[st].pendingPost = none → s.stations[st].gap = some p →
        (p, kind) ∈ ([(.shoot, 0x04), (.shotPoll, 0x02), (.advance, 0x05), (.advancePoll, 0x02), (.rewind, 0x06),
          (.rewindPoll, 0x02), (.rollCheck, 0x02), (.resumeCheck, 0x02), (.settleAdvance, 0x05),
          (.settlePoll, 0x02)] : List (Purpose × Byte)) →
        Completes (exec (.waitGapExpired (.station st)) s) fun t => OnlyChanges [.stations, .ring] s t
          ∧ OthersSame st s.stations t.stations ∧ t.stations[st] = { s.stations[st] with gap := none }
          ∧ t.ring = { s.ring with asks := s.ring.asks.set st.val (some ⟨b.camera, kind, [], p⟩) st.isLt })
      ∧ (∀ s : State, Steady s → isUp s (printerAddress s) = true → s.composer.gap = some .printPoll →
        Completes (exec (.waitGapExpired .composer) s) fun t => OnlyChanges [.composer, .ring] s t
          ∧ t.composer = { s.composer with gap := none }
          ∧ t.ring = { s.ring with composerAsk := some ⟨printerAddress s, 0x02, [], .printPoll⟩ })
      ∧ (∀ (s : State) (st : St) (b : Binding) (q : Request) (m : RollMap) (ph : Phase), Steady s → BoundUp s st b →
        RunsFrame s st q m ph → s.stations[st].pollTimer = true → ph = .shotWait ∨ ph = .advanceWait →
        Completes (exec (.pollTimerExpired st) s) fun t => OnlyChanges [.stations, .ring] s t
          ∧ OthersSame st s.stations t.stations ∧ t.stations[st] = { s.stations[st] with pollTimer := false }
          ∧ t.ring = { s.ring with
              asks := s.ring.asks.set st.val
                (some ⟨b.camera, 0x02, [], if ph = .shotWait then .shotPoll else .advancePoll⟩) st.isLt })
      ∧ (∀ s : State, Steady s → isUp s (printerAddress s) = true → s.composer.print = .confirming →
        s.composer.pollTimer = true →
        Completes (exec .printPollTimerExpired s) fun t => OnlyChanges [.composer, .ring] s t
          ∧ t.composer = { s.composer with pollTimer := false }
          ∧ t.ring = { s.ring with composerAsk := some ⟨printerAddress s, 0x02, [], .printPoll⟩ }))
  ∧ (∀ (s : State) (i : Fin 16) (d : Device), Steady s → s.devices[i] = some d →
      (d.idleTimer = true → exec (.idleTimerExpired i) s = .next { s with
        devices := s.devices.set i.val (some { d with idleTimer := false, duePoll := true }) i.isLt })
      ∧ (d.wakeTimer = true → exec (.wakeTimerExpired i) s = .next { s with
        devices := s.devices.set i.val (some { d with wakeTimer := false, dueWake := true }) i.isLt })
      ∧ (d.idleTimer = false → exec (.idleTimerExpired i) s = .next s)
      ∧ (d.wakeTimer = false → exec (.wakeTimerExpired i) s = .next s))

/-- The shot limit passes in SHOT_WAIT (R78): the gate frame is SPOILED (UNCERTAIN), its hold leaves held and nothing is spent, its
slot takes a void label, the order and the request count it, OP_TIMEOUT is captured, and the station is suspended with release
owed (R78, R182). -/
def Obligations.ShotLimitSpoilsFrame : Prop :=
  ∀ (s : State) (st : St) (q : Request) (m : RollMap) (r : FrameRec) (k : Fin 16) (o : Order) (j : Fin 32) (a : Account),
    Steady s → RunsFrame s st q m .shotWait → s.stations[st].shotLimit.isSome = true → recordAt m m.gate = some r →
    r.state = .reserved → OrderAt s k o → o.terms.number = r.order → AccountAt s j a → a.number = o.terms.account →
    s.capture.record = none → Room s 1 →
    Completes (exec (.shotLimitExpired st) s) fun u =>
      OnlyChanges [.stations, .rolls, .orders, .accounts, .composer, .devices, .ring, .capture, .eventQueue, .port] s u
        ∧ OthersSame st s.stations u.stations ∧ OthersSame st s.rolls u.rolls
        ∧ u.rolls[st].map = some { m with frames := m.frames.map fun x =>
            if x.number = m.gate then { x with state := .spoiled .uncertain } else x }
        ∧ u.accounts = s.accounts.set j.val (some { a with held := a.held - r.hold }) j.isLt
        ∧ u.orders = s.orders.set k.val (some { o with spoiled := min (o.spoiled + 1) 4294967295 }) k.isLt
        ∧ u.composer = { s.composer with
            slots := s.composer.slots.set r.slot.val (.composed (.frame st r.number) (voidLabel .uncertain r))
              r.slot.isLt }
        ∧ u.stations[st].state = .suspended ∧ u.stations[st].shotLimit = none ∧ u.stations[st].pollTimer = false
        ∧ u.stations[st].susp = ⟨.shotWait, true, true, none, .awaiting⟩
        ∧ headOf u st = some { q with spoiled := q.spoiled + 1, state := .suspended }
        ∧ u.capture.record = some ⟨.opTimeout, cameraOf s st, 0x04, some st, some q.order, some m.gate, none⟩

/-- The advance, rewind and print limits (R39, R80, R128): the station is suspended in ADVANCE_WAIT with its request, or in UNLOAD
without one, release owed; the Composer is PAUSED (TIMEOUT); OP_TIMEOUT is captured with the kind of the operation. -/
def Obligations.LimitsStopOperations : Prop :=
  ∀ s : State, Steady s → s.capture.record = none → Room s 1 →
    (∀ (st : St) (q : Request) (m : RollMap), RunsFrame s st q m .advanceWait → s.stations[st].advanceLimit = true →
      Completes (exec (.advanceLimitExpired st) s) fun u =>
        OnlyChanges [.stations, .devices, .ring, .capture, .eventQueue, .port] s u ∧ OthersSame st s.stations u.stations
          ∧ u.stations[st].state = .suspended ∧ u.stations[st].susp = ⟨.advanceWait, true, true, none, .awaiting⟩
          ∧ u.stations[st].advanceLimit = false
          ∧ u.capture.record = some ⟨.opTimeout, cameraOf s st, 0x05, some st, some q.order, some m.gate, none⟩)
    ∧ (∀ st : St, s.stations[st].state = .unloading → s.stations[st].rewindLimit = true → s.stations[st].queue = [] →
      Completes (exec (.rewindLimitExpired st) s) fun u =>
        OnlyChanges [.stations, .devices, .ring, .capture, .eventQueue, .port] s u ∧ OthersSame st s.stations u.stations
          ∧ u.stations[st].state = .suspended ∧ u.stations[st].susp = ⟨.unload, false, true, none, .awaiting⟩
          ∧ u.stations[st].rewindLimit = false
          ∧ u.capture.record = some ⟨.opTimeout, cameraOf s st, 0x06, some st, none, none, none⟩)
    ∧ (s.composer.print = .confirming → s.composer.printLimit = true →
      Completes (exec .printLimitExpired s) fun u =>
        OnlyChanges [.composer, .devices, .ring, .capture, .eventQueue, .port] s u
          ∧ u.composer.print = .paused .timeout ∧ u.composer.printLimit = false ∧ u.composer.pollTimer = false
          ∧ u.composer.strips = s.composer.strips ∧ u.composer.slots = s.composer.slots ∧ u.ring.composerAsk = none
          ∧ u.capture.record = some ⟨.opTimeout, printerAddress s, 0x07, headStripStation s, none, none, none⟩)

/-! ### Waiting posts -/

/-- A waiter whose turn has come puts its record into the place it was given (R13, R131, R155, R178, R197): the summary of an
order, whose entry becomes FREE; the last listed strip's STRIP_PRINTED, with which the Composer is IDLE; the oldest held
DEVICE_REPORT; the notice of the capture. A report of an idle poll goes upstream (R154, R155): the latched items of a lamp head or
other device, and those of a camera that no station names, are posted as one DEVICE_REPORT or held while there is no room, and a
report without latched items posts nothing. Given places (assumption log 5), the list of held reports (log 22) and the notice built
from the capture (log 40) are the model's, and the gate frame 0 of a camera whose status says no roll is inferred (log 30). -/
def Obligations.WaitersUseTheirPlaces : Prop :=
  (∀ (s : State) (w : Waiter) (rest : List Waiter), Steady s → s.eq.given = w :: rest →
    (∀ (i : Fin 16) (o : Order) (e : Event), w = .orderSummary i → s.orders[i] = some o → o.summary = some e →
      Completes (exec (.orderSummaryQueued i) s) fun t => OnlyChanges [.orders, .eventQueue, .port] s t
        ∧ t.orders = s.orders.set i.val none i.isLt ∧ Transmits s t
        ∧ t.eq = { s.eq with given := rest, records := s.eq.records ++ [.event (o.closingTag.getD 0) e] })
    ∧ (∀ (e : Event) (p : Strip), w = .stripPrinted → s.composer.pendingPost = some e → s.composer.strips = [p] →
        s.composer.barrierCount = none →
      Completes (exec .stripPrintedQueued s) fun t => OnlyChanges [.composer, .eventQueue, .port] s t
        ∧ t.composer.strips = [] ∧ t.composer.print = .idle ∧ t.composer.pendingPost = none ∧ Transmits s t
        ∧ t.eq = { s.eq with given := rest, records := s.eq.records ++ [.event 0 e] })
    ∧ (∀ (e : Event) (later : List Event), w = .deviceReport → s.ring.heldReports = e :: later →
      Completes (exec .deviceReportQueued s) fun t => OnlyChanges [.ring, .eventQueue, .port] s t
        ∧ t.ring = { s.ring with heldReports := later } ∧ Transmits s t
        ∧ t.eq = { s.eq with given := rest, records := s.eq.records ++ [.event 0 e] })
    ∧ (∀ x : FaultRecord, w = .faultNotice → s.capture.record = some x →
      Completes (exec .faultNoticeQueued s) fun t => OnlyChanges [.capture, .eventQueue, .port] s t
        ∧ t.capture = { s.capture with notice := .posted } ∧ Transmits s t
        ∧ t.eq = { s.eq with given := rest, records := s.eq.records ++ [.event 0 (.faultNotice x)] }))
  ∧ (∀ (s : State) (t : Transaction) (d : Device) (f : LinkFrame), AnswersOpen s t d f → t.requester = .idlePoller →
      t.purpose = .idlePoll → t.request.kind = 0x02 → f.kind = 0x14 →
      (∀ (condition n : Byte) (items : List Byte), d.cls = .lamp ∨ d.cls = .other → f.payload = condition :: n :: items →
        n.toNat ≤ 8 → items.length = n.toNat →
        (items = [] → Completes (exec (.statusReplyReceived f.wire) s) fun u =>
          OnlyChanges [.devices, .ring] s u ∧ u.ring = { s.ring with engine := none })
        ∧ (items ≠ [] → Room s 1 → s.ring.heldReports = [] → Completes (exec (.statusReplyReceived f.wire) s) fun u =>
          OnlyChanges [.devices, .ring, .eventQueue, .port] s u ∧ u.ring = { s.ring with engine := none }
            ∧ Posted s u [.event 0 (.deviceReport d.addr d.cls condition items)])
        ∧ (items ≠ [] → freePlaces s.eq = 0 → Completes (exec (.statusReplyReceived f.wire) s) fun u =>
          OnlyChanges [.devices, .ring, .eventQueue] s u
            ∧ u.ring = { s.ring with
                engine := none, heldReports := s.ring.heldReports ++ [.deviceReport d.addr d.cls condition items] }
            ∧ u.eq = { s.eq with waiters := s.eq.waiters ++ [.deviceReport] }))
      ∧ ∀ flags stock gate : Byte, d.cls = .camera → cameraStation s d.addr = none → f.payload = [flags, stock, gate] →
        StatusParses .camera f.payload →
        (flags.getLsbD 1 = false → flags.getLsbD 3 = false → Completes (exec (.statusReplyReceived f.wire) s) fun u =>
          OnlyChanges [.devices, .ring] s u ∧ u.ring = { s.ring with engine := none })
        ∧ (flags.getLsbD 1 = true ∨ flags.getLsbD 3 = true → Room s 1 → s.ring.heldReports = [] →
          Completes (exec (.statusReplyReceived f.wire) s) fun u =>
            OnlyChanges [.devices, .ring, .eventQueue, .port] s u ∧ u.ring = { s.ring with engine := none }
              ∧ Posted s u [.event 0 (.cameraReport d.addr flags (if flags.getLsbD 0 then gate else 0))]))
  ∧ (∀ (a condition : Byte) (items : List Byte),
      Event.payload (.deviceReport a .lamp condition items) = [0x05, 0x04, a, 0x02, condition, u8 items.length] ++ items
      ∧ Event.payload (.deviceReport a .other condition items) = [0x05, 0x04, a, 0x04, condition, u8 items.length] ++ items)
  ∧ ∀ a flags gate : Byte, Event.payload (.cameraReport a flags gate) = [0x05, 0x04, a, 0x01, flags, gate]

/-- The Station Sequencer's and the Roll Tracker's posts when their place comes (R25, R40, R84): the ended request leaves the queue
and its order counts it down; a station in NO_ROLL whose ROLL_OPEN is queued is READY with roll check pending; a closing roll whose
ROLL_REPORT is queued is discarded, its strip released when it has a header slot, and its station has no roll. Given places
(assumption log 5) and the events that are built from the map when its place is used (log 40) are the model's, as are
the phase BOUNDARY of a cleared record (log 27) and the WAITING (FILM) of a head that still waited for labels (log 42). That a
roll-less station clears its gap and WAIT count is inferred (log 17). -/
def Obligations.StationPostsUseTheirPlaces : Prop :=
  ∀ (s : State) (st : St) (rest : List Waiter) (b : Binding) (m : RollMap), Steady s → BoundUp s st b →
    s.rolls[st].map = some m →
    (∀ (q : Request) (e : Event) (i : Fin 16) (o : Order), s.eq.given = .requestDone st :: rest →
        s.stations[st].state = .ready → s.stations[st].pendingPost = some e → s.stations[st].queue = [q] →
        s.stations[st].rollEnd = false → s.stations[st].leftUp = false → OrderAt s i o → o.terms.number = q.order →
        o.closing = false →
      Completes (exec (.pendingPostQueued st) s) fun t =>
        OnlyChanges [.stations, .orders, .devices, .eventQueue, .port] s t ∧ OthersSame st s.stations t.stations
          ∧ t.stations[st].state = .ready ∧ t.stations[st].queue = [] ∧ t.stations[st].pendingPost = none
          ∧ t.orders = s.orders.set i.val (some { o with outstanding := o.outstanding - 1 }) i.isLt ∧ Transmits s t
          ∧ t.eq = { s.eq with given := rest, records := s.eq.records ++ [.event q.tag e] })
    ∧ (s.eq.given = .rollOpen st :: rest → s.stations[st].state = .noRoll → m.opening = true →
      Completes (exec (.rollOpenQueued st) s) fun t =>
        OnlyChanges [.stations, .rolls, .ring, .eventQueue, .port] s t ∧ OthersSame st s.stations t.stations
          ∧ OthersSame st s.rolls t.rolls ∧ t.rolls[st].map = some { m with opening := false }
          ∧ t.stations[st].state = .ready ∧ t.stations[st].rollCheck = true
          ∧ t.ring.asks[st] = some ⟨b.camera, 0x02, [], .rollCheck⟩ ∧ Transmits s t
          ∧ t.eq = { s.eq with
              given := rest, records := s.eq.records ++ [.event 0 (.rollOpen st m.roll m.stock m.length)] })
    ∧ (∀ reason : CloseReason, s.eq.given = .rollReport st :: rest → s.stations[st].state = .unloading →
        s.stations[st].queue = [] → s.stations[st].pendingPost = none → m.closing = some reason → m.header = none →
        m.frames = [] →
      Completes (exec (.rollReportQueued st) s) fun t =>
        OnlyChanges [.stations, .rolls, .devices, .ring, .eventQueue, .port] s t ∧ OthersSame st s.stations t.stations
          ∧ OthersSame st s.rolls t.rolls ∧ t.rolls[st].map = none ∧ t.rolls[st].lastClose = some reason
          ∧ t.stations[st].state = .noRoll ∧ Transmits s t
          ∧ t.eq = { s.eq with
              given := rest
              records := s.eq.records ++ [.event 0 (.rollReport st m.roll m.stock reason (m.next - 1) 0 0 false)] })
    ∧ ∀ (reason : CloseReason) (h : Fin 320), s.eq.given = .rollReport st :: rest →
        s.stations[st].state ∈ [StationState.unloading, .ready, .waitingLabels] → s.stations[st].pendingPost = none →
        m.closing = some reason → m.header = some h → s.rolls[st].headerRequest = false →
        (∀ r ∈ m.frames, r.state ≠ .reserved) → s.composer.strips ≠ [] →
      Completes (exec (.rollReportQueued st) s) fun t =>
        OnlyChanges [.stations, .rolls, .composer, .devices, .ring, .eventQueue, .port] s t
          ∧ OthersSame st s.stations t.stations ∧ OthersSame st s.rolls t.rolls
          ∧ t.rolls[st] = { s.rolls[st] with map := none, lastClose := some reason }
          ∧ RollLess s.stations[st] t.stations[st] ∧ StripReleased s t st m h reason ∧ Transmits s t
          ∧ t.eq = { s.eq with given := rest, records := s.eq.records ++ [closeReport st m reason] }

/-! ### Arithmetic, prices, labels and reservations -/

/-- The stages of a lamp time (R44 to R52): the level sum is saturated to -144..144, the split rounds toward minus infinity, the
scale and the downward shift round to the nearest with one half up, the correction never shortens a time, the limits clamp, and
over all permitted inputs every intermediate value lies in the range that R55 lists. A channel's time and marks are the stages
taken in turn: it is LOW when it was at admission, its sum lies below -144 or its time below T_min, and HIGH when it was, its sum
lies above 144, its upward shift above 65535 or its time above T_max. A step's result has its three channels. -/
def Obligations.LampTimeStages : Prop :=
  (∀ z : Int, -144 ≤ admitIndex z ∧ admitIndex z ≤ 144)
    ∧ (∀ z : Int, (z < -144 → clampInt (-144) 144 z = -144) ∧ (144 < z → clampInt (-144) 144 z = 144)
        ∧ (-144 ≤ z → z ≤ 144 → clampInt (-144) 144 z = z))
    ∧ (∀ index balance trim offset : Int, ∀ inSet : Bool, -144 ≤ index → index ≤ 144 → -24 ≤ balance → balance ≤ 24 →
        -24 ≤ trim → trim ≤ 24 → -9 ≤ offset → offset ≤ 9 →
        -228 ≤ levelSum index balance trim offset inSet ∧ levelSum index balance trim offset inSet ≤ 228)
    ∧ (∀ level : Int, -144 ≤ level → level ≤ 144 → level = 12 * stops level + twelfths level ∧ twelfths level ≤ 11
        ∧ -12 ≤ stops level ∧ stops level ≤ 12)
    ∧ (∀ k : Stock, StockLegal k → ∀ level : Int, -144 ≤ level → level ≤ 144 → ∀ a b c : Nat,
        a = scale k.tRef (twelfths level) → b = stopShift a (stops level) → c = reciprocity b k.knee k.slope →
        (32768 ≤ mantissa (twelfths level) ∧ mantissa (twelfths level) ≤ 61858)
        ∧ (49152 ≤ k.tRef * mantissa (twelfths level) + 16384 ∧ k.tRef * mantissa (twelfths level) + 16384 ≤ 4053880414)
        ∧ (32768 * a ≤ k.tRef * mantissa (twelfths level) + 16384
            ∧ k.tRef * mantissa (twelfths level) + 16384 < 32768 * (a + 1))
        ∧ (twelfths level = 0 → a = k.tRef) ∧ (1 ≤ a ∧ a ≤ 123714)
        ∧ (0 ≤ stops level → b = min (a * 2 ^ (stops level).toNat) 65535
            ∧ 1 ≤ a * 2 ^ (stops level).toNat ∧ a * 2 ^ (stops level).toNat ≤ 506732544)
        ∧ (∀ n : Nat, stops level = -(n : Int) → 1 ≤ n → 2 ^ n * b ≤ a + 2 ^ (n - 1) ∧ a + 2 ^ (n - 1) < 2 ^ n * (b + 1)
            ∧ b ≤ 61857)
        ∧ b ≤ 65535 ∧ (b ≤ k.knee → c = b) ∧ b ≤ c ∧ (k.slope = 256 → c = b)
        ∧ (k.knee < b → c = k.knee + ((b - k.knee) * k.slope + 128) / 256 ∧ k.knee + 1 ≤ c ∧ 384 ≤ (b - k.knee) * k.slope + 128
            ∧ (b - k.knee) * k.slope + 128 ≤ 67041410 ∧ k.tMin ≤ c)
        ∧ c ≤ 261881 ∧ k.tMin ≤ limitTime c k.tMin k.tMax ∧ limitTime c k.tMin k.tMax ≤ k.tMax
        ∧ (k.tMin ≤ c → c ≤ k.tMax → limitTime c k.tMin k.tMax = c))
    ∧ (∀ (k : Stock) (balance index trim offset sum level q : Int) (inSet : Bool) (admission : Mark)
        (r mantissa a b c time : Nat), StockLegal k → sum = index + balance + trim + (if inSet then 4 * offset else 0) →
        level = max (-144) (min 144 sum) → level = 12 * q + r →
        (r, mantissa) ∈ ([(0, 32768), (1, 34716), (2, 36781), (3, 38968), (4, 41285), (5, 43740), (6, 46341), (7, 49097),
          (8, 52016), (9, 55109), (10, 58386), (11, 61858)] : List (Nat × Nat)) →
        a = (k.tRef * mantissa + 16384) / 32768 →
        b = (if 0 ≤ q then a * 2 ^ q.toNat else (a + 2 ^ (q.natAbs - 1)) / 2 ^ q.natAbs) →
        c = (if k.knee < min b 65535 then k.knee + ((min b 65535 - k.knee) * k.slope + 128) / 256 else min b 65535) →
        time = max k.tMin (min k.tMax c) →
        channelTime k balance index trim offset inSet admission =
          (time, ⟨admission.low || decide (sum < -144) || decide (c < k.tMin),
            admission.high || decide (144 < sum) || decide (0 ≤ q ∧ 65535 < b) || decide (k.tMax < c)⟩))
    ∧ (∀ (k : Stock) (trim index : Rgb Int) (admission : Rgb Mark) (p : PlanStep), StockLegal k →
        ∀ x y z : Nat × Mark, x = channelTime k k.balance.r index.r trim.r p.offset p.channels.r admission.r →
          y = channelTime k k.balance.g index.g trim.g p.offset p.channels.g admission.g →
          z = channelTime k k.balance.b index.b trim.b p.offset p.channels.b admission.b →
          stepTimes k trim index admission p = (⟨x.1, y.1, z.1⟩, ⟨x.2, y.2, z.2⟩)
            ∧ 3 ≤ x.1 + y.1 + z.1 ∧ x.1 + y.1 + z.1 ≤ 196605)
    ∧ ∀ times : Rgb Nat, (1 ≤ times.r ∧ times.r ≤ 65535) → (1 ≤ times.g ∧ times.g ≤ 65535) →
        (1 ≤ times.b ∧ times.b ≤ 65535) →
        2001 ≤ shotLimitMs times ∧ shotLimitMs times ≤ 21661
          ∧ times.r + times.g + times.b ≤ 10 * (shotLimitMs times - 2000)
          ∧ 10 * (shotLimitMs times - 2000) < times.r + times.g + times.b + 10

/-- Hold amounts and the fit test (R99, R100): the off-nominal price and the amounts of nominal and other frames, the sum of a
bracket set, which is exact, and an amount that fits exactly when spent + held + X is at or below the ceiling. -/
def Obligations.HoldAmountsAndFitTest : Prop :=
  (∀ t : Tariff, TariffLegal t → offNominal t = (t.framePrice * t.share + 128) / 256
      ∧ t.framePrice * t.share + 128 ≤ 16777088
      ∧ frameHold t true = t.framePrice + t.labelFee ∧ frameHold t false = offNominal t + t.labelFee
      ∧ (∀ nominal, frameHold t nominal ≤ 131070)
      ∧ (t.share = 256 → offNominal t = t.framePrice) ∧ (t.share = 0 → offNominal t = 0))
    ∧ (∀ recs : List FrameRec, recs.length ≤ 28 → (∀ r ∈ recs, r.hold ≤ 131070) →
        holdSum recs = (recs.map (·.hold)).sum ∧ holdSum recs ≤ 3669960)
    ∧ ∀ (a : Account) (x : Nat), (a.ceiling = none → fits a x = true)
        ∧ ∀ c, a.ceiling = some c → c ≤ 4294967294 → (fits a x = true ↔ a.spent + a.held + x ≤ c)

/-- Labels (R114 to R119): a line joins its non-empty pieces with one space and is cut to 24 characters; a frame label's lines are
its template's items, each rendered as R115 and R116 say; a void label and a header label read as R118 and R119 say and are never
cut. Printing (R125 to R131, R133): the ACK to a PRINT starts the print limit and the poll timer in CONFIRMING; a WAIT starts the
gap; the 200th, or a NAK, pauses the Composer REFUSED. A report with PRINTED frees the label's slot and sends the next PRINT, or
posts STRIP_PRINTED after the last label, which lowers a pending barrier's count and answers it DONE at 0. OUT_OF_STOCK or JAM
pauses; a report of READY without PRINTED ends a pause with a reprint of the same label; the loss of the printer pauses it LOST.
That every pause returns the WAIT count to 0 is the model's choice (assumption log 45); that a reprint is counted at its grant (log
24), and that a report of BUSY leaves the reason BUSY (log 26), is inferred. -/
def Obligations.LabelsComposedAndPrinted : Prop :=
  ((∀ n : Nat, n < 10 → decimal n = [u8 (0x30 + n)])
    ∧ (∀ n : Nat, 10 ≤ n → decimal n = decimal (n / 10) ++ [u8 (0x30 + n % 10)])
    ∧ (∀ pieces : List (List Byte), (composeLine pieces).length ≤ 24)
    ∧ (∀ pieces : List (List Byte), (∀ p ∈ pieces, ∀ b ∈ p, printable b = b) → ∀ b ∈ composeLine pieces, printable b = b)
    ∧ (∀ pieces : List (List Byte), composeLine (([] : List Byte) :: pieces) = composeLine pieces)
    ∧ (∀ (p : List Byte) (pieces : List (List Byte)), p ≠ [] → (∃ x ∈ pieces, x ≠ []) →
        composeLine (p :: pieces) = (p ++ [0x20] ++ composeLine pieces).take 24)
    ∧ (∀ p : List Byte, composeLine [p] = p.take 24)
    ∧ (∀ (items : List Item) (stand : StandText) (o : Order) (steps : List PlanStep) (roll : Nat) (r : FrameRec) (p : PlanStep)
        (w n : Nat) (letters stops mark : List Byte) (text : ItemKind → List Byte), steps[r.step - 1]? = some p →
        w = p.offset.natAbs / 3 → n = p.offset.natAbs % 3 →
        letters = (if p.channels.r = true ∧ p.channels.g = true ∧ p.channels.b = true then []
          else (if p.channels.r then word ['R'] else []) ++ (if p.channels.g then word ['G'] else [])
            ++ (if p.channels.b then word ['B'] else [])) →
        stops = (if n = 0 then decimal w else if w = 0 then decimal n ++ word ['/', '3']
          else decimal w ++ [0x20] ++ decimal n ++ word ['/', '3']) →
        mark = (if r.nominal then word ['N'] else letters ++ (if p.offset < 0 then word ['-'] else word ['+']) ++ stops)
          ++ (if r.marks.r.low ∨ r.marks.r.high ∨ r.marks.g.low ∨ r.marks.g.high ∨ r.marks.b.low ∨ r.marks.b.high then
              word ['!'] else [])
          ++ (if 1 < o.terms.copies then word ['c'] ++ decimal r.copy else []) →
        (∀ b, text (.literal b) = b) → text .course = o.terms.course → text .title = o.terms.title →
        text .order = decimal r.order → text .original = decimal r.original → text .stepmark = mark →
        text .frame = decimal r.number → text .roll = decimal roll → text .date = stand.date → text .stand = stand.name →
        frameLabel items stand o steps roll r =
          ⟨composeLine ((items.filter fun i => i.line == 1).map fun i => text i.kind),
            composeLine ((items.filter fun i => i.line == 2).map fun i => text i.kind)⟩)
    ∧ (∀ (reason : SpoilReason) (words : List Byte) (r : FrameRec), r.number ≤ 72 → r.order ≤ 65535 →
        (reason, words) ∈ ([(.aborted, word ['A', 'B', 'O', 'R', 'T', 'E', 'D']),
          (.uncertain, word ['U', 'N', 'C', 'E', 'R', 'T', 'A', 'I', 'N']), (.lamp, word ['L', 'A', 'M', 'P'])] :
          List (SpoilReason × List Byte)) →
        (voidLabel reason r).one = word ['V', 'O', 'I', 'D', ' '] ++ words ∧ (voidLabel reason r).one.length < 24
          ∧ (voidLabel reason r).two = word ['F', 'R', ' '] ++ decimal r.number ++ word [' ', 'O', 'R', 'D', ' ']
              ++ decimal r.order
          ∧ (voidLabel reason r).two.length < 24)
    ∧ ∀ (stand : StandText) (st : St) (m : RollMap) (reason : CloseReason), stand.name.length ≤ 8 → m.roll ≤ 65535 →
        m.stock ≤ 255 → m.next ≤ 73 → m.length ≤ 72 →
        (headerLabel stand st m reason).one.length ≤ 22 ∧ (headerLabel stand st m reason).two.length ≤ 21
          ∧ (headerLabel stand st m reason).one = (if stand.name = [] then [] else stand.name ++ [0x20])
              ++ word ['S'] ++ decimal (st.val + 1) ++ word [' ', 'R', 'O', 'L', 'L', ' '] ++ decimal m.roll
          ∧ (headerLabel stand st m reason).two = word ['S', 'T', 'O', 'C', 'K', ' '] ++ decimal m.stock ++ [0x20]
              ++ decimal (m.next - 1) ++ word ['/'] ++ decimal m.length
              ++ (if reason = .mismatch then word [' ', 'C', 'H', 'E', 'C', 'K'] else []))
  ∧ ∀ (s : State) (t : Transaction) (d : Device) (f : LinkFrame) (p : Strip) (rest : List Strip) (i : Fin 320),
    AnswersOpen s t d f → d.cls = .printer → d.link = .up → printerIdx s = some t.entry → s.composer.strips = p :: rest →
    p.labels[p.next]? = some i →
    (t.requester = .composer → t.purpose = .print → s.composer.print = .sending → d.busy = true →
      (f.kind = 0x11 → Completes (exec (.ackReceived f.wire) s) fun u =>
        OnlyChanges [.composer, .ring] s u ∧ u.ring = { s.ring with engine := none }
          ∧ u.composer = { s.composer with print := .confirming, printLimit := true, pollTimer := true, waits := 0 })
      ∧ (f.kind = 0x12 → s.composer.waits < 199 → Completes (exec (.waitReceived f.wire) s) fun u =>
        OnlyChanges [.composer, .ring] s u ∧ u.ring = { s.ring with engine := none }
          ∧ u.composer = { s.composer with waits := s.composer.waits + 1, gap := some .print })
      ∧ ∀ (c : Instr) (x : FaultRecord), s.capture.record = none → Room s 1 →
        (c = .nakReceived f.wire ∧ f.kind = 0x13
            ∧ x = ⟨.deviceNak, d.addr, 0x07, some p.st, none, none, some (f.payload.headD 0)⟩
          ∨ c = .waitReceived f.wire ∧ f.kind = 0x12 ∧ 199 ≤ s.composer.waits
            ∧ x = ⟨.waitLimit, d.addr, 0x07, some p.st, none, none, none⟩) →
        Completes (exec c s) fun u =>
          OnlyChanges [.composer, .ring, .devices, .capture, .eventQueue, .port] s u
            ∧ u.ring = { s.ring with engine := none } ∧ u.capture.record = some x ∧ Posted s u [.event 0 (.faultNotice x)]
            ∧ u.devices = s.devices.set t.entry.val (some { d with busy := false, idleTimer := true }) t.entry.isLt
            ∧ u.composer = { s.composer with
                print := .paused .refused, again := true, printLimit := false, pollTimer := false, gap := none, waits := 0 })
    ∧ (∀ (condition flags : Byte) (c : Condition), f.kind = 0x14 → f.payload = [condition, flags] →
      (condition, c) ∈ ([(0x00, .ready), (0x01, .busy), (0x02, .outOfStock), (0x03, .jam)] : List (Byte × Condition)) →
      s.composer.headerList = [] → s.composer.labelWaiters = [] → s.composer.pendingPost = none → t.request.kind = 0x02 →
      (t.requester = .composer ∧ t.purpose = .printPoll ∧ s.composer.print = .confirming ∧ d.busy = true
        ∨ t.requester = .idlePoller ∧ t.purpose = .idlePoll ∧ (∃ r, s.composer.print = .paused r) ∧ d.busy = false) →
      (flags = 0x01 → p.next + 1 < p.labels.length → c = .ready ∨ c = .busy →
        ∀ j, p.labels[p.next + 1]? = some j → j ≠ i → Completes (exec (.statusReplyReceived f.wire) s) fun u =>
          OnlyChanges [.composer, .ring, .devices] s u
            ∧ u.composer = { s.composer with
                condition := some c, attention := false, print := .sending, sent := true, again := false, waits := 0
                printLimit := false, pollTimer := false, gap := none
                slots := s.composer.slots.set i.val .free i.isLt, strips := { p with next := p.next + 1 } :: rest }
            ∧ u.devices = s.devices.set t.entry.val
                (some { d with busy := true, idleTimer := false, duePoll := false, tag := d.tag + 1 }) t.entry.isLt
            ∧ u.ring = { s.ring with
                lastGranted := .composer
                engine := some (granted s .composer t.entry d .print 0x07 (printPayload (slotLines s.composer j))) })
      ∧ (flags = 0x01 → p.next + 1 < p.labels.length → c = .outOfStock →
          Completes (exec (.statusReplyReceived f.wire) s) fun u =>
            OnlyChanges [.composer, .ring, .devices] s u ∧ u.ring = { s.ring with engine := none }
              ∧ u.composer = { s.composer with
                  condition := some c, attention := true, print := .paused .outOfStock, sent := false, again := true
                  waits := 0, printLimit := false, pollTimer := false, gap := none
                  slots := s.composer.slots.set i.val .free i.isLt, strips := { p with next := p.next + 1 } :: rest })
      ∧ (flags = 0x01 → p.next + 1 = p.labels.length → c = .ready ∨ c = .busy →
        (Room s 1 → rest = [] → s.composer.barrierCount = none → Completes (exec (.statusReplyReceived f.wire) s) fun u =>
          OnlyChanges [.composer, .ring, .devices, .eventQueue, .port] s u ∧ u.ring = { s.ring with engine := none }
            ∧ Posted s u [.event 0 (.stripPrinted p.st p.roll p.reason p.labels.length p.reprints)]
            ∧ u.devices = s.devices.set t.entry.val (some { d with busy := false, idleTimer := true }) t.entry.isLt
            ∧ u.composer = { s.composer with
                condition := some c, attention := false, print := .idle, sent := false, again := false, waits := 0
                printLimit := false, pollTimer := false, gap := none, heldPause := none
                slots := s.composer.slots.set i.val .free i.isLt, strips := [] })
        ∧ (∀ tag : Byte, Room s 1 → rest = [] → s.composer.barrierCount = some 1 → s.deferred = some tag →
          Completes (exec (.statusReplyReceived f.wire) s) fun u =>
            OnlyChanges [.composer, .ring, .devices, .eventQueue, .port, .deferred] s u
              ∧ u.composer.print = .idle ∧ u.composer.strips = [] ∧ u.composer.barrierCount = none ∧ u.deferred = none
              ∧ Transmits s u
              ∧ u.eq = { s.eq with
                  reserved := s.eq.reserved - 1
                  records := s.eq.records ++ [.event 0 (.stripPrinted p.st p.roll p.reason p.labels.length p.reprints),
                    .result tag .done []] })
        ∧ (∀ (n : Nat) (tag : Byte) (next : Strip) (more : List Strip) (j : Fin 320), Room s 1 → rest = next :: more →
          s.composer.barrierCount = some (n + 2) → s.deferred = some tag → next.labels[next.next]? = some j → j ≠ i →
          Completes (exec (.statusReplyReceived f.wire) s) fun u =>
            OnlyChanges [.composer, .ring, .devices, .eventQueue, .port] s u
              ∧ u.composer.print = .sending ∧ u.composer.strips = rest ∧ u.composer.barrierCount = some (n + 1)
              ∧ Posted s u [.event 0 (.stripPrinted p.st p.roll p.reason p.labels.length p.reprints)]
              ∧ u.ring = { s.ring with
                  lastGranted := .composer
                  engine := some (granted s .composer t.entry d .print 0x07 (printPayload (slotLines s.composer j))) })
        ∧ (freePlaces s.eq = 0 → Completes (exec (.statusReplyReceived f.wire) s) fun u =>
          OnlyChanges [.composer, .ring, .devices, .eventQueue] s u ∧ u.ring = { s.ring with engine := none }
            ∧ u.eq = { s.eq with waiters := s.eq.waiters ++ [.stripPrinted] } ∧ u.composer.print = .posting
            ∧ u.composer.strips = { p with next := p.next + 1 } :: rest
            ∧ u.composer.slots = s.composer.slots.set i.val .free i.isLt
            ∧ u.composer.pendingPost = some (.stripPrinted p.st p.roll p.reason p.labels.length p.reprints)))
      ∧ (flags = 0x00 → t.requester = .composer → c = .ready ∨ c = .busy →
          Completes (exec (.statusReplyReceived f.wire) s) fun u =>
            OnlyChanges [.composer, .ring] s u ∧ u.ring = { s.ring with engine := none }
              ∧ u.composer = { s.composer with condition := some c, attention := false, pollTimer := true })
      ∧ (flags = 0x00 → t.requester = .composer →
          c = .outOfStock ∨ c = .jam ∧ s.composer.condition ≠ some .jam ∧ s.capture.record = none ∧ Room s 1 →
          Completes (exec (.statusReplyReceived f.wire) s) fun u =>
            OnlyChanges [.composer, .ring, .devices, .capture, .eventQueue, .port] s u
              ∧ u.ring = { s.ring with engine := none }
              ∧ u.composer = { s.composer with
                  condition := some c, attention := true
                  print := .paused (if c = .jam then .jam else .outOfStock), again := true, waits := 0
                  printLimit := false, pollTimer := false, gap := none }
              ∧ u.devices = s.devices.set t.entry.val (some { d with busy := false, idleTimer := true }) t.entry.isLt
              ∧ (c = .outOfStock → u.capture = s.capture ∧ u.eq = s.eq)
              ∧ (c = .jam → u.capture.record = some ⟨.printerJam, d.addr, 0x07, some p.st, none, none, none⟩))
      ∧ (flags = 0x00 → t.requester = .idlePoller → c = .ready → Completes (exec (.statusReplyReceived f.wire) s) fun u =>
          OnlyChanges [.composer, .ring, .devices] s u
            ∧ u.composer = { s.composer with
                condition := some .ready, attention := false, print := .sending, sent := true, again := false
                strips := (if s.composer.again ∧ s.composer.sent then { p with reprints := min (p.reprints + 1) 65535 }
                  else p) :: rest }
            ∧ u.ring = { s.ring with
                lastGranted := .composer
                engine := some (granted s .composer t.entry d .print 0x07 (printPayload (slotLines s.composer i))) })
      ∧ (flags = 0x00 → t.requester = .idlePoller → c = .busy ∨ c = .outOfStock →
          Completes (exec (.statusReplyReceived f.wire) s) fun u =>
            OnlyChanges [.composer, .ring, .devices] s u ∧ u.ring = { s.ring with engine := none }
              ∧ u.composer = { s.composer with
                  condition := some c, attention := decide (c = .outOfStock)
                  print := .paused (if c = .busy then .busy else .outOfStock) }))
    ∧ (t.requester = .composer → t.purpose = .print ∨ t.purpose = .printPoll →
        s.composer.print = .sending ∨ s.composer.print = .confirming → 3 ≤ t.attempt → s.capture.record = none →
        Room s 1 → Unbound s d.addr → Completes (exec .replyWindowExpired s) fun u =>
          OnlyChanges [.composer, .ring, .devices, .capture, .eventQueue, .port] s u
            ∧ u.ring = { s.ring with engine := none }
            ∧ u.composer = { s.composer with
                print := .paused .lost, again := true, printLimit := false, pollTimer := false, gap := none, waits := 0 }
            ∧ u.devices = s.devices.set t.entry.val (some { d with
                link := .lost, busy := false, idleTimer := false, duePoll := false, wakeTimer := true }) t.entry.isLt
            ∧ u.capture.record = some ⟨.noReply, d.addr, t.request.kind, none, none, none, none⟩)

/-- A reservation is taken whole (R31 to R35, R121): MAP_CLOSED without an open map of the roll number; a bracket set longer than
the roll or than its free count, or on a map without its header slot, is refused and nothing changes; one that does not fit the
account is refused BUDGET and nothing changes; one that finds too few slots only makes its station a label waiter; one that stands
takes consecutive frames from N, step by step and copy by copy, each with its step's times and marks, its hold and a lowest FREE
slot, holds H and raises the reserved total. An EXPOSE to a READY station with an empty queue tries its head at once (R69, R70):
RESERVED stands at the first frame boundary; BUDGET and TOO_MANY_FRAMES end the request; NO_ROOM starts an unload; LABELS waits. -/
def Obligations.ReservationIsWhole : Prop :=
  (∀ (s : State) (st : St) (roll : Nat) (q : Request),
    (∀ m, s.rolls[st].map = some m → m.roll ≠ roll ∨ m.closing.isSome = true) → reserve st roll q s = (.mapClosed, s))
  ∧ (∀ (s : State) (st : St) (m : RollMap) (q : Request) (i : Fin 16) (o : Order) (steps : List PlanStep) (stock : Stock)
    (t : Tariff) (j : Fin 32) (a : Account) (n hold : Nat),
    s.rolls[st].map = some m → m.closing = none → OrderAt s i o → o.terms.number = q.order → 1 ≤ o.terms.copies →
    o.terms.copies ≤ 4 → s.plans[o.terms.plan] = some steps → PlanLegal steps → stockOf s m.stock = some stock →
    s.tariffs[o.cls] = some t → TariffLegal t → AccountAt s j a → a.number = o.terms.account →
    n = steps.length * o.terms.copies → hold = (steps.map fun p => o.terms.copies * frameHold t p.isNominal).sum →
    (m.length < n → reserve st m.roll q s = (.tooManyFrames, s))
    ∧ (n ≤ m.length →
      (m.length + 1 - m.next < n → reserve st m.roll q s = (.noRoom, s))
      ∧ (n ≤ m.length + 1 - m.next →
        (m.header = none → reserve st m.roll q s = (.labels, s))
        ∧ (m.header.isSome = true →
          (∀ c, a.ceiling = some c → c ≤ 4294967294 → c < a.spent + a.held + hold →
            reserve st m.roll q s = (.budget, s))
          ∧ ((∀ c, a.ceiling = some c → c ≤ 4294967294 ∧ a.spent + a.held + hold ≤ c) →
            (freeCount s.composer < n → ∃ u, reserve st m.roll q s = (.labels, u) ∧ OnlyChanges [.composer] s u
              ∧ u.composer = { s.composer with
                  labelWaiters := s.composer.labelWaiters.filter (fun w => w.1 != st) ++ [(st, n)] })
            ∧ (n ≤ freeCount s.composer → ∃ u recs, reserve st m.roll q s = (.reserved m.next n, u)
              ∧ OnlyChanges [.rolls, .orders, .accounts, .composer] s u ∧ OthersSame st s.rolls u.rolls
              ∧ u.rolls[st].map = some { m with frames := m.frames ++ recs, next := m.next + n }
              ∧ recs.map (·.number) = List.range' m.next n ∧ recs.map (·.slot) = (freeSlots s.composer).take n
              ∧ (∀ r ∈ recs, r.state = .reserved ∧ r.order = q.order ∧ r.original = q.original)
              ∧ (∀ (x y : Nat) (p : PlanStep), steps[x]? = some p → y < o.terms.copies →
                ∃ r, recs[x * o.terms.copies + y]? = some r ∧ r.number = m.next + x * o.terms.copies + y
                  ∧ r.step = x + 1 ∧ r.copy = y + 1 ∧ r.nominal = p.isNominal ∧ r.hold = frameHold t p.isNominal
                  ∧ (r.times, r.marks) = stepTimes stock o.terms.trim q.index q.marks p)
              ∧ (∀ r ∈ recs, u.composer.slots[r.slot] = .reserved (.frame st r.number))
              ∧ (∀ k : Fin 320, k ∉ (freeSlots s.composer).take n → u.composer.slots[k] = s.composer.slots[k])
              ∧ u.accounts = s.accounts.set j.val (some { a with held := a.held + hold }) j.isLt
              ∧ u.orders = s.orders.set i.val (some { o with reserved := min (o.reserved + n) 4294967295 }) i.isLt
              ∧ freeCount u.composer + n = freeCount s.composer))))))
  ∧ ∀ (s : State) (f : LinkFrame) (e e' p p' : Byte) (indices : List Byte) (st : St) (b : Binding) (m : RollMap)
    (i : Fin 16) (o : Order) (steps : List PlanStep) (stock : Stock) (t : Tariff) (j : Fin 32) (a : Account) (n hold : Nat),
    Steady s → InHandIs s f .intercept → f.payload = [e, e', p, p'] ++ indices → indices.length = 6 →
    1 ≤ s.eq.reserved → e.toNat * 256 + e'.toNat = o.terms.number → o.terms.number ≠ 0 → 1 ≤ p.toNat * 256 + p'.toNat →
    p.toNat * 256 + p'.toNat ≤ 9999 → cameraStation s f.dst = some st → s.bindings[st].enabled = true → BoundUp s st b →
    OrderAt s i o → o.closing = false → o.terms.station = st → s.stations[st].state = .ready →
    s.stations[st].rollCheck = false → s.stations[st].rollEnd = false → s.stations[st].pendingPost = none →
    s.stations[st].leftUp = false → s.stations[st].queue = [] → s.rolls[st].map = some m → m.closing = none →
    1 ≤ o.terms.copies → o.terms.copies ≤ 4 → s.plans[o.terms.plan] = some steps → PlanLegal steps →
    stockOf s m.stock = some stock → s.tariffs[o.cls] = some t → TariffLegal t → AccountAt s j a →
    a.number = o.terms.account → n = steps.length * o.terms.copies →
    hold = (steps.map fun p => o.terms.copies * frameHold t p.isNominal).sum →
    (m.length < n ∨ n ≤ m.length ∧ n ≤ m.length + 1 - m.next ∧ m.header.isSome = true
        ∧ (∃ c, a.ceiling = some c ∧ c ≤ 4294967294 ∧ c < a.spent + a.held + hold) →
      Room s 1 → Completes (exec .expose s) fun u =>
        OnlyChanges [.port, .inHand, .eventQueue, .stations, .orders, .devices] s u
          ∧ Answered s u f .done [] [.event f.tag (.requestDone o.terms.number (p.toNat * 256 + p'.toNat) 0 0 0 0
              (if m.length < n then .tooManyFrames else .budget))]
          ∧ OthersSame st s.stations u.stations ∧ u.stations[st].state = .ready ∧ u.stations[st].queue = []
          ∧ u.orders = s.orders)
    ∧ (n ≤ m.length → m.length + 1 - m.next < n → Completes (exec .expose s) fun u =>
        OnlyChanges [.port, .inHand, .eventQueue, .stations, .orders, .devices, .ring] s u ∧ Answered s u f .done [] []
          ∧ OthersSame st s.stations u.stations ∧ u.stations[st].state = .unloading
          ∧ (headOf u st).map (fun q => (q.order, q.original, q.tag, q.state, q.frames))
            = some (o.terms.number, p.toNat * 256 + p'.toNat, f.tag, .waitingFilm, none)
          ∧ u.orders = s.orders.set i.val (some { o with outstanding := o.outstanding + 1 }) i.isLt
          ∧ u.ring.asks[st] = some ⟨b.camera, 0x06, [], .rewind⟩)
    ∧ (n ≤ m.length → n ≤ m.length + 1 - m.next →
        m.header = none ∨ freeCount s.composer < n
          ∧ (∀ c, a.ceiling = some c → c ≤ 4294967294 ∧ a.spent + a.held + hold ≤ c) →
        Completes (exec .expose s) fun u =>
          OnlyChanges [.port, .inHand, .eventQueue, .stations, .orders, .composer] s u ∧ Answered s u f .done [] []
            ∧ OthersSame st s.stations u.stations ∧ u.stations[st].state = .waitingLabels
            ∧ (headOf u st).map (fun q => (q.order, q.original, q.tag, q.state, q.frames))
              = some (o.terms.number, p.toNat * 256 + p'.toNat, f.tag, .waitingLabels, none)
            ∧ u.composer = (if m.header = none then s.composer else { s.composer with
                labelWaiters := s.composer.labelWaiters.filter (fun w => w.1 != st) ++ [(st, n)] })
            ∧ u.orders = s.orders.set i.val (some { o with outstanding := o.outstanding + 1 }) i.isLt)
    ∧ (n ≤ m.length → n ≤ m.length + 1 - m.next → m.header.isSome = true →
        (∀ c, a.ceiling = some c → c ≤ 4294967294 ∧ a.spent + a.held + hold ≤ c) → n ≤ freeCount s.composer →
        m.gate = m.next → (∀ r ∈ m.frames, r.number < m.next) → Completes (exec .expose s) fun u =>
          OnlyChanges [.port, .inHand, .eventQueue, .stations, .orders, .accounts, .rolls, .composer, .devices, .ring] s u
            ∧ Answered s u f .done [] [] ∧ OthersSame st s.stations u.stations ∧ OthersSame st s.rolls u.rolls
            ∧ (headOf u st).map (fun q => (q.order, q.original, q.tag, q.state, q.frames, q.step, q.copy))
              = some (o.terms.number, p.toNat * 256 + p'.toNat, f.tag, .running, some ⟨m.roll, m.next, n⟩, 1, 1)
            ∧ u.orders = s.orders.set i.val (some { o with
                outstanding := o.outstanding + 1, reserved := min (o.reserved + n) 4294967295 }) i.isLt
            ∧ u.accounts = s.accounts.set j.val (some { a with held := a.held + hold }) j.isLt
            ∧ u.rolls[st].map.map (fun m' => (m'.roll, m'.gate, m'.next, m'.frames.length))
              = some (m.roll, m.gate, m.next + n, m.frames.length + n)
            ∧ (s.pins.hold[st] = true → u.stations[st].state = .held ∧ u.stations[st].phase = none ∧ u.ring = s.ring)
            ∧ (s.pins.hold[st] = false → u.stations[st].state = .running ∧ u.stations[st].phase = some .lampSet
              ∧ ∃ r, gateRecord u st = some r ∧ r.number = m.gate ∧ r.step = 1 ∧ r.copy = 1 ∧ r.state = .reserved
                ∧ u.ring.asks[st] = some ⟨b.lamp, 0x03, be16 r.times.r ++ be16 r.times.g ++ be16 r.times.b, .lampSet⟩))

/-! ### The whole machine -/

/-- ATTN is asserted exactly while a station is SUSPENDED or WAITING, printer attention is set, or the capture holds a fault, and
never while nRESET is low (R200). -/
def Obligations.AttnFollowsConditions : Prop :=
  (∀ s : State, attn s = true ↔ Live s ∧
      ((∃ st : St, s.stations[st].state = .suspended ∨ s.stations[st].state = .waitingFilm
          ∨ s.stations[st].state = .waitingLabels)
        ∨ s.composer.attention = true ∨ s.capture.record.isSome = true))
    ∧ (∀ (a r b : Bool) (s : State), Completes (exec (.pinReset a r b) s) fun t => attn t = false)
    ∧ ∀ (s : State) (f : LinkFrame), Hands s f 0x2C [] → Completes (exec .restart s) fun t => attn t = false

/-- Every command keeps the Stock, Plan, Window, Tariff and Station Tables legal: each present entry has its fields in the ranges of
2.1, 4.1, 4.2, 5.2 and 5.3. -/
def Obligations.TablesStayLegal : Prop :=
  ∀ (c : Instr) (s t : State), TablesLegal s → exec c s = .next t → TablesLegal t

/-- Every step keeps the places of the Event Queue accounted for: each reserved place belongs to one unanswered frame, no more than
16 places are held, and the deferred-reply slot is filled exactly while a barrier is pending (R164, R170, R177). -/
def Obligations.PlacesStayAccounted : Prop :=
  ∀ s t : State, PlacesKept s → step s = .next t → PlacesKept t

/-- Every step keeps at most four receive buffers in use and at most four requests in each exposure queue (R68, R162). -/
def Obligations.BuffersAndQueuesStayBounded : Prop :=
  ∀ s t : State, step s = .next t → (BuffersKept s → BuffersKept t) ∧ (QueuesKept s → QueuesKept t)

/-- A fault that the capture holds is kept by every command but FAULT_READ, RESTART and the pin reset, and so is its LOST marker
(R197 to R199). -/
def Obligations.FirstFaultIsKept : Prop :=
  ∀ (c : Instr) (s t : State) (x : FaultRecord), s.capture.record = some x → exec c s = .next t → c ≠ .faultRead →
    c ≠ .restart → (∀ a r b, c ≠ .pinReset a r b) →
    t.capture.record = some x ∧ (s.capture.lost = true → t.capture.lost = true)

/-- What only its own command changes: each static table is changed by its TABLE_WRITE alone (the enabled flags by ENABLE and
DISABLE too), the straps by the pin reset alone, the account numbers and ceilings by the account write, and the terms and class of
an order not at all while its entry is not FREE (R2). No command touches the commands that wait. -/
def Obligations.StaticStateIsKept : Prop :=
  ∀ (c : Instr) (s t : State), exec c s = .next t → t.pending = s.pending ∧
    ((∀ a r b, c ≠ .pinReset a r b) →
      (t.pins.addrSel = s.pins.addrSel ∧ t.pins.consoleRate = s.pins.consoleRate)
      ∧ (c ≠ .stockTableWrite → t.stocks = s.stocks) ∧ (c ≠ .planTableWrite → t.plans = s.plans)
      ∧ (c ≠ .windowTableWrite → t.windows = s.windows) ∧ (c ≠ .tariffTableWrite → t.tariffs = s.tariffs)
      ∧ (c ≠ .stationTableWrite → c ≠ .enable → c ≠ .disable → t.bindings = s.bindings)
      ∧ (c ≠ .templateTableWrite → t.composer.templates = s.composer.templates)
      ∧ (c ≠ .standTextWrite → t.composer.stand = s.composer.stand)
      ∧ (c ≠ .accountTableWrite → ∀ j : Fin 32,
          t.accounts[j].map (fun a => (a.number, a.ceiling)) = s.accounts[j].map fun a => (a.number, a.ceiling))
      ∧ ∀ (i : Fin 16) (o o' : Order), s.orders[i] = some o → t.orders[i] = some o' → o'.terms = o.terms ∧ o'.cls = o.cls)

end
end

