-- ==== Sys2Proof/Laws/State.lean ====
section
/-! SUPPORT. The field lemmas of State: what each named update leaves in each field, and how a table with one entry changed
reads. -/

namespace Sys2Proof.Machine

section
variable {α : Type} {n : Nat}

@[simp] theorem upd_self (v : Vector α n) (i : Fin n) (f : α → α) : (upd v i f)[i] = f v[i] := by
  simp [upd]

theorem upd_ne (v : Vector α n) (i j : Fin n) (f : α → α) (h : j ≠ i) : (upd v i f)[j] = v[j] := by
  have : i.val ≠ j.val := fun e => h (Fin.ext e.symm)
  simp [upd, this]

theorem upd_get (v : Vector α n) (i j : Fin n) (f : α → α) : (upd v i f)[j] = if j = i then f v[j] else v[j] := by
  by_cases h : j = i
  · subst h; rw [if_pos rfl]; exact upd_self v j f
  · rw [if_neg h, upd_ne v i j f h]

theorem set_self (v : Vector α n) (i : Fin n) (x : α) : (v.set i.val x i.isLt)[i] = x := by simp

theorem set_ne (v : Vector α n) (i j : Fin n) (x : α) (h : j ≠ i) : (v.set i.val x i.isLt)[j] = v[j] := by
  have : i.val ≠ j.val := fun e => h (Fin.ext e.symm)
  simp [this]

theorem set_get (v : Vector α n) (i j : Fin n) (x : α) : (v.set i.val x i.isLt)[j] = if j = i then x else v[j] := by
  by_cases h : j = i
  · subst h; rw [if_pos rfl]; exact set_self v j x
  · rw [if_neg h, set_ne v i j x h]

/-- A change that keeps what a table holds at an entry. -/
theorem upd_same (v : Vector α n) (i : Fin n) (f : α → α) (h : f v[i] = v[i]) : upd v i f = v := by
  apply Vector.ext; intro j hj
  have := upd_get v i ⟨j, hj⟩ f
  simp only [Fin.getElem_fin] at this
  rw [this]; split
  · next e => subst e; exact h
  · rfl

/-- A changed table has the other entries as they were. -/
theorem othersSame_upd (v : Vector α n) (i : Fin n) (f : α → α) : OthersSame i v (upd v i f) :=
  fun j h => upd_ne v i j f h

theorem othersSame_set (v : Vector α n) (i : Fin n) (x : α) : OthersSame i v (v.set i.val x i.isLt) :=
  fun j h => set_ne v i j x h

theorem othersSame_refl (v : Vector α n) (i : Fin n) : OthersSame i v v := fun _ _ => rfl

theorem OthersSame.trans {i : Fin n} {u v w : Vector α n} (h : OthersSame i u v) (k : OthersSame i v w) : OthersSame i u w :=
  fun j hj => (k j hj).trans (h j hj)

end

section
variable (st : St) (f : Station → Station) (s : State)

@[simp] theorem modStation_pins : (modStation st f s).pins = s.pins := rfl
@[simp] theorem modStation_port : (modStation st f s).port = s.port := rfl
@[simp] theorem modStation_inHand : (modStation st f s).inHand = s.inHand := rfl
@[simp] theorem modStation_deferred : (modStation st f s).deferred = s.deferred := rfl
@[simp] theorem modStation_eq : (modStation st f s).eq = s.eq := rfl
@[simp] theorem modStation_orders : (modStation st f s).orders = s.orders := rfl
@[simp] theorem modStation_stocks : (modStation st f s).stocks = s.stocks := rfl
@[simp] theorem modStation_plans : (modStation st f s).plans = s.plans := rfl
@[simp] theorem modStation_bindings : (modStation st f s).bindings = s.bindings := rfl
@[simp] theorem modStation_stations : (modStation st f s).stations = upd s.stations st f := rfl
@[simp] theorem modStation_rolls : (modStation st f s).rolls = s.rolls := rfl
@[simp] theorem modStation_windows : (modStation st f s).windows = s.windows := rfl
@[simp] theorem modStation_tariffs : (modStation st f s).tariffs = s.tariffs := rfl
@[simp] theorem modStation_accounts : (modStation st f s).accounts = s.accounts := rfl
@[simp] theorem modStation_composer : (modStation st f s).composer = s.composer := rfl
@[simp] theorem modStation_devices : (modStation st f s).devices = s.devices := rfl
@[simp] theorem modStation_ring : (modStation st f s).ring = s.ring := rfl
@[simp] theorem modStation_slot : (modStation st f s).slot = s.slot := rfl
@[simp] theorem modStation_capture : (modStation st f s).capture = s.capture := rfl
@[simp] theorem modStation_pending : (modStation st f s).pending = s.pending := rfl

end

section
variable (st : St) (f : RollRec → RollRec) (s : State)

@[simp] theorem modRoll_pins : (modRoll st f s).pins = s.pins := rfl
@[simp] theorem modRoll_port : (modRoll st f s).port = s.port := rfl
@[simp] theorem modRoll_inHand : (modRoll st f s).inHand = s.inHand := rfl
@[simp] theorem modRoll_deferred : (modRoll st f s).deferred = s.deferred := rfl
@[simp] theorem modRoll_eq : (modRoll st f s).eq = s.eq := rfl
@[simp] theorem modRoll_orders : (modRoll st f s).orders = s.orders := rfl
@[simp] theorem modRoll_stocks : (modRoll st f s).stocks = s.stocks := rfl
@[simp] theorem modRoll_plans : (modRoll st f s).plans = s.plans := rfl
@[simp] theorem modRoll_bindings : (modRoll st f s).bindings = s.bindings := rfl
@[simp] theorem modRoll_stations : (modRoll st f s).stations = s.stations := rfl
@[simp] theorem modRoll_rolls : (modRoll st f s).rolls = upd s.rolls st f := rfl
@[simp] theorem modRoll_windows : (modRoll st f s).windows = s.windows := rfl
@[simp] theorem modRoll_tariffs : (modRoll st f s).tariffs = s.tariffs := rfl
@[simp] theorem modRoll_accounts : (modRoll st f s).accounts = s.accounts := rfl
@[simp] theorem modRoll_composer : (modRoll st f s).composer = s.composer := rfl
@[simp] theorem modRoll_devices : (modRoll st f s).devices = s.devices := rfl
@[simp] theorem modRoll_ring : (modRoll st f s).ring = s.ring := rfl
@[simp] theorem modRoll_slot : (modRoll st f s).slot = s.slot := rfl
@[simp] theorem modRoll_capture : (modRoll st f s).capture = s.capture := rfl
@[simp] theorem modRoll_pending : (modRoll st f s).pending = s.pending := rfl

end

section
variable (st : St) (f : RollMap → RollMap) (s : State)

@[simp] theorem modMap_pins : (modMap st f s).pins = s.pins := rfl
@[simp] theorem modMap_port : (modMap st f s).port = s.port := rfl
@[simp] theorem modMap_inHand : (modMap st f s).inHand = s.inHand := rfl
@[simp] theorem modMap_deferred : (modMap st f s).deferred = s.deferred := rfl
@[simp] theorem modMap_eq : (modMap st f s).eq = s.eq := rfl
@[simp] theorem modMap_orders : (modMap st f s).orders = s.orders := rfl
@[simp] theorem modMap_stocks : (modMap st f s).stocks = s.stocks := rfl
@[simp] theorem modMap_plans : (modMap st f s).plans = s.plans := rfl
@[simp] theorem modMap_bindings : (modMap st f s).bindings = s.bindings := rfl
@[simp] theorem modMap_stations : (modMap st f s).stations = s.stations := rfl
@[simp] theorem modMap_rolls : (modMap st f s).rolls = upd s.rolls st fun r => { r with map := r.map.map f } := rfl
@[simp] theorem modMap_windows : (modMap st f s).windows = s.windows := rfl
@[simp] theorem modMap_tariffs : (modMap st f s).tariffs = s.tariffs := rfl
@[simp] theorem modMap_accounts : (modMap st f s).accounts = s.accounts := rfl
@[simp] theorem modMap_composer : (modMap st f s).composer = s.composer := rfl
@[simp] theorem modMap_devices : (modMap st f s).devices = s.devices := rfl
@[simp] theorem modMap_ring : (modMap st f s).ring = s.ring := rfl
@[simp] theorem modMap_slot : (modMap st f s).slot = s.slot := rfl
@[simp] theorem modMap_capture : (modMap st f s).capture = s.capture := rfl
@[simp] theorem modMap_pending : (modMap st f s).pending = s.pending := rfl

end

section
variable (st : St) (f : Request → Request) (s : State)

@[simp] theorem modHead_pins : (modHead st f s).pins = s.pins := rfl
@[simp] theorem modHead_port : (modHead st f s).port = s.port := rfl
@[simp] theorem modHead_inHand : (modHead st f s).inHand = s.inHand := rfl
@[simp] theorem modHead_deferred : (modHead st f s).deferred = s.deferred := rfl
@[simp] theorem modHead_eq : (modHead st f s).eq = s.eq := rfl
@[simp] theorem modHead_orders : (modHead st f s).orders = s.orders := rfl
@[simp] theorem modHead_stocks : (modHead st f s).stocks = s.stocks := rfl
@[simp] theorem modHead_plans : (modHead st f s).plans = s.plans := rfl
@[simp] theorem modHead_bindings : (modHead st f s).bindings = s.bindings := rfl
@[simp] theorem modHead_stations : (modHead st f s).stations = upd s.stations st fun x => { x with queue := x.queue.modifyHead f } := rfl
@[simp] theorem modHead_rolls : (modHead st f s).rolls = s.rolls := rfl
@[simp] theorem modHead_windows : (modHead st f s).windows = s.windows := rfl
@[simp] theorem modHead_tariffs : (modHead st f s).tariffs = s.tariffs := rfl
@[simp] theorem modHead_accounts : (modHead st f s).accounts = s.accounts := rfl
@[simp] theorem modHead_composer : (modHead st f s).composer = s.composer := rfl
@[simp] theorem modHead_devices : (modHead st f s).devices = s.devices := rfl
@[simp] theorem modHead_ring : (modHead st f s).ring = s.ring := rfl
@[simp] theorem modHead_slot : (modHead st f s).slot = s.slot := rfl
@[simp] theorem modHead_capture : (modHead st f s).capture = s.capture := rfl
@[simp] theorem modHead_pending : (modHead st f s).pending = s.pending := rfl

end

section
variable (i : Fin 16) (f : Device → Device) (s : State)

@[simp] theorem modDevice_pins : (modDevice i f s).pins = s.pins := rfl
@[simp] theorem modDevice_port : (modDevice i f s).port = s.port := rfl
@[simp] theorem modDevice_inHand : (modDevice i f s).inHand = s.inHand := rfl
@[simp] theorem modDevice_deferred : (modDevice i f s).deferred = s.deferred := rfl
@[simp] theorem modDevice_eq : (modDevice i f s).eq = s.eq := rfl
@[simp] theorem modDevice_orders : (modDevice i f s).orders = s.orders := rfl
@[simp] theorem modDevice_stocks : (modDevice i f s).stocks = s.stocks := rfl
@[simp] theorem modDevice_plans : (modDevice i f s).plans = s.plans := rfl
@[simp] theorem modDevice_bindings : (modDevice i f s).bindings = s.bindings := rfl
@[simp] theorem modDevice_stations : (modDevice i f s).stations = s.stations := rfl
@[simp] theorem modDevice_rolls : (modDevice i f s).rolls = s.rolls := rfl
@[simp] theorem modDevice_windows : (modDevice i f s).windows = s.windows := rfl
@[simp] theorem modDevice_tariffs : (modDevice i f s).tariffs = s.tariffs := rfl
@[simp] theorem modDevice_accounts : (modDevice i f s).accounts = s.accounts := rfl
@[simp] theorem modDevice_composer : (modDevice i f s).composer = s.composer := rfl
@[simp] theorem modDevice_devices : (modDevice i f s).devices = upd s.devices i (Option.map f) := rfl
@[simp] theorem modDevice_ring : (modDevice i f s).ring = s.ring := rfl
@[simp] theorem modDevice_slot : (modDevice i f s).slot = s.slot := rfl
@[simp] theorem modDevice_capture : (modDevice i f s).capture = s.capture := rfl
@[simp] theorem modDevice_pending : (modDevice i f s).pending = s.pending := rfl

end

section
variable (i : Fin 16) (f : Order → Order) (s : State)

@[simp] theorem modOrder_pins : (modOrder i f s).pins = s.pins := rfl
@[simp] theorem modOrder_port : (modOrder i f s).port = s.port := rfl
@[simp] theorem modOrder_inHand : (modOrder i f s).inHand = s.inHand := rfl
@[simp] theorem modOrder_deferred : (modOrder i f s).deferred = s.deferred := rfl
@[simp] theorem modOrder_eq : (modOrder i f s).eq = s.eq := rfl
@[simp] theorem modOrder_orders : (modOrder i f s).orders = upd s.orders i (Option.map f) := rfl
@[simp] theorem modOrder_stocks : (modOrder i f s).stocks = s.stocks := rfl
@[simp] theorem modOrder_plans : (modOrder i f s).plans = s.plans := rfl
@[simp] theorem modOrder_bindings : (modOrder i f s).bindings = s.bindings := rfl
@[simp] theorem modOrder_stations : (modOrder i f s).stations = s.stations := rfl
@[simp] theorem modOrder_rolls : (modOrder i f s).rolls = s.rolls := rfl
@[simp] theorem modOrder_windows : (modOrder i f s).windows = s.windows := rfl
@[simp] theorem modOrder_tariffs : (modOrder i f s).tariffs = s.tariffs := rfl
@[simp] theorem modOrder_accounts : (modOrder i f s).accounts = s.accounts := rfl
@[simp] theorem modOrder_composer : (modOrder i f s).composer = s.composer := rfl
@[simp] theorem modOrder_devices : (modOrder i f s).devices = s.devices := rfl
@[simp] theorem modOrder_ring : (modOrder i f s).ring = s.ring := rfl
@[simp] theorem modOrder_slot : (modOrder i f s).slot = s.slot := rfl
@[simp] theorem modOrder_capture : (modOrder i f s).capture = s.capture := rfl
@[simp] theorem modOrder_pending : (modOrder i f s).pending = s.pending := rfl

end

section
variable (i : Fin 32) (f : Account → Account) (s : State)

@[simp] theorem modAccount_pins : (modAccount i f s).pins = s.pins := rfl
@[simp] theorem modAccount_port : (modAccount i f s).port = s.port := rfl
@[simp] theorem modAccount_inHand : (modAccount i f s).inHand = s.inHand := rfl
@[simp] theorem modAccount_deferred : (modAccount i f s).deferred = s.deferred := rfl
@[simp] theorem modAccount_eq : (modAccount i f s).eq = s.eq := rfl
@[simp] theorem modAccount_orders : (modAccount i f s).orders = s.orders := rfl
@[simp] theorem modAccount_stocks : (modAccount i f s).stocks = s.stocks := rfl
@[simp] theorem modAccount_plans : (modAccount i f s).plans = s.plans := rfl
@[simp] theorem modAccount_bindings : (modAccount i f s).bindings = s.bindings := rfl
@[simp] theorem modAccount_stations : (modAccount i f s).stations = s.stations := rfl
@[simp] theorem modAccount_rolls : (modAccount i f s).rolls = s.rolls := rfl
@[simp] theorem modAccount_windows : (modAccount i f s).windows = s.windows := rfl
@[simp] theorem modAccount_tariffs : (modAccount i f s).tariffs = s.tariffs := rfl
@[simp] theorem modAccount_accounts : (modAccount i f s).accounts = upd s.accounts i (Option.map f) := rfl
@[simp] theorem modAccount_composer : (modAccount i f s).composer = s.composer := rfl
@[simp] theorem modAccount_devices : (modAccount i f s).devices = s.devices := rfl
@[simp] theorem modAccount_ring : (modAccount i f s).ring = s.ring := rfl
@[simp] theorem modAccount_slot : (modAccount i f s).slot = s.slot := rfl
@[simp] theorem modAccount_capture : (modAccount i f s).capture = s.capture := rfl
@[simp] theorem modAccount_pending : (modAccount i f s).pending = s.pending := rfl

end

section
variable (f : Composer → Composer) (s : State)

@[simp] theorem modComposer_pins : (modComposer f s).pins = s.pins := rfl
@[simp] theorem modComposer_port : (modComposer f s).port = s.port := rfl
@[simp] theorem modComposer_inHand : (modComposer f s).inHand = s.inHand := rfl
@[simp] theorem modComposer_deferred : (modComposer f s).deferred = s.deferred := rfl
@[simp] theorem modComposer_eq : (modComposer f s).eq = s.eq := rfl
@[simp] theorem modComposer_orders : (modComposer f s).orders = s.orders := rfl
@[simp] theorem modComposer_stocks : (modComposer f s).stocks = s.stocks := rfl
@[simp] theorem modComposer_plans : (modComposer f s).plans = s.plans := rfl
@[simp] theorem modComposer_bindings : (modComposer f s).bindings = s.bindings := rfl
@[simp] theorem modComposer_stations : (modComposer f s).stations = s.stations := rfl
@[simp] theorem modComposer_rolls : (modComposer f s).rolls = s.rolls := rfl
@[simp] theorem modComposer_windows : (modComposer f s).windows = s.windows := rfl
@[simp] theorem modComposer_tariffs : (modComposer f s).tariffs = s.tariffs := rfl
@[simp] theorem modComposer_accounts : (modComposer f s).accounts = s.accounts := rfl
@[simp] theorem modComposer_composer : (modComposer f s).composer = f s.composer := rfl
@[simp] theorem modComposer_devices : (modComposer f s).devices = s.devices := rfl
@[simp] theorem modComposer_ring : (modComposer f s).ring = s.ring := rfl
@[simp] theorem modComposer_slot : (modComposer f s).slot = s.slot := rfl
@[simp] theorem modComposer_capture : (modComposer f s).capture = s.capture := rfl
@[simp] theorem modComposer_pending : (modComposer f s).pending = s.pending := rfl

end

section
variable (f : Ring → Ring) (s : State)

@[simp] theorem modRing_pins : (modRing f s).pins = s.pins := rfl
@[simp] theorem modRing_port : (modRing f s).port = s.port := rfl
@[simp] theorem modRing_inHand : (modRing f s).inHand = s.inHand := rfl
@[simp] theorem modRing_deferred : (modRing f s).deferred = s.deferred := rfl
@[simp] theorem modRing_eq : (modRing f s).eq = s.eq := rfl
@[simp] theorem modRing_orders : (modRing f s).orders = s.orders := rfl
@[simp] theorem modRing_stocks : (modRing f s).stocks = s.stocks := rfl
@[simp] theorem modRing_plans : (modRing f s).plans = s.plans := rfl
@[simp] theorem modRing_bindings : (modRing f s).bindings = s.bindings := rfl
@[simp] theorem modRing_stations : (modRing f s).stations = s.stations := rfl
@[simp] theorem modRing_rolls : (modRing f s).rolls = s.rolls := rfl
@[simp] theorem modRing_windows : (modRing f s).windows = s.windows := rfl
@[simp] theorem modRing_tariffs : (modRing f s).tariffs = s.tariffs := rfl
@[simp] theorem modRing_accounts : (modRing f s).accounts = s.accounts := rfl
@[simp] theorem modRing_composer : (modRing f s).composer = s.composer := rfl
@[simp] theorem modRing_devices : (modRing f s).devices = s.devices := rfl
@[simp] theorem modRing_ring : (modRing f s).ring = f s.ring := rfl
@[simp] theorem modRing_slot : (modRing f s).slot = s.slot := rfl
@[simp] theorem modRing_capture : (modRing f s).capture = s.capture := rfl
@[simp] theorem modRing_pending : (modRing f s).pending = s.pending := rfl

end

section
variable (i : Fin 16) (s : State)

@[simp] theorem freeOrder_pins : (freeOrder i s).pins = s.pins := rfl
@[simp] theorem freeOrder_port : (freeOrder i s).port = s.port := rfl
@[simp] theorem freeOrder_inHand : (freeOrder i s).inHand = s.inHand := rfl
@[simp] theorem freeOrder_deferred : (freeOrder i s).deferred = s.deferred := rfl
@[simp] theorem freeOrder_eq : (freeOrder i s).eq = s.eq := rfl
@[simp] theorem freeOrder_orders : (freeOrder i s).orders = s.orders.set i.val none i.isLt := rfl
@[simp] theorem freeOrder_stocks : (freeOrder i s).stocks = s.stocks := rfl
@[simp] theorem freeOrder_plans : (freeOrder i s).plans = s.plans := rfl
@[simp] theorem freeOrder_bindings : (freeOrder i s).bindings = s.bindings := rfl
@[simp] theorem freeOrder_stations : (freeOrder i s).stations = s.stations := rfl
@[simp] theorem freeOrder_rolls : (freeOrder i s).rolls = s.rolls := rfl
@[simp] theorem freeOrder_windows : (freeOrder i s).windows = s.windows := rfl
@[simp] theorem freeOrder_tariffs : (freeOrder i s).tariffs = s.tariffs := rfl
@[simp] theorem freeOrder_accounts : (freeOrder i s).accounts = s.accounts := rfl
@[simp] theorem freeOrder_composer : (freeOrder i s).composer = s.composer := rfl
@[simp] theorem freeOrder_devices : (freeOrder i s).devices = s.devices := rfl
@[simp] theorem freeOrder_ring : (freeOrder i s).ring = s.ring := rfl
@[simp] theorem freeOrder_slot : (freeOrder i s).slot = s.slot := rfl
@[simp] theorem freeOrder_capture : (freeOrder i s).capture = s.capture := rfl
@[simp] theorem freeOrder_pending : (freeOrder i s).pending = s.pending := rfl

end

section
variable (i : Fin 320) (x : Slot) (s : State)

@[simp] theorem setSlot_pins : (setSlot i x s).pins = s.pins := rfl
@[simp] theorem setSlot_port : (setSlot i x s).port = s.port := rfl
@[simp] theorem setSlot_inHand : (setSlot i x s).inHand = s.inHand := rfl
@[simp] theorem setSlot_deferred : (setSlot i x s).deferred = s.deferred := rfl
@[simp] theorem setSlot_eq : (setSlot i x s).eq = s.eq := rfl
@[simp] theorem setSlot_orders : (setSlot i x s).orders = s.orders := rfl
@[simp] theorem setSlot_stocks : (setSlot i x s).stocks = s.stocks := rfl
@[simp] theorem setSlot_plans : (setSlot i x s).plans = s.plans := rfl
@[simp] theorem setSlot_bindings : (setSlot i x s).bindings = s.bindings := rfl
@[simp] theorem setSlot_stations : (setSlot i x s).stations = s.stations := rfl
@[simp] theorem setSlot_rolls : (setSlot i x s).rolls = s.rolls := rfl
@[simp] theorem setSlot_windows : (setSlot i x s).windows = s.windows := rfl
@[simp] theorem setSlot_tariffs : (setSlot i x s).tariffs = s.tariffs := rfl
@[simp] theorem setSlot_accounts : (setSlot i x s).accounts = s.accounts := rfl
@[simp] theorem setSlot_composer : (setSlot i x s).composer = { s.composer with slots := s.composer.slots.set i.val x i.isLt } := rfl
@[simp] theorem setSlot_devices : (setSlot i x s).devices = s.devices := rfl
@[simp] theorem setSlot_ring : (setSlot i x s).ring = s.ring := rfl
@[simp] theorem setSlot_slot : (setSlot i x s).slot = s.slot := rfl
@[simp] theorem setSlot_capture : (setSlot i x s).capture = s.capture := rfl
@[simp] theorem setSlot_pending : (setSlot i x s).pending = s.pending := rfl

end

section
variable (st : St) (s : State)

@[simp] theorem dropAsk_pins : (dropAsk st s).pins = s.pins := rfl
@[simp] theorem dropAsk_port : (dropAsk st s).port = s.port := rfl
@[simp] theorem dropAsk_inHand : (dropAsk st s).inHand = s.inHand := rfl
@[simp] theorem dropAsk_deferred : (dropAsk st s).deferred = s.deferred := rfl
@[simp] theorem dropAsk_eq : (dropAsk st s).eq = s.eq := rfl
@[simp] theorem dropAsk_orders : (dropAsk st s).orders = s.orders := rfl
@[simp] theorem dropAsk_stocks : (dropAsk st s).stocks = s.stocks := rfl
@[simp] theorem dropAsk_plans : (dropAsk st s).plans = s.plans := rfl
@[simp] theorem dropAsk_bindings : (dropAsk st s).bindings = s.bindings := rfl
@[simp] theorem dropAsk_stations : (dropAsk st s).stations = s.stations := rfl
@[simp] theorem dropAsk_rolls : (dropAsk st s).rolls = s.rolls := rfl
@[simp] theorem dropAsk_windows : (dropAsk st s).windows = s.windows := rfl
@[simp] theorem dropAsk_tariffs : (dropAsk st s).tariffs = s.tariffs := rfl
@[simp] theorem dropAsk_accounts : (dropAsk st s).accounts = s.accounts := rfl
@[simp] theorem dropAsk_composer : (dropAsk st s).composer = s.composer := rfl
@[simp] theorem dropAsk_devices : (dropAsk st s).devices = s.devices := rfl
@[simp] theorem dropAsk_ring : (dropAsk st s).ring = { s.ring with asks := s.ring.asks.set st.val none st.isLt } := rfl
@[simp] theorem dropAsk_slot : (dropAsk st s).slot = s.slot := rfl
@[simp] theorem dropAsk_capture : (dropAsk st s).capture = s.capture := rfl
@[simp] theorem dropAsk_pending : (dropAsk st s).pending = s.pending := rfl

end

section
variable (s : State)

@[simp] theorem dropComposerAsk_pins : (dropComposerAsk s).pins = s.pins := rfl
@[simp] theorem dropComposerAsk_port : (dropComposerAsk s).port = s.port := rfl
@[simp] theorem dropComposerAsk_inHand : (dropComposerAsk s).inHand = s.inHand := rfl
@[simp] theorem dropComposerAsk_deferred : (dropComposerAsk s).deferred = s.deferred := rfl
@[simp] theorem dropComposerAsk_eq : (dropComposerAsk s).eq = s.eq := rfl
@[simp] theorem dropComposerAsk_orders : (dropComposerAsk s).orders = s.orders := rfl
@[simp] theorem dropComposerAsk_stocks : (dropComposerAsk s).stocks = s.stocks := rfl
@[simp] theorem dropComposerAsk_plans : (dropComposerAsk s).plans = s.plans := rfl
@[simp] theorem dropComposerAsk_bindings : (dropComposerAsk s).bindings = s.bindings := rfl
@[simp] theorem dropComposerAsk_stations : (dropComposerAsk s).stations = s.stations := rfl
@[simp] theorem dropComposerAsk_rolls : (dropComposerAsk s).rolls = s.rolls := rfl
@[simp] theorem dropComposerAsk_windows : (dropComposerAsk s).windows = s.windows := rfl
@[simp] theorem dropComposerAsk_tariffs : (dropComposerAsk s).tariffs = s.tariffs := rfl
@[simp] theorem dropComposerAsk_accounts : (dropComposerAsk s).accounts = s.accounts := rfl
@[simp] theorem dropComposerAsk_composer : (dropComposerAsk s).composer = s.composer := rfl
@[simp] theorem dropComposerAsk_devices : (dropComposerAsk s).devices = s.devices := rfl
@[simp] theorem dropComposerAsk_ring : (dropComposerAsk s).ring = { s.ring with composerAsk := none } := rfl
@[simp] theorem dropComposerAsk_slot : (dropComposerAsk s).slot = s.slot := rfl
@[simp] theorem dropComposerAsk_capture : (dropComposerAsk s).capture = s.capture := rfl
@[simp] theorem dropComposerAsk_pending : (dropComposerAsk s).pending = s.pending := rfl

end

section
variable (r : Requester) (s : State)

@[simp] theorem detach_pins : (detach r s).pins = s.pins := rfl
@[simp] theorem detach_port : (detach r s).port = s.port := rfl
@[simp] theorem detach_inHand : (detach r s).inHand = s.inHand := rfl
@[simp] theorem detach_deferred : (detach r s).deferred = s.deferred := rfl
@[simp] theorem detach_eq : (detach r s).eq = s.eq := rfl
@[simp] theorem detach_orders : (detach r s).orders = s.orders := rfl
@[simp] theorem detach_stocks : (detach r s).stocks = s.stocks := rfl
@[simp] theorem detach_plans : (detach r s).plans = s.plans := rfl
@[simp] theorem detach_bindings : (detach r s).bindings = s.bindings := rfl
@[simp] theorem detach_stations : (detach r s).stations = s.stations := rfl
@[simp] theorem detach_rolls : (detach r s).rolls = s.rolls := rfl
@[simp] theorem detach_windows : (detach r s).windows = s.windows := rfl
@[simp] theorem detach_tariffs : (detach r s).tariffs = s.tariffs := rfl
@[simp] theorem detach_accounts : (detach r s).accounts = s.accounts := rfl
@[simp] theorem detach_composer : (detach r s).composer = s.composer := rfl
@[simp] theorem detach_devices : (detach r s).devices = s.devices := rfl
@[simp] theorem detach_ring : (detach r s).ring = { s.ring with engine := s.ring.engine.map fun t => if t.requester = r then { t with detached := true } else t } := rfl
@[simp] theorem detach_slot : (detach r s).slot = s.slot := rfl
@[simp] theorem detach_capture : (detach r s).capture = s.capture := rfl
@[simp] theorem detach_pending : (detach r s).pending = s.pending := rfl

end

section
variable (s : State)

@[simp] theorem endGrant_pins : (endGrant s).pins = s.pins := rfl
@[simp] theorem endGrant_port : (endGrant s).port = s.port := rfl
@[simp] theorem endGrant_inHand : (endGrant s).inHand = s.inHand := rfl
@[simp] theorem endGrant_deferred : (endGrant s).deferred = s.deferred := rfl
@[simp] theorem endGrant_eq : (endGrant s).eq = s.eq := rfl
@[simp] theorem endGrant_orders : (endGrant s).orders = s.orders := rfl
@[simp] theorem endGrant_stocks : (endGrant s).stocks = s.stocks := rfl
@[simp] theorem endGrant_plans : (endGrant s).plans = s.plans := rfl
@[simp] theorem endGrant_bindings : (endGrant s).bindings = s.bindings := rfl
@[simp] theorem endGrant_stations : (endGrant s).stations = s.stations := rfl
@[simp] theorem endGrant_rolls : (endGrant s).rolls = s.rolls := rfl
@[simp] theorem endGrant_windows : (endGrant s).windows = s.windows := rfl
@[simp] theorem endGrant_tariffs : (endGrant s).tariffs = s.tariffs := rfl
@[simp] theorem endGrant_accounts : (endGrant s).accounts = s.accounts := rfl
@[simp] theorem endGrant_composer : (endGrant s).composer = s.composer := rfl
@[simp] theorem endGrant_devices : (endGrant s).devices = s.devices := rfl
@[simp] theorem endGrant_ring : (endGrant s).ring = { s.ring with engine := none } := rfl
@[simp] theorem endGrant_slot : (endGrant s).slot = s.slot := rfl
@[simp] theorem endGrant_capture : (endGrant s).capture = s.capture := rfl
@[simp] theorem endGrant_pending : (endGrant s).pending = s.pending := rfl

end

section
variable (i : Fin 16) (s : State)

@[simp] theorem orphanEngine_pins : (orphanEngine i s).pins = s.pins := rfl
@[simp] theorem orphanEngine_port : (orphanEngine i s).port = s.port := rfl
@[simp] theorem orphanEngine_inHand : (orphanEngine i s).inHand = s.inHand := rfl
@[simp] theorem orphanEngine_deferred : (orphanEngine i s).deferred = s.deferred := rfl
@[simp] theorem orphanEngine_eq : (orphanEngine i s).eq = s.eq := rfl
@[simp] theorem orphanEngine_orders : (orphanEngine i s).orders = s.orders := rfl
@[simp] theorem orphanEngine_stocks : (orphanEngine i s).stocks = s.stocks := rfl
@[simp] theorem orphanEngine_plans : (orphanEngine i s).plans = s.plans := rfl
@[simp] theorem orphanEngine_bindings : (orphanEngine i s).bindings = s.bindings := rfl
@[simp] theorem orphanEngine_stations : (orphanEngine i s).stations = s.stations := rfl
@[simp] theorem orphanEngine_rolls : (orphanEngine i s).rolls = s.rolls := rfl
@[simp] theorem orphanEngine_windows : (orphanEngine i s).windows = s.windows := rfl
@[simp] theorem orphanEngine_tariffs : (orphanEngine i s).tariffs = s.tariffs := rfl
@[simp] theorem orphanEngine_accounts : (orphanEngine i s).accounts = s.accounts := rfl
@[simp] theorem orphanEngine_composer : (orphanEngine i s).composer = s.composer := rfl
@[simp] theorem orphanEngine_devices : (orphanEngine i s).devices = s.devices := rfl
@[simp] theorem orphanEngine_ring : (orphanEngine i s).ring = { s.ring with engine := s.ring.engine.map fun t => if t.entry = i then { t with orphan := true } else t } := rfl
@[simp] theorem orphanEngine_slot : (orphanEngine i s).slot = s.slot := rfl
@[simp] theorem orphanEngine_capture : (orphanEngine i s).capture = s.capture := rfl
@[simp] theorem orphanEngine_pending : (orphanEngine i s).pending = s.pending := rfl

end

section
variable (a : Byte) (s : State)

@[simp] theorem dropAsksFor_pins : (dropAsksFor a s).pins = s.pins := rfl
@[simp] theorem dropAsksFor_port : (dropAsksFor a s).port = s.port := rfl
@[simp] theorem dropAsksFor_inHand : (dropAsksFor a s).inHand = s.inHand := rfl
@[simp] theorem dropAsksFor_deferred : (dropAsksFor a s).deferred = s.deferred := rfl
@[simp] theorem dropAsksFor_eq : (dropAsksFor a s).eq = s.eq := rfl
@[simp] theorem dropAsksFor_orders : (dropAsksFor a s).orders = s.orders := rfl
@[simp] theorem dropAsksFor_stocks : (dropAsksFor a s).stocks = s.stocks := rfl
@[simp] theorem dropAsksFor_plans : (dropAsksFor a s).plans = s.plans := rfl
@[simp] theorem dropAsksFor_bindings : (dropAsksFor a s).bindings = s.bindings := rfl
@[simp] theorem dropAsksFor_stations : (dropAsksFor a s).stations = s.stations := rfl
@[simp] theorem dropAsksFor_rolls : (dropAsksFor a s).rolls = s.rolls := rfl
@[simp] theorem dropAsksFor_windows : (dropAsksFor a s).windows = s.windows := rfl
@[simp] theorem dropAsksFor_tariffs : (dropAsksFor a s).tariffs = s.tariffs := rfl
@[simp] theorem dropAsksFor_accounts : (dropAsksFor a s).accounts = s.accounts := rfl
@[simp] theorem dropAsksFor_composer : (dropAsksFor a s).composer = s.composer := rfl
@[simp] theorem dropAsksFor_devices : (dropAsksFor a s).devices = s.devices := rfl
@[simp] theorem dropAsksFor_slot : (dropAsksFor a s).slot = s.slot := rfl
@[simp] theorem dropAsksFor_capture : (dropAsksFor a s).capture = s.capture := rfl
@[simp] theorem dropAsksFor_pending : (dropAsksFor a s).pending = s.pending := rfl

end

section
variable (w : Waiter) (s : State)

@[simp] theorem withdrawWaiter_pins : (withdrawWaiter w s).pins = s.pins := rfl
@[simp] theorem withdrawWaiter_port : (withdrawWaiter w s).port = s.port := rfl
@[simp] theorem withdrawWaiter_inHand : (withdrawWaiter w s).inHand = s.inHand := rfl
@[simp] theorem withdrawWaiter_deferred : (withdrawWaiter w s).deferred = s.deferred := rfl
@[simp] theorem withdrawWaiter_eq : (withdrawWaiter w s).eq = servePlace { s.eq with given := s.eq.given.erase w, waiters := s.eq.waiters.erase w } := rfl
@[simp] theorem withdrawWaiter_orders : (withdrawWaiter w s).orders = s.orders := rfl
@[simp] theorem withdrawWaiter_stocks : (withdrawWaiter w s).stocks = s.stocks := rfl
@[simp] theorem withdrawWaiter_plans : (withdrawWaiter w s).plans = s.plans := rfl
@[simp] theorem withdrawWaiter_bindings : (withdrawWaiter w s).bindings = s.bindings := rfl
@[simp] theorem withdrawWaiter_stations : (withdrawWaiter w s).stations = s.stations := rfl
@[simp] theorem withdrawWaiter_rolls : (withdrawWaiter w s).rolls = s.rolls := rfl
@[simp] theorem withdrawWaiter_windows : (withdrawWaiter w s).windows = s.windows := rfl
@[simp] theorem withdrawWaiter_tariffs : (withdrawWaiter w s).tariffs = s.tariffs := rfl
@[simp] theorem withdrawWaiter_accounts : (withdrawWaiter w s).accounts = s.accounts := rfl
@[simp] theorem withdrawWaiter_composer : (withdrawWaiter w s).composer = s.composer := rfl
@[simp] theorem withdrawWaiter_devices : (withdrawWaiter w s).devices = s.devices := rfl
@[simp] theorem withdrawWaiter_ring : (withdrawWaiter w s).ring = s.ring := rfl
@[simp] theorem withdrawWaiter_slot : (withdrawWaiter w s).slot = s.slot := rfl
@[simp] theorem withdrawWaiter_capture : (withdrawWaiter w s).capture = s.capture := rfl
@[simp] theorem withdrawWaiter_pending : (withdrawWaiter w s).pending = s.pending := rfl

end

section
variable (bytes : List Byte) (stage : RxStage) (s : State)

@[simp] theorem setRx_pins : (setRx bytes stage s).pins = s.pins := rfl
@[simp] theorem setRx_port : (setRx bytes stage s).port = { s.port with rx := ⟨bytes, stage⟩ } := rfl
@[simp] theorem setRx_inHand : (setRx bytes stage s).inHand = s.inHand := rfl
@[simp] theorem setRx_deferred : (setRx bytes stage s).deferred = s.deferred := rfl
@[simp] theorem setRx_eq : (setRx bytes stage s).eq = s.eq := rfl
@[simp] theorem setRx_orders : (setRx bytes stage s).orders = s.orders := rfl
@[simp] theorem setRx_stocks : (setRx bytes stage s).stocks = s.stocks := rfl
@[simp] theorem setRx_plans : (setRx bytes stage s).plans = s.plans := rfl
@[simp] theorem setRx_bindings : (setRx bytes stage s).bindings = s.bindings := rfl
@[simp] theorem setRx_stations : (setRx bytes stage s).stations = s.stations := rfl
@[simp] theorem setRx_rolls : (setRx bytes stage s).rolls = s.rolls := rfl
@[simp] theorem setRx_windows : (setRx bytes stage s).windows = s.windows := rfl
@[simp] theorem setRx_tariffs : (setRx bytes stage s).tariffs = s.tariffs := rfl
@[simp] theorem setRx_accounts : (setRx bytes stage s).accounts = s.accounts := rfl
@[simp] theorem setRx_composer : (setRx bytes stage s).composer = s.composer := rfl
@[simp] theorem setRx_devices : (setRx bytes stage s).devices = s.devices := rfl
@[simp] theorem setRx_ring : (setRx bytes stage s).ring = s.ring := rfl
@[simp] theorem setRx_slot : (setRx bytes stage s).slot = s.slot := rfl
@[simp] theorem setRx_capture : (setRx bytes stage s).capture = s.capture := rfl
@[simp] theorem setRx_pending : (setRx bytes stage s).pending = s.pending := rfl

end

section
variable (st : St) (level : Bool) (s : State)

@[simp] theorem setHold_pins : (setHold st level s).pins = { s.pins with hold := s.pins.hold.set st.val level st.isLt } := rfl
@[simp] theorem setHold_port : (setHold st level s).port = s.port := rfl
@[simp] theorem setHold_inHand : (setHold st level s).inHand = s.inHand := rfl
@[simp] theorem setHold_deferred : (setHold st level s).deferred = s.deferred := rfl
@[simp] theorem setHold_eq : (setHold st level s).eq = s.eq := rfl
@[simp] theorem setHold_orders : (setHold st level s).orders = s.orders := rfl
@[simp] theorem setHold_stocks : (setHold st level s).stocks = s.stocks := rfl
@[simp] theorem setHold_plans : (setHold st level s).plans = s.plans := rfl
@[simp] theorem setHold_bindings : (setHold st level s).bindings = s.bindings := rfl
@[simp] theorem setHold_stations : (setHold st level s).stations = s.stations := rfl
@[simp] theorem setHold_rolls : (setHold st level s).rolls = s.rolls := rfl
@[simp] theorem setHold_windows : (setHold st level s).windows = s.windows := rfl
@[simp] theorem setHold_tariffs : (setHold st level s).tariffs = s.tariffs := rfl
@[simp] theorem setHold_accounts : (setHold st level s).accounts = s.accounts := rfl
@[simp] theorem setHold_composer : (setHold st level s).composer = s.composer := rfl
@[simp] theorem setHold_devices : (setHold st level s).devices = s.devices := rfl
@[simp] theorem setHold_ring : (setHold st level s).ring = s.ring := rfl
@[simp] theorem setHold_slot : (setHold st level s).slot = s.slot := rfl
@[simp] theorem setHold_capture : (setHold st level s).capture = s.capture := rfl
@[simp] theorem setHold_pending : (setHold st level s).pending = s.pending := rfl

end

section
variable (st : St) (b : Bool) (s : State)

@[simp] theorem setEnabled_pins : (setEnabled st b s).pins = s.pins := rfl
@[simp] theorem setEnabled_port : (setEnabled st b s).port = s.port := rfl
@[simp] theorem setEnabled_inHand : (setEnabled st b s).inHand = s.inHand := rfl
@[simp] theorem setEnabled_deferred : (setEnabled st b s).deferred = s.deferred := rfl
@[simp] theorem setEnabled_eq : (setEnabled st b s).eq = s.eq := rfl
@[simp] theorem setEnabled_orders : (setEnabled st b s).orders = s.orders := rfl
@[simp] theorem setEnabled_stocks : (setEnabled st b s).stocks = s.stocks := rfl
@[simp] theorem setEnabled_plans : (setEnabled st b s).plans = s.plans := rfl
@[simp] theorem setEnabled_bindings : (setEnabled st b s).bindings = upd s.bindings st fun e => { e with enabled := b } := rfl
@[simp] theorem setEnabled_stations : (setEnabled st b s).stations = s.stations := rfl
@[simp] theorem setEnabled_rolls : (setEnabled st b s).rolls = s.rolls := rfl
@[simp] theorem setEnabled_windows : (setEnabled st b s).windows = s.windows := rfl
@[simp] theorem setEnabled_tariffs : (setEnabled st b s).tariffs = s.tariffs := rfl
@[simp] theorem setEnabled_accounts : (setEnabled st b s).accounts = s.accounts := rfl
@[simp] theorem setEnabled_composer : (setEnabled st b s).composer = s.composer := rfl
@[simp] theorem setEnabled_devices : (setEnabled st b s).devices = s.devices := rfl
@[simp] theorem setEnabled_ring : (setEnabled st b s).ring = s.ring := rfl
@[simp] theorem setEnabled_slot : (setEnabled st b s).slot = s.slot := rfl
@[simp] theorem setEnabled_capture : (setEnabled st b s).capture = s.capture := rfl
@[simp] theorem setEnabled_pending : (setEnabled st b s).pending = s.pending := rfl

end

section
variable (st : St) (b : Option Binding) (s : State)

@[simp] theorem setBinding_pins : (setBinding st b s).pins = s.pins := rfl
@[simp] theorem setBinding_port : (setBinding st b s).port = s.port := rfl
@[simp] theorem setBinding_inHand : (setBinding st b s).inHand = s.inHand := rfl
@[simp] theorem setBinding_deferred : (setBinding st b s).deferred = s.deferred := rfl
@[simp] theorem setBinding_eq : (setBinding st b s).eq = s.eq := rfl
@[simp] theorem setBinding_orders : (setBinding st b s).orders = s.orders := rfl
@[simp] theorem setBinding_stocks : (setBinding st b s).stocks = s.stocks := rfl
@[simp] theorem setBinding_plans : (setBinding st b s).plans = s.plans := rfl
@[simp] theorem setBinding_bindings : (setBinding st b s).bindings = upd s.bindings st fun e => { e with binding := b } := rfl
@[simp] theorem setBinding_stations : (setBinding st b s).stations = s.stations := rfl
@[simp] theorem setBinding_rolls : (setBinding st b s).rolls = s.rolls := rfl
@[simp] theorem setBinding_windows : (setBinding st b s).windows = s.windows := rfl
@[simp] theorem setBinding_tariffs : (setBinding st b s).tariffs = s.tariffs := rfl
@[simp] theorem setBinding_accounts : (setBinding st b s).accounts = s.accounts := rfl
@[simp] theorem setBinding_composer : (setBinding st b s).composer = s.composer := rfl
@[simp] theorem setBinding_devices : (setBinding st b s).devices = s.devices := rfl
@[simp] theorem setBinding_ring : (setBinding st b s).ring = s.ring := rfl
@[simp] theorem setBinding_slot : (setBinding st b s).slot = s.slot := rfl
@[simp] theorem setBinding_capture : (setBinding st b s).capture = s.capture := rfl
@[simp] theorem setBinding_pending : (setBinding st b s).pending = s.pending := rfl

end

section
variable (i : Fin 8) (k : Option Stock) (s : State)

@[simp] theorem setStock_pins : (setStock i k s).pins = s.pins := rfl
@[simp] theorem setStock_port : (setStock i k s).port = s.port := rfl
@[simp] theorem setStock_inHand : (setStock i k s).inHand = s.inHand := rfl
@[simp] theorem setStock_deferred : (setStock i k s).deferred = s.deferred := rfl
@[simp] theorem setStock_eq : (setStock i k s).eq = s.eq := rfl
@[simp] theorem setStock_orders : (setStock i k s).orders = s.orders := rfl
@[simp] theorem setStock_stocks : (setStock i k s).stocks = s.stocks.set i.val k i.isLt := rfl
@[simp] theorem setStock_plans : (setStock i k s).plans = s.plans := rfl
@[simp] theorem setStock_bindings : (setStock i k s).bindings = s.bindings := rfl
@[simp] theorem setStock_stations : (setStock i k s).stations = s.stations := rfl
@[simp] theorem setStock_rolls : (setStock i k s).rolls = s.rolls := rfl
@[simp] theorem setStock_windows : (setStock i k s).windows = s.windows := rfl
@[simp] theorem setStock_tariffs : (setStock i k s).tariffs = s.tariffs := rfl
@[simp] theorem setStock_accounts : (setStock i k s).accounts = s.accounts := rfl
@[simp] theorem setStock_composer : (setStock i k s).composer = s.composer := rfl
@[simp] theorem setStock_devices : (setStock i k s).devices = s.devices := rfl
@[simp] theorem setStock_ring : (setStock i k s).ring = s.ring := rfl
@[simp] theorem setStock_slot : (setStock i k s).slot = s.slot := rfl
@[simp] theorem setStock_capture : (setStock i k s).capture = s.capture := rfl
@[simp] theorem setStock_pending : (setStock i k s).pending = s.pending := rfl

end

section
variable (i : Fin 8) (p : Option (List PlanStep)) (s : State)

@[simp] theorem setPlan_pins : (setPlan i p s).pins = s.pins := rfl
@[simp] theorem setPlan_port : (setPlan i p s).port = s.port := rfl
@[simp] theorem setPlan_inHand : (setPlan i p s).inHand = s.inHand := rfl
@[simp] theorem setPlan_deferred : (setPlan i p s).deferred = s.deferred := rfl
@[simp] theorem setPlan_eq : (setPlan i p s).eq = s.eq := rfl
@[simp] theorem setPlan_orders : (setPlan i p s).orders = s.orders := rfl
@[simp] theorem setPlan_stocks : (setPlan i p s).stocks = s.stocks := rfl
@[simp] theorem setPlan_plans : (setPlan i p s).plans = s.plans.set i.val p i.isLt := rfl
@[simp] theorem setPlan_bindings : (setPlan i p s).bindings = s.bindings := rfl
@[simp] theorem setPlan_stations : (setPlan i p s).stations = s.stations := rfl
@[simp] theorem setPlan_rolls : (setPlan i p s).rolls = s.rolls := rfl
@[simp] theorem setPlan_windows : (setPlan i p s).windows = s.windows := rfl
@[simp] theorem setPlan_tariffs : (setPlan i p s).tariffs = s.tariffs := rfl
@[simp] theorem setPlan_accounts : (setPlan i p s).accounts = s.accounts := rfl
@[simp] theorem setPlan_composer : (setPlan i p s).composer = s.composer := rfl
@[simp] theorem setPlan_devices : (setPlan i p s).devices = s.devices := rfl
@[simp] theorem setPlan_ring : (setPlan i p s).ring = s.ring := rfl
@[simp] theorem setPlan_slot : (setPlan i p s).slot = s.slot := rfl
@[simp] theorem setPlan_capture : (setPlan i p s).capture = s.capture := rfl
@[simp] theorem setPlan_pending : (setPlan i p s).pending = s.pending := rfl

end

section
variable (i : Fin 8) (w : Option Window) (s : State)

@[simp] theorem setWindow_pins : (setWindow i w s).pins = s.pins := rfl
@[simp] theorem setWindow_port : (setWindow i w s).port = s.port := rfl
@[simp] theorem setWindow_inHand : (setWindow i w s).inHand = s.inHand := rfl
@[simp] theorem setWindow_deferred : (setWindow i w s).deferred = s.deferred := rfl
@[simp] theorem setWindow_eq : (setWindow i w s).eq = s.eq := rfl
@[simp] theorem setWindow_orders : (setWindow i w s).orders = s.orders := rfl
@[simp] theorem setWindow_stocks : (setWindow i w s).stocks = s.stocks := rfl
@[simp] theorem setWindow_plans : (setWindow i w s).plans = s.plans := rfl
@[simp] theorem setWindow_bindings : (setWindow i w s).bindings = s.bindings := rfl
@[simp] theorem setWindow_stations : (setWindow i w s).stations = s.stations := rfl
@[simp] theorem setWindow_rolls : (setWindow i w s).rolls = s.rolls := rfl
@[simp] theorem setWindow_windows : (setWindow i w s).windows = s.windows.set i.val w i.isLt := rfl
@[simp] theorem setWindow_tariffs : (setWindow i w s).tariffs = s.tariffs := rfl
@[simp] theorem setWindow_accounts : (setWindow i w s).accounts = s.accounts := rfl
@[simp] theorem setWindow_composer : (setWindow i w s).composer = s.composer := rfl
@[simp] theorem setWindow_devices : (setWindow i w s).devices = s.devices := rfl
@[simp] theorem setWindow_ring : (setWindow i w s).ring = s.ring := rfl
@[simp] theorem setWindow_slot : (setWindow i w s).slot = s.slot := rfl
@[simp] theorem setWindow_capture : (setWindow i w s).capture = s.capture := rfl
@[simp] theorem setWindow_pending : (setWindow i w s).pending = s.pending := rfl

end

section
variable (i : Fin 8) (t : Option Tariff) (s : State)

@[simp] theorem setTariff_pins : (setTariff i t s).pins = s.pins := rfl
@[simp] theorem setTariff_port : (setTariff i t s).port = s.port := rfl
@[simp] theorem setTariff_inHand : (setTariff i t s).inHand = s.inHand := rfl
@[simp] theorem setTariff_deferred : (setTariff i t s).deferred = s.deferred := rfl
@[simp] theorem setTariff_eq : (setTariff i t s).eq = s.eq := rfl
@[simp] theorem setTariff_orders : (setTariff i t s).orders = s.orders := rfl
@[simp] theorem setTariff_stocks : (setTariff i t s).stocks = s.stocks := rfl
@[simp] theorem setTariff_plans : (setTariff i t s).plans = s.plans := rfl
@[simp] theorem setTariff_bindings : (setTariff i t s).bindings = s.bindings := rfl
@[simp] theorem setTariff_stations : (setTariff i t s).stations = s.stations := rfl
@[simp] theorem setTariff_rolls : (setTariff i t s).rolls = s.rolls := rfl
@[simp] theorem setTariff_windows : (setTariff i t s).windows = s.windows := rfl
@[simp] theorem setTariff_tariffs : (setTariff i t s).tariffs = s.tariffs.set i.val t i.isLt := rfl
@[simp] theorem setTariff_accounts : (setTariff i t s).accounts = s.accounts := rfl
@[simp] theorem setTariff_composer : (setTariff i t s).composer = s.composer := rfl
@[simp] theorem setTariff_devices : (setTariff i t s).devices = s.devices := rfl
@[simp] theorem setTariff_ring : (setTariff i t s).ring = s.ring := rfl
@[simp] theorem setTariff_slot : (setTariff i t s).slot = s.slot := rfl
@[simp] theorem setTariff_capture : (setTariff i t s).capture = s.capture := rfl
@[simp] theorem setTariff_pending : (setTariff i t s).pending = s.pending := rfl

end

section
variable (i : Fin 32) (a : Option Account) (s : State)

@[simp] theorem setAccount_pins : (setAccount i a s).pins = s.pins := rfl
@[simp] theorem setAccount_port : (setAccount i a s).port = s.port := rfl
@[simp] theorem setAccount_inHand : (setAccount i a s).inHand = s.inHand := rfl
@[simp] theorem setAccount_deferred : (setAccount i a s).deferred = s.deferred := rfl
@[simp] theorem setAccount_eq : (setAccount i a s).eq = s.eq := rfl
@[simp] theorem setAccount_orders : (setAccount i a s).orders = s.orders := rfl
@[simp] theorem setAccount_stocks : (setAccount i a s).stocks = s.stocks := rfl
@[simp] theorem setAccount_plans : (setAccount i a s).plans = s.plans := rfl
@[simp] theorem setAccount_bindings : (setAccount i a s).bindings = s.bindings := rfl
@[simp] theorem setAccount_stations : (setAccount i a s).stations = s.stations := rfl
@[simp] theorem setAccount_rolls : (setAccount i a s).rolls = s.rolls := rfl
@[simp] theorem setAccount_windows : (setAccount i a s).windows = s.windows := rfl
@[simp] theorem setAccount_tariffs : (setAccount i a s).tariffs = s.tariffs := rfl
@[simp] theorem setAccount_accounts : (setAccount i a s).accounts = s.accounts.set i.val a i.isLt := rfl
@[simp] theorem setAccount_composer : (setAccount i a s).composer = s.composer := rfl
@[simp] theorem setAccount_devices : (setAccount i a s).devices = s.devices := rfl
@[simp] theorem setAccount_ring : (setAccount i a s).ring = s.ring := rfl
@[simp] theorem setAccount_slot : (setAccount i a s).slot = s.slot := rfl
@[simp] theorem setAccount_capture : (setAccount i a s).capture = s.capture := rfl
@[simp] theorem setAccount_pending : (setAccount i a s).pending = s.pending := rfl

end

end Sys2Proof.Machine
end

