-- ==== Sys2Proof/Laws/Quiet.lean ====
section
/-! SUPPORT. What no act of the controller's own does. `Kept s t` says what every shared operation keeps: the pins, the static
tables, the commands that wait, the accounts' numbers and ceilings, the terms of every order that is not freed, a captured fault,
the bounds of the exposure queues and of the receive buffers, and the account of the Event Queue's places. `Quiet s t` adds that a
forwarded frame whose transaction runs stays in its slot. One lemma says it of each shared operation, in the form that chains:
what is quiet so far stays so. -/

namespace Sys2Proof.Machine

/-- What every act of the controller keeps. -/
structure Kept (s t : State) : Prop where
  statics : t.pins = s.pins ∧ t.pending = s.pending ∧ t.stocks = s.stocks ∧ t.plans = s.plans ∧ t.bindings = s.bindings
    ∧ t.windows = s.windows ∧ t.tariffs = s.tariffs
  labels : t.composer.templates = s.composer.templates ∧ t.composer.stand = s.composer.stand
  accounts : ∀ j : Fin 32, t.accounts[j].map (fun a => (a.number, a.ceiling)) = s.accounts[j].map fun a => (a.number, a.ceiling)
  orders : ∀ i : Fin 16, t.orders[i] = none
    ∨ ∃ o o', s.orders[i] = some o ∧ t.orders[i] = some o' ∧ o'.terms = o.terms ∧ o'.cls = o.cls
  fault : ∀ x, s.capture.record = some x →
    t.capture.record = some x ∧ (s.capture.lost = true → t.capture.lost = true)
  queues : ∀ st : St, t.stations[st].queue.length ≤ s.stations[st].queue.length
  buffers : buffersInUse t ≤ buffersInUse s
  places : PlacesKept s → PlacesKept t

/-- What every act keeps that does not answer a running forwarded frame. -/
structure Quiet (s t : State) : Prop extends Kept s t where
  running : ∀ f, s.slot = .running f → t.slot = .running f

theorem Kept.refl (s : State) : Kept s s where
  statics := ⟨rfl, rfl, rfl, rfl, rfl, rfl, rfl⟩
  labels := ⟨rfl, rfl⟩
  accounts := fun _ => rfl
  orders := fun i => by
    cases h : s.orders[i] with
    | none => exact .inl rfl
    | some o => exact .inr ⟨o, o, rfl, rfl, rfl, rfl⟩
  fault := fun _ h => ⟨h, id⟩
  queues := fun _ => Nat.le_refl _
  buffers := Nat.le_refl _
  places := id

theorem Quiet.refl (s : State) : Quiet s s := ⟨.refl s, fun _ h => h⟩

theorem Kept.trans {s t u : State} (h : Kept s t) (k : Kept t u) : Kept s u where
  statics := by
    obtain ⟨a, b, c, d, e, f, g⟩ := h.statics
    obtain ⟨a', b', c', d', e', f', g'⟩ := k.statics
    exact ⟨a'.trans a, b'.trans b, c'.trans c, d'.trans d, e'.trans e, f'.trans f, g'.trans g⟩
  labels := ⟨k.labels.1.trans h.labels.1, k.labels.2.trans h.labels.2⟩
  accounts := fun j => (k.accounts j).trans (h.accounts j)
  orders := fun i => by
    rcases k.orders i with hn | ⟨o, o', ho, ho', ht, hc⟩
    · exact .inl hn
    · rcases h.orders i with hm | ⟨p, p', hp, hp', hq, hd⟩
      · rw [hm] at ho; cases ho
      · rw [hp'] at ho; cases ho
        exact .inr ⟨p, o', hp, ho', ht.trans hq, hc.trans hd⟩
  fault := fun x hx =>
    ⟨(k.fault x (h.fault x hx).1).1, fun hl => (k.fault x (h.fault x hx).1).2 ((h.fault x hx).2 hl)⟩
  queues := fun st => Nat.le_trans (k.queues st) (h.queues st)
  buffers := Nat.le_trans k.buffers h.buffers
  places := fun hp => k.places (h.places hp)

theorem Quiet.trans {s t u : State} (h : Quiet s t) (k : Quiet t u) : Quiet s u :=
  ⟨h.toKept.trans k.toKept, fun f hf => k.running f (h.running f hf)⟩

section
variable {s₀ s : State}

/-! ### Updates of one part -/

theorem modRoll_quiet {st : St} {f : RollRec → RollRec} (h : Quiet s₀ s) : Quiet s₀ (modRoll st f s) :=
  ⟨⟨h.statics, h.labels, h.accounts, h.orders, h.fault, h.queues, h.buffers, h.places⟩, h.running⟩

theorem modMap_quiet {st : St} {f : RollMap → RollMap} (h : Quiet s₀ s) : Quiet s₀ (modMap st f s) := modRoll_quiet h

theorem modDevice_quiet {i : Fin 16} {f : Device → Device} (h : Quiet s₀ s) : Quiet s₀ (modDevice i f s) :=
  ⟨⟨h.statics, h.labels, h.accounts, h.orders, h.fault, h.queues, h.buffers, h.places⟩, h.running⟩

/-- The Device Table may change in any way. -/
theorem devices_quiet {v : Vector (Option Device) 16} (h : Quiet s₀ s) : Quiet s₀ { s with devices := v } :=
  ⟨⟨h.statics, h.labels, h.accounts, h.orders, h.fault, h.queues, h.buffers, h.places⟩, h.running⟩

/-- A station may change in any way that does not lengthen its queue. -/
theorem modStation_quiet {st : St} {f : Station → Station} (hf : ∀ x, (f x).queue.length ≤ x.queue.length) (h : Quiet s₀ s) :
    Quiet s₀ (modStation st f s) :=
  ⟨⟨h.statics, h.labels, h.accounts, h.orders, h.fault, fun j => by
    rw [modStation_stations, upd_get]
    split
    · exact Nat.le_trans (hf _) (h.queues j)
    · exact h.queues j, h.buffers, h.places⟩, h.running⟩

theorem modHead_quiet {st : St} {f : Request → Request} (h : Quiet s₀ s) : Quiet s₀ (modHead st f s) :=
  modStation_quiet (fun x => by simp) h

theorem modOrder_quiet {i : Fin 16} {f : Order → Order} (hf : ∀ o, (f o).terms = o.terms ∧ (f o).cls = o.cls)
    (h : Quiet s₀ s) : Quiet s₀ (modOrder i f s) :=
  ⟨⟨h.statics, h.labels, h.accounts, fun j => by
    rw [modOrder_orders, upd_get]
    split
    · rcases h.orders j with hn | ⟨o, o', ho, ho', ht, hc⟩
      · left; rw [hn]; rfl
      · right; exact ⟨o, f o', ho, by rw [ho']; rfl, (hf o').1.trans ht, (hf o').2.trans hc⟩
    · exact h.orders j, h.fault, h.queues, h.buffers, h.places⟩, h.running⟩

theorem freeOrder_quiet {i : Fin 16} (h : Quiet s₀ s) : Quiet s₀ (freeOrder i s) :=
  ⟨⟨h.statics, h.labels, h.accounts, fun j => by
    rw [freeOrder_orders, set_get]
    split
    · exact .inl rfl
    · exact h.orders j, h.fault, h.queues, h.buffers, h.places⟩, h.running⟩

theorem modAccount_quiet {i : Fin 32} {f : Account → Account} (hf : ∀ a, (f a).number = a.number ∧ (f a).ceiling = a.ceiling)
    (h : Quiet s₀ s) : Quiet s₀ (modAccount i f s) :=
  ⟨⟨h.statics, h.labels, fun j => by
    rw [modAccount_accounts, upd_get]
    split
    · rw [← h.accounts j]
      cases s.accounts[j] with
      | none => rfl
      | some a => simp [hf a]
    · exact h.accounts j, h.orders, h.fault, h.queues, h.buffers, h.places⟩, h.running⟩

/-- The Composer may change in any way that keeps templates, Stand Text and whether a barrier is pending. -/
theorem modComposer_quiet {f : Composer → Composer} (ht : ∀ c, (f c).templates = c.templates ∧ (f c).stand = c.stand)
    (hb : ∀ c, (f c).barrierCount.isSome = c.barrierCount.isSome) (h : Quiet s₀ s) : Quiet s₀ (modComposer f s) :=
  ⟨⟨h.statics, ⟨(ht _).1.trans h.labels.1, (ht _).2.trans h.labels.2⟩, h.accounts, h.orders, h.fault, h.queues, h.buffers,
    fun hp => ⟨(h.places hp).1, (h.places hp).2.1, (h.places hp).2.2.1.trans (hb s.composer).symm, (h.places hp).2.2.2⟩⟩,
    h.running⟩

/-- The ring may change in any way that brings no transaction of the forward slot. -/
theorem ring_quiet {r : Ring} (hr : ∀ t, r.engine = some t → t.requester = .forward → t.void = false →
      ∃ t', s.ring.engine = some t' ∧ t'.requester = .forward ∧ t'.void = false)
    (h : Quiet s₀ s) : Quiet s₀ { s with ring := r } :=
  ⟨⟨h.statics, h.labels, h.accounts, h.orders, h.fault, h.queues, h.buffers, fun hp =>
    ⟨(h.places hp).1, (h.places hp).2.1, (h.places hp).2.2.1, fun t h1 h2 h3 => by
      obtain ⟨t', k1, k2, k3⟩ := hr t h1 h2 h3
      exact (h.places hp).2.2.2 t' k1 k2 k3⟩⟩, h.running⟩

/-- A ring with the same engine. -/
theorem ringSame_quiet {r : Ring} (hr : r.engine = s.ring.engine) (h : Quiet s₀ s) : Quiet s₀ { s with ring := r } :=
  ring_quiet (fun t h1 h2 h3 => ⟨t, hr ▸ h1, h2, h3⟩) h

/-- A ring whose engine is idle, or runs a transaction of another requester. -/
theorem ringOther_quiet {r : Ring} (hr : ∀ t, r.engine = some t → t.requester ≠ .forward) (h : Quiet s₀ s) :
    Quiet s₀ { s with ring := r } :=
  ring_quiet (fun t h1 h2 _ => absurd h2 (hr t h1)) h

/-- A record is sent, or a BUSY. -/
theorem port_quiet {p : ConsolePort} (hp : p.pool = s.port.pool ∧ p.rx = s.port.rx) (h : Quiet s₀ s) :
    Quiet s₀ { s with port := p } :=
  ⟨⟨h.statics, h.labels, h.accounts, h.orders, h.fault, h.queues, by
    have : buffersInUse { s with port := p } = buffersInUse s := by simp [buffersInUse, hp.1, hp.2]
    rw [this]; exact h.buffers, h.places⟩, h.running⟩

/-- The Event Queue may change in any way that keeps the reserved places and holds no more than its places. -/
theorem eq_quiet {q : EventQueue} (hr : q.reserved = s.eq.reserved)
    (hl : s.eq.records.length + s.eq.reserved + s.eq.given.length ≤ 16 →
      q.records.length + q.reserved + q.given.length ≤ 16) (h : Quiet s₀ s) :
    Quiet s₀ { s with eq := q } :=
  ⟨⟨h.statics, h.labels, h.accounts, h.orders, h.fault, h.queues, h.buffers, fun hp =>
    ⟨hr.trans (h.places hp).1, hl (h.places hp).2.1, (h.places hp).2.2.1, (h.places hp).2.2.2⟩⟩, h.running⟩

/-- The capture may change where it holds no fault, and may set LOST where it does. -/
theorem capture_quiet {c : Capture} (hc : s.capture.record = none ∨ c.record = s.capture.record ∧ (s.capture.lost = true → c.lost = true))
    (h : Quiet s₀ s) : Quiet s₀ { s with capture := c } :=
  ⟨⟨h.statics, h.labels, h.accounts, h.orders, fun x hx => by
    obtain ⟨a, b⟩ := h.fault x hx
    rcases hc with hc | ⟨hc, hl⟩
    · rw [hc] at a; cases a
    · exact ⟨hc.trans a, fun l => hl (b l)⟩, h.queues, h.buffers, h.places⟩, h.running⟩

/-! ### The Event Queue -/

theorem startTransmit_quiet (h : Quiet s₀ s) : Quiet s₀ (startTransmit s) := by
  unfold startTransmit
  split
  · exact h
  · split
    · split <;> exact port_quiet ⟨rfl, rfl⟩ h
    · exact port_quiet ⟨rfl, rfl⟩ h

theorem freePlaces_pos {q : EventQueue} : 0 < freePlaces q ↔ q.records.length + q.reserved + q.given.length < 16 := by
  unfold freePlaces Config.queuePlaces; omega

/-- A post at once. -/
theorem joinTail_quiet {r : Record} (hc : canPost s.eq = true) (h : Quiet s₀ s) : Quiet s₀ (joinTail r s) := by
  have hp : 0 < freePlaces s.eq := by
    simp only [canPost, Bool.and_eq_true, decide_eq_true_eq] at hc; exact hc.1
  rw [freePlaces_pos] at hp
  exact startTransmit_quiet (eq_quiet rfl (fun _ => by simp; omega) h)

theorem addWaiter_quiet {w : Waiter} (h : Quiet s₀ s) : Quiet s₀ (addWaiter w s) := by
  unfold addWaiter
  split
  · next hp => rw [freePlaces_pos] at hp; exact eq_quiet rfl (fun _ => by simp; omega) h
  · exact eq_quiet rfl id h

/-- What a waiter's turn means for its place. -/
theorem usePlace_quiet {r : Record} {w : Waiter} (hw : hasPlace w s = true) (h : Quiet s₀ s) : Quiet s₀ (usePlace r s) := by
  have : s.eq.given ≠ [] := by
    intro e; rw [hasPlace, e] at hw; cases hw
  have hl : 0 < s.eq.given.length := List.length_pos_iff.mpr this
  exact startTransmit_quiet (eq_quiet (s := s) (q := { s.eq with given := s.eq.given.tail, records := s.eq.records ++ [r] }) rfl
    (fun hp => by simp; omega) h)

theorem servePlace_places (q : EventQueue) : (servePlace q).reserved = q.reserved ∧ (servePlace q).records = q.records
    ∧ (q.records.length + q.reserved + q.given.length ≤ 16 →
      (servePlace q).records.length + (servePlace q).reserved + (servePlace q).given.length ≤ 16) := by
  unfold servePlace
  split
  · split
    · next hp => rw [freePlaces_pos] at hp; exact ⟨rfl, rfl, fun _ => by simp; omega⟩
    · exact ⟨rfl, rfl, id⟩
  · exact ⟨rfl, rfl, id⟩

theorem withdrawWaiter_quiet {w : Waiter} (h : Quiet s₀ s) : Quiet s₀ (withdrawWaiter w s) :=
  eq_quiet (servePlace_places _).1 (fun hp => (servePlace_places _).2.2 (by
    have := List.length_erase_le (a := w) (l := s.eq.given)
    simp; omega)) h

theorem offerFault_quiet {x : FaultRecord} (h : Quiet s₀ s) : Quiet s₀ (offerFault x s) := by
  unfold offerFault
  split
  · exact capture_quiet (.inr ⟨rfl, fun _ => rfl⟩) h
  · next hn =>
    split
    · next hc => exact joinTail_quiet hc (capture_quiet (.inl hn) h)
    · exact addWaiter_quiet (capture_quiet (.inl hn) h)

/-! ### Charges and orders -/

theorem addHeld_quiet {n x : Nat} (h : Quiet s₀ s) : Quiet s₀ (addHeld n x s) := by
  unfold addHeld; split
  · exact modAccount_quiet (fun _ => ⟨rfl, rfl⟩) h
  · exact h

theorem releaseHeld_quiet {n x : Nat} (h : Quiet s₀ s) : Quiet s₀ (releaseHeld n x s) := by
  unfold releaseHeld; split
  · exact modAccount_quiet (fun _ => ⟨rfl, rfl⟩) h
  · exact h

theorem convertHeld_quiet {n x : Nat} (h : Quiet s₀ s) : Quiet s₀ (convertHeld n x s) := by
  unfold convertHeld; split
  · exact modAccount_quiet (fun _ => ⟨rfl, rfl⟩) h
  · exact h

theorem openAccount_quiet {n x : Nat} (h : Quiet s₀ s) : Quiet s₀ (openAccount n x s) := by
  unfold openAccount; split
  · exact modAccount_quiet (fun _ => ⟨rfl, rfl⟩) h
  · exact h

theorem settleAccount_quiet {n x : Nat} {b : Bool} (h : Quiet s₀ s) : Quiet s₀ (settleAccount n x b s) := by
  unfold settleAccount; split
  · exact modAccount_quiet (fun _ => ⟨rfl, rfl⟩) h
  · exact h

theorem reportOrder_quiet {n : Nat} {f : Order → Order} (hf : ∀ o, (f o).terms = o.terms ∧ (f o).cls = o.cls)
    (h : Quiet s₀ s) : Quiet s₀ (reportOrder n f s) := by
  unfold reportOrder; split
  · exact modOrder_quiet hf h
  · exact h

theorem freeTransition_quiet {i : Fin 16} (h : Quiet s₀ s) : Quiet s₀ (freeTransition i s) := by
  unfold freeTransition
  split
  · exact h
  · next o ho =>
    dsimp only
    split
    · next hc => exact joinTail_quiet hc (freeOrder_quiet (settleAccount_quiet h))
    · refine addWaiter_quiet ⟨⟨(settleAccount_quiet h).statics, (settleAccount_quiet h).labels, (settleAccount_quiet h).accounts,
        fun j => ?_, (settleAccount_quiet h).fault, (settleAccount_quiet h).queues, (settleAccount_quiet h).buffers,
        (settleAccount_quiet h).places⟩, (settleAccount_quiet h).running⟩
      have hs : (settleAccount o.terms.account o.setupAmount (decide (0 < o.exposed)) s).orders = s.orders := by
        unfold settleAccount; split <;> rfl
      rw [modOrder_orders, upd_get, hs]
      split
      · next e =>
        subst e
        rw [ho]
        rcases h.orders j with hn | ⟨p, p', hp, hp', ht, hcl⟩
        · rw [ho] at hn; cases hn
        · rw [ho] at hp'; cases hp'
          exact .inr ⟨p, o.settle, hp, rfl, ht, hcl⟩
      · exact h.orders j

theorem tryFree_quiet {i : Fin 16} (h : Quiet s₀ s) : Quiet s₀ (tryFree i s) := by
  unfold tryFree; split
  · split
    · exact freeTransition_quiet h
    · exact h
  · exact h

theorem requestEnded_quiet {n : Nat} (h : Quiet s₀ s) : Quiet s₀ (requestEnded n s) := by
  unfold requestEnded; split
  · exact tryFree_quiet (modOrder_quiet (fun _ => ⟨rfl, rfl⟩) h)
  · exact h

end

end Sys2Proof.Machine
end

