-- ==== Sys2Proof/Laws/QuietRing.lean ====
section
/-! SUPPORT. The shared operations of the Ring Port, of the Arbiter and of the Label Composer are quiet. -/

namespace Sys2Proof.Machine

section
variable {s₀ s : State}

/-! ### Busy markers and asks -/

theorem modDeviceAt_quiet {a : Byte} {f : Device → Device} (h : Quiet s₀ s) : Quiet s₀ (modDeviceAt a f s) := by
  unfold modDeviceAt; split
  · exact modDevice_quiet h
  · exact h

theorem setBusyAt_quiet {a : Byte} (h : Quiet s₀ s) : Quiet s₀ (setBusyAt a s) := modDeviceAt_quiet h

theorem clearBusyAt_quiet {a : Byte} (h : Quiet s₀ s) : Quiet s₀ (clearBusyAt a s) := modDeviceAt_quiet h

theorem setBusyStation_quiet {st : St} (h : Quiet s₀ s) : Quiet s₀ (setBusyStation st s) := setBusyAt_quiet (setBusyAt_quiet h)

theorem clearBusyStation_quiet {st : St} (h : Quiet s₀ s) : Quiet s₀ (clearBusyStation st s) :=
  clearBusyAt_quiet (clearBusyAt_quiet h)

theorem placeAsk_quiet {st : St} {a k : Byte} {p : List Byte} {u : Purpose} (h : Quiet s₀ s) :
    Quiet s₀ (placeAsk st a k p u s) := by
  unfold placeAsk; split
  · exact ringSame_quiet rfl h
  · exact h

theorem askCamera_quiet {st : St} {k : Byte} {u : Purpose} (h : Quiet s₀ s) : Quiet s₀ (askCamera st k u s) := placeAsk_quiet h

theorem dropAsk_quiet {st : St} (h : Quiet s₀ s) : Quiet s₀ (dropAsk st s) := ringSame_quiet rfl h

theorem placeComposerAsk_quiet {a k : Byte} {p : List Byte} {u : Purpose} (h : Quiet s₀ s) :
    Quiet s₀ (placeComposerAsk a k p u s) := by
  unfold placeComposerAsk; split
  · exact ringSame_quiet rfl h
  · exact h

theorem dropComposerAsk_quiet (h : Quiet s₀ s) : Quiet s₀ (dropComposerAsk s) := ringSame_quiet rfl h

/-- A change of the engine's transaction that keeps its requester and its void marker. -/
theorem engineMap_quiet {f : Transaction → Transaction} (hf : ∀ t, (f t).requester = t.requester ∧ (f t).void = t.void)
    (h : Quiet s₀ s) : Quiet s₀ { s with ring := { s.ring with engine := s.ring.engine.map f } } :=
  ring_quiet (fun t h1 h2 h3 => by
    cases he : s.ring.engine with
    | none => simp only [he] at h1; cases h1
    | some t' =>
      simp only [he, Option.map_some, Option.some.injEq] at h1
      subst h1
      exact ⟨t', rfl, (hf t').1.symm.trans h2, (hf t').2.symm.trans h3⟩) h

theorem detach_quiet {r : Requester} (h : Quiet s₀ s) : Quiet s₀ (detach r s) :=
  engineMap_quiet (fun t => by by_cases e : t.requester = r <;> simp [e]) h

theorem orphanEngine_quiet {i : Fin 16} (h : Quiet s₀ s) : Quiet s₀ (orphanEngine i s) :=
  engineMap_quiet (fun t => by by_cases e : t.entry = i <;> simp [e]) h

theorem endGrant_quiet (h : Quiet s₀ s) : Quiet s₀ (endGrant s) := ringOther_quiet (fun t ht => by cases ht) h

theorem dropAsksFor_quiet {a : Byte} (h : Quiet s₀ s) : Quiet s₀ (dropAsksFor a s) := ringSame_quiet rfl h

/-! ### The forward slot -/

/-- The answer of a frame whose ask stands in the slot. -/
theorem answerForward_quiet {r : Record} {f : LinkFrame} (ha : s.slot = .asking f) (h : Quiet s₀ s) :
    Quiet s₀ (answerForward r s) := by
  refine startTransmit_quiet ⟨⟨h.statics, h.labels, h.accounts, h.orders, h.fault, h.queues, h.buffers, fun hp => ?_⟩, fun g hg => ?_⟩
  · obtain ⟨h1, h2, h3, h4⟩ := h.places hp
    have h1' : s.eq.reserved = placesOwed s := h1
    have hne : ¬ s.slot = .empty := by rw [ha]; intro e; cases e
    simp only [placesOwed, if_neg hne] at h1'
    refine ⟨?_, ?_, h3, fun t ht hr hv => ?_⟩
    · simp only [placesOwed, if_true]; omega
    · simp only [List.length_append, List.length_singleton]
      unfold Config.queuePlaces at *; omega
    · obtain ⟨g, hg⟩ := h4 t ht hr hv; rw [ha] at hg; cases hg
  · have := h.running g hg; rw [ha] at this; cases this

theorem slotDeviceDown_quiet {a : Byte} (h : Quiet s₀ s) : Quiet s₀ (slotDeviceDown a s) := by
  unfold slotDeviceDown; split
  · next f hf =>
    split
    · exact answerForward_quiet hf h
    · exact h
  · exact h
  · exact h

/-! ### The Arbiter -/

theorem startOwn_quiet {r : Requester} {i : Fin 16} {k : Byte} {p : List Byte} {u : Purpose} (hr : r ≠ .forward)
    (h : Quiet s₀ s) : Quiet s₀ (startOwn r i k p u s) := by
  unfold startOwn; split
  · exact h
  · exact ringOther_quiet (fun t ht => by cases ht; exact hr) (modDevice_quiet h)

theorem countPrint_quiet {u : Purpose} (h : Quiet s₀ s) : Quiet s₀ (countPrint u s) := by
  unfold countPrint; split
  · exact modComposer_quiet (fun _ => ⟨rfl, rfl⟩) (fun _ => rfl) h
  · exact h

/-- The slot's frame is sent: its ask becomes its transaction. -/
theorem slotRuns_quiet {f : LinkFrame} {r : Ring} (ha : s.slot = .asking f) (h : Quiet s₀ s) :
    Quiet s₀ { s with slot := .running f, ring := r } := by
  have hne : ¬ s.slot = .empty := by rw [ha]; intro e; cases e
  refine ⟨⟨h.statics, h.labels, h.accounts, h.orders, h.fault, h.queues, h.buffers, fun hp => ?_⟩, fun g hg => ?_⟩
  · obtain ⟨h1, h2, h3, h4⟩ := h.places hp
    refine ⟨?_, h2, h3, fun t _ _ _ => ⟨f, rfl⟩⟩
    rw [show s.eq.reserved = placesOwed s from h1]
    simp [placesOwed, hne]
  · have := h.running g hg; rw [ha] at this; cases this

theorem grantForward_quiet (h : Quiet s₀ s) : Quiet s₀ (grantForward s) := by
  unfold grantForward; split
  · next f hf =>
    split
    · exact answerForward_quiet hf h
    · split
      · split
        · exact slotRuns_quiet hf h
        · exact answerForward_quiet hf h
      · exact answerForward_quiet hf h
  · exact h
  · exact h

theorem grantStation_quiet {st : St} (h : Quiet s₀ s) : Quiet s₀ (grantStation st s) := by
  unfold grantStation; split
  · split
    · exact startOwn_quiet (fun e => by cases e) (dropAsk_quiet h)
    · exact dropAsk_quiet h
  · exact h

theorem grantComposer_quiet (h : Quiet s₀ s) : Quiet s₀ (grantComposer s) := by
  unfold grantComposer; split
  · split
    · exact countPrint_quiet (startOwn_quiet (fun e => by cases e) (dropComposerAsk_quiet h))
    · exact dropComposerAsk_quiet h
  · exact h

theorem grantIdle_quiet (h : Quiet s₀ s) : Quiet s₀ (grantIdle s) := by
  unfold grantIdle; split
  · exact h
  · split
    · exact h
    · dsimp only; split
      · exact startOwn_quiet (fun e => by cases e) (modDevice_quiet (ringSame_quiet rfl h))
      · exact startOwn_quiet (fun e => by cases e) (modDevice_quiet (ringSame_quiet rfl h))

theorem grantTo_quiet {r : Requester} (h : Quiet s₀ s) : Quiet s₀ (grantTo r s) := by
  have h' : Quiet s₀ { s with ring := { s.ring with lastGranted := r } } := ringSame_quiet rfl h
  cases r with
  | forward => exact grantForward_quiet h'
  | station st => exact grantStation_quiet h'
  | composer => exact grantComposer_quiet h'
  | idlePoller => exact grantIdle_quiet h'

theorem grantLoop_quiet (n : Nat) {s : State} (h : Quiet s₀ s) : Quiet s₀ (grantLoop n s) := by
  induction n generalizing s with
  | zero => exact h
  | succ n ih =>
    unfold grantLoop; split
    · exact h
    · split
      · exact ih (grantTo_quiet h)
      · exact h

theorem arbitrate_quiet (h : Quiet s₀ s) : Quiet s₀ (arbitrate s) := grantLoop_quiet 8 h

/-! ### The Label Store -/

/-- A fold of quiet acts. -/
theorem foldl_quiet {α : Type} {f : State → α → State} (hf : ∀ {t : State} (a : α), Quiet s₀ t → Quiet s₀ (f t a)) (l : List α)
    {s : State} (h : Quiet s₀ s) : Quiet s₀ (l.foldl f s) := by
  induction l generalizing s with
  | nil => exact h
  | cons a l ih => exact ih (hf a h)

theorem setSlot_quiet {i : Fin 320} {x : Slot} (h : Quiet s₀ s) : Quiet s₀ (setSlot i x s) :=
  modComposer_quiet (fun _ => ⟨rfl, rfl⟩) (fun _ => rfl) h

theorem composeSlot_quiet {i : Fin 320} {t : Tie} {l : Lines} (h : Quiet s₀ s) : Quiet s₀ (composeSlot i t l s) := setSlot_quiet h

theorem tellLabels_quiet {st : St} (h : Quiet s₀ s) : Quiet s₀ (tellLabels st s) := by
  unfold tellLabels; split
  · exact modStation_quiet (fun _ => Nat.le_refl _) h
  · exact h

theorem giveHeader_quiet {st : St} {i : Fin 320} (h : Quiet s₀ s) : Quiet s₀ (giveHeader st i s) := modRoll_quiet (setSlot_quiet h)

theorem serveHeader_quiet (h : Quiet s₀ s) : Quiet s₀ (serveHeader s) := by
  unfold serveHeader; split
  · exact tellLabels_quiet (giveHeader_quiet (modComposer_quiet (fun _ => ⟨rfl, rfl⟩) (fun _ => rfl) h))
  · exact h

theorem tellWaiters_quiet (h : Quiet s₀ s) : Quiet s₀ (tellWaiters s) :=
  foldl_quiet (fun _ => tellLabels_quiet) _ (modComposer_quiet (fun _ => ⟨rfl, rfl⟩) (fun _ => rfl) h)

theorem freeSlot_quiet {i : Fin 320} (h : Quiet s₀ s) : Quiet s₀ (freeSlot i s) :=
  tellWaiters_quiet (serveHeader_quiet (setSlot_quiet h))

theorem requestHeader_quiet {st : St} (h : Quiet s₀ s) : Quiet s₀ (requestHeader st s) := by
  unfold requestHeader; split
  · exact giveHeader_quiet h
  · exact modRoll_quiet (modComposer_quiet (fun _ => ⟨rfl, rfl⟩) (fun _ => rfl) h)

theorem withdrawHeader_quiet {st : St} (h : Quiet s₀ s) : Quiet s₀ (withdrawHeader st s) :=
  modRoll_quiet (modComposer_quiet (fun _ => ⟨rfl, rfl⟩) (fun _ => rfl) h)

theorem addLabelWaiter_quiet {st : St} {k : Nat} (h : Quiet s₀ s) : Quiet s₀ (addLabelWaiter st k s) :=
  modComposer_quiet (fun _ => ⟨rfl, rfl⟩) (fun _ => rfl) h

theorem reserveSlots_quiet {st : St} (l : List (Fin 320 × Nat)) {s : State} (h : Quiet s₀ s) : Quiet s₀ (reserveSlots st l s) := by
  induction l generalizing s with
  | nil => exact h
  | cons a l ih => exact ih (setSlot_quiet h)

/-! ### Printing -/

theorem askPrint_quiet (h : Quiet s₀ s) : Quiet s₀ (askPrint s) := placeComposerAsk_quiet h

theorem startSending_quiet (h : Quiet s₀ s) : Quiet s₀ (startSending s) :=
  askPrint_quiet (setBusyAt_quiet (modComposer_quiet (fun _ => ⟨rfl, rfl⟩) (fun _ => rfl) h))

theorem pauseComposer_quiet {r : PauseReason} (h : Quiet s₀ s) : Quiet s₀ (pauseComposer r s) :=
  detach_quiet (dropComposerAsk_quiet (clearBusyAt_quiet (modComposer_quiet (fun _ => ⟨rfl, rfl⟩) (fun _ => rfl) h)))

theorem startPrinting_quiet (h : Quiet s₀ s) : Quiet s₀ (startPrinting s) := by
  unfold startPrinting; split
  · exact modComposer_quiet (fun _ => ⟨rfl, rfl⟩) (fun _ => rfl) h
  · split
    · exact modComposer_quiet (fun _ => ⟨rfl, rfl⟩) (fun _ => rfl) h
    · exact modComposer_quiet (fun _ => ⟨rfl, rfl⟩) (fun _ => rfl) h
    · exact startSending_quiet h

theorem releaseStrip_quiet {p : Strip} (h : Quiet s₀ s) : Quiet s₀ (releaseStrip p s) := by
  have h' : Quiet s₀ (modComposer (fun c => { c with strips := c.strips ++ [p] })
      (p.labels.foldl (fun s i => setSlot i (.queued (slotLines s.composer i)) s) s)) :=
    modComposer_quiet (fun _ => ⟨rfl, rfl⟩) (fun _ => rfl) (foldl_quiet (fun _ => setSlot_quiet) _ h)
  unfold releaseStrip; dsimp only; split
  · exact startPrinting_quiet h'
  · exact h'

/-- A barrier's count falls, or its RESULT takes the place it was owed. -/
theorem countBarrier_quiet (h : Quiet s₀ s) : Quiet s₀ (countBarrier s) := by
  unfold countBarrier; split
  · next n tag hb hd =>
    split
    · refine startTransmit_quiet ⟨⟨h.statics, h.labels, h.accounts, h.orders, h.fault, h.queues, h.buffers, fun hp => ?_⟩, h.running⟩
      obtain ⟨h1, h2, h3, h4⟩ := h.places hp
      have h2' : s.eq.records.length + s.eq.reserved + s.eq.given.length ≤ 16 := h2
      have key : placesOwed { s with deferred := none } + 1 = placesOwed s := by simp [placesOwed, hd]
      refine ⟨?_, ?_, rfl, h4⟩
      · show s.eq.reserved - 1 = placesOwed { s with deferred := none }
        omega
      · simp only [modComposer, List.length_append, List.length_singleton]
        unfold Config.queuePlaces; omega
    · refine ⟨⟨h.statics, h.labels, h.accounts, h.orders, h.fault, h.queues, h.buffers, fun hp => ?_⟩, h.running⟩
      obtain ⟨h1, h2, h3, h4⟩ := h.places hp
      exact ⟨h1, h2, by show s.deferred.isSome = true; rw [h3, hb]; rfl, h4⟩
  · exact h

theorem stripLeaves_quiet (h : Quiet s₀ s) : Quiet s₀ (stripLeaves s) :=
  startPrinting_quiet (countBarrier_quiet (modComposer_quiet (fun _ => ⟨rfl, rfl⟩) (fun _ => rfl) h))

theorem finishStrip_quiet (h : Quiet s₀ s) : Quiet s₀ (finishStrip s) := by
  unfold finishStrip; split
  · exact h
  · dsimp only; split
    · next hc => exact stripLeaves_quiet (joinTail_quiet hc (detach_quiet (clearBusyAt_quiet h)))
    · exact addWaiter_quiet (modComposer_quiet (fun _ => ⟨rfl, rfl⟩) (fun _ => rfl) (detach_quiet (clearBusyAt_quiet h)))

theorem labelDone_quiet {c : Condition} (h : Quiet s₀ s) : Quiet s₀ (labelDone c s) := by
  unfold labelDone; split
  · exact h
  · next p rest _ =>
    have h1 : Quiet s₀ (dropComposerAsk (modComposer (fun c => { c with
        printLimit := false, pollTimer := false, gap := none, waits := 0
        strips := { p with next := p.next + 1 } :: rest, sent := false, again := false }) s)) :=
      dropComposerAsk_quiet (modComposer_quiet (fun _ => ⟨rfl, rfl⟩) (fun _ => rfl) h)
    dsimp only
    cases p.labels[p.next]? with
    | none =>
      dsimp only; split
      · exact finishStrip_quiet (modComposer_quiet (fun _ => ⟨rfl, rfl⟩) (fun _ => rfl) h1)
      · split
        · exact pauseComposer_quiet h1
        · exact startSending_quiet (detach_quiet h1)
    | some i =>
      dsimp only; split
      · exact finishStrip_quiet (modComposer_quiet (fun _ => ⟨rfl, rfl⟩) (fun _ => rfl) (freeSlot_quiet h1))
      · split
        · exact pauseComposer_quiet (freeSlot_quiet h1)
        · exact startSending_quiet (detach_quiet (freeSlot_quiet h1))

theorem printerDown_quiet (h : Quiet s₀ s) : Quiet s₀ (printerDown s) := by
  unfold printerDown; split
  · exact pauseComposer_quiet h
  · exact pauseComposer_quiet h
  · exact modComposer_quiet (fun _ => ⟨rfl, rfl⟩) (fun _ => rfl) h
  · split
    · exact h
    · exact modComposer_quiet (fun _ => ⟨rfl, rfl⟩) (fun _ => rfl) h
  · exact h
  · exact h

theorem printerReachesUp_quiet (h : Quiet s₀ s) : Quiet s₀ (printerReachesUp s) := by
  unfold printerReachesUp; split
  · exact startPrinting_quiet h
  all_goals exact h

theorem printerRemoved_quiet (h : Quiet s₀ s) : Quiet s₀ (printerRemoved s) :=
  printerDown_quiet (modComposer_quiet (fun _ => ⟨rfl, rfl⟩) (fun _ => rfl) h)

theorem keepCondition_quiet {r : PrinterReport} (h : Quiet s₀ s) : Quiet s₀ (keepCondition r s) := by
  unfold keepCondition; dsimp only; split
  · exact offerFault_quiet (modComposer_quiet (fun _ => ⟨rfl, rfl⟩) (fun _ => rfl) h)
  · exact modComposer_quiet (fun _ => ⟨rfl, rfl⟩) (fun _ => rfl) h

theorem printerReport_quiet {r : PrinterReport} (h : Quiet s₀ s) : Quiet s₀ (printerReport r s) := by
  have h' := keepCondition_quiet (r := r) h
  unfold printerReport; dsimp only; split
  · split
    · exact labelDone_quiet h'
    · split
      · exact pauseComposer_quiet h'
      · exact h'
  · split
    · exact labelDone_quiet h'
    · split
      · exact pauseComposer_quiet h'
      · exact h'
  · split
    · exact h'
    · split
      · exact labelDone_quiet h'
      · split
        · exact startSending_quiet h'
        all_goals exact modComposer_quiet (fun _ => ⟨rfl, rfl⟩) (fun _ => rfl) h'
  all_goals exact h'

theorem refusePrint_quiet {k : FaultKind} {n : Option Byte} (h : Quiet s₀ s) : Quiet s₀ (refusePrint k n s) :=
  pauseComposer_quiet (offerFault_quiet h)

theorem composerEnding_quiet {p : Purpose} {e : Ending} (h : Quiet s₀ s) : Quiet s₀ (composerEnding p e s) := by
  unfold composerEnding; split
  · unfold printEnding; split
    · exact h
    · split
      · exact modComposer_quiet (fun _ => ⟨rfl, rfl⟩) (fun _ => rfl) h
      · exact refusePrint_quiet h
      · split
        · exact refusePrint_quiet h
        · exact modComposer_quiet (fun _ => ⟨rfl, rfl⟩) (fun _ => rfl) h
      · exact h
  · unfold printPollEnding; split
    · exact h
    · split
      all_goals exact modComposer_quiet (fun _ => ⟨rfl, rfl⟩) (fun _ => rfl) h
  · exact h

end

end Sys2Proof.Machine
end

