-- ==== Sys2Proof/Laws/QuietRolls.lean ====
section
/-! SUPPORT. The Roll Tracker's operations are quiet. -/

namespace Sys2Proof.Machine

section
variable {s₀ s : State}

theorem setFrameState_quiet {st : St} {f : Nat} {x : FrameState} (h : Quiet s₀ s) : Quiet s₀ (setFrameState st f x s) := modMap_quiet h

theorem exposeFrame_quiet {st : St} {m : RollMap} {r : FrameRec} (h : Quiet s₀ s) : Quiet s₀ (exposeFrame st m r s) := by
  unfold exposeFrame; split
  · exact h
  · exact reportOrder_quiet (fun _ => ⟨rfl, rfl⟩) (composeSlot_quiet
      (reportOrder_quiet (fun _ => ⟨rfl, rfl⟩) (convertHeld_quiet h)))

theorem spoilFrame_quiet {st : St} {x : SpoilReason} {r : FrameRec} (h : Quiet s₀ s) : Quiet s₀ (spoilFrame st x r s) := by
  unfold spoilFrame; dsimp only
  refine reportOrder_quiet (fun _ => ⟨rfl, rfl⟩) (composeSlot_quiet ?_)
  split
  · exact releaseHeld_quiet h
  · exact h

theorem markExposed_quiet {st : St} {n f : Nat} (h : Quiet s₀ s) : Quiet s₀ (markExposed st n f s).2 := by
  unfold markExposed; split
  · exact h
  · split
    · exact h
    · split
      · exact exposeFrame_quiet (setFrameState_quiet h)
      · exact h

theorem markSpoiled_quiet {st : St} {n f : Nat} {x : SpoilReason} (h : Quiet s₀ s) : Quiet s₀ (markSpoiled st n f x s).2 := by
  unfold markSpoiled; split
  · exact h
  · split
    · exact h
    · split
      · exact spoilFrame_quiet (setFrameState_quiet h)
      · exact h

theorem advanceRoll_quiet {st : St} {n : Nat} (h : Quiet s₀ s) : Quiet s₀ (advanceRoll st n s).2 := by
  unfold advanceRoll; split
  · exact h
  · exact modMap_quiet h

theorem releaseRecord_quiet {r : FrameRec} (h : Quiet s₀ s) : Quiet s₀ (releaseRecord r s) := by
  unfold releaseRecord
  refine freeSlot_quiet ?_
  split
  · exact releaseHeld_quiet h
  · exact h

theorem releaseRun_quiet {st : St} {m : RollMap} {f : Nat} (h : Quiet s₀ s) : Quiet s₀ (releaseRun st m f s) := by
  unfold releaseRun; dsimp only; split
  · exact h
  · exact reportOrder_quiet (fun _ => ⟨rfl, rfl⟩) (foldl_quiet (fun _ => releaseRecord_quiet) _ (modMap_quiet h))

theorem release_quiet {st : St} {n f : Nat} (h : Quiet s₀ s) : Quiet s₀ (release st n f s).2 := by
  unfold release; split
  · exact h
  · exact releaseRun_quiet h

theorem standReservation_quiet {st : St} {o : Order} {recs : List FrameRec} (h : Quiet s₀ s) :
    Quiet s₀ (standReservation st o recs s) :=
  reportOrder_quiet (fun _ => ⟨rfl, rfl⟩) (modMap_quiet (reserveSlots_quiet _ (addHeld_quiet h)))

theorem reserveSet_quiet {st : St} {m : RollMap} {o : Order} {recs : List FrameRec} (h : Quiet s₀ s) :
    Quiet s₀ (reserveSet st m o recs s).2 := by
  unfold reserveSet; split
  · exact h
  · split
    · split
      · exact standReservation_quiet h
      · exact addLabelWaiter_quiet h
    · exact h

theorem reserve_quiet {st : St} {n : Nat} {q : Request} (h : Quiet s₀ s) : Quiet s₀ (reserve st n q s).2 := by
  unfold reserve; split
  · split
    · split
      · exact h
      · split
        · exact h
        · split
          · exact h
          · exact reserveSet_quiet h
    · exact h
  · exact h

theorem noteRollStatus_quiet {st : St} {b : Bool} (h : Quiet s₀ s) : Quiet s₀ (noteRollStatus st b s) := by
  unfold noteRollStatus; split
  · exact h
  · exact modRoll_quiet h

theorem openRoll_quiet {st : St} {k : Stock} (h : Quiet s₀ s) : Quiet s₀ (openRoll st k s) := by
  unfold openRoll; dsimp only; split
  · next hc => exact modStation_quiet (fun _ => Nat.le_refl _) (joinTail_quiet hc (requestHeader_quiet (modRoll_quiet h)))
  · exact addWaiter_quiet (modMap_quiet (requestHeader_quiet (modRoll_quiet h)))

theorem refuseRoll_quiet {st : St} {e : Event} (h : Quiet s₀ s) : Quiet s₀ (refuseRoll st e s) := by
  unfold refuseRoll; split
  · exact h
  · next hc =>
    simp only [Bool.or_eq_true, Bool.not_eq_true', not_or, Bool.not_eq_true, Bool.not_eq_false] at hc
    exact joinTail_quiet hc.2 (modRoll_quiet h)

theorem openOrRefuse_quiet {st : St} {r : CameraReport} (h : Quiet s₀ s) : Quiet s₀ (openOrRefuse st r s) := by
  unfold openOrRefuse; split
  · exact h
  · split
    · split
      · exact openRoll_quiet h
      · exact refuseRoll_quiet h
    · exact refuseRoll_quiet h

theorem beginClose_quiet {st : St} {c : CloseReason} (h : Quiet s₀ s) : Quiet s₀ (beginClose st c s) := by
  have h' : Quiet s₀ (match s.rolls[st].map with
    | some m => match lowestReserved m with
      | some f => releaseRun st m f (modMap st (fun m => { m with closing := some c }) s)
      | none => modMap st (fun m => { m with closing := some c }) s
    | none => s) := by
    split
    · split
      · exact releaseRun_quiet (modMap_quiet h)
      · exact modMap_quiet h
    · exact h
  have hw : ∀ {t : State}, Quiet s₀ t → Quiet s₀ (if t.rolls[st].headerRequest then withdrawHeader st t else t) := by
    intro t ht; split
    · exact withdrawHeader_quiet ht
    · exact ht
  unfold beginClose; exact hw h'

theorem discardMap_quiet {st : St} (h : Quiet s₀ s) : Quiet s₀ (discardMap st s) := by
  unfold discardMap; split
  · exact h
  · dsimp only
    refine modRoll_quiet ?_
    split
    · exact releaseStrip_quiet (composeSlot_quiet h)
    · exact h

end

end Sys2Proof.Machine
end

