-- ==== Sys2Proof/Laws/QuietStations.lean ====
section
/-! SUPPORT. The Station Sequencers' operations are quiet, from a request's end to the settling at the end of an act. -/

namespace Sys2Proof.Machine

section
variable {s₀ s : State}

/-- A change of a station that leaves its queue. -/
theorem station_quiet {st : St} {f : Station → Station} (hf : ∀ x, (f x).queue = x.queue) (h : Quiet s₀ s) :
    Quiet s₀ (modStation st f s) := modStation_quiet (fun x => Nat.le_of_eq (congrArg List.length (hf x))) h

/-! ### Entering states -/

theorem enterRollLess_quiet {st : St} (h : Quiet s₀ s) : Quiet s₀ (enterRollLess st s) :=
  detach_quiet (dropAsk_quiet (clearBusyStation_quiet (station_quiet (fun _ => rfl) h)))

theorem enterChecked_quiet {st : St} (h : Quiet s₀ s) : Quiet s₀ (enterChecked st s) :=
  askCamera_quiet (station_quiet (fun _ => rfl) h)

theorem enterIdle_quiet {st : St} (h : Quiet s₀ s) : Quiet s₀ (enterIdle st s) := by
  unfold enterIdle; split
  · exact station_quiet (fun _ => rfl) h
  · split
    · exact station_quiet (fun _ => rfl) h
    · exact enterChecked_quiet h

theorem startUnload_quiet {st : St} (h : Quiet s₀ s) : Quiet s₀ (startUnload st s) :=
  askCamera_quiet (setBusyAt_quiet (station_quiet (fun _ => rfl) h))

theorem enterSuspended_quiet {st : St} {p : SuspendedPhase} {a b : Bool} (h : Quiet s₀ s) : Quiet s₀ (enterSuspended st p a b s) :=
  detach_quiet (dropAsk_quiet (clearBusyStation_quiet (modStation_quiet (fun x => by
    show (if a then x.queue.modifyHead _ else x.queue).length ≤ x.queue.length
    split <;> simp) h)))

theorem suspendUnload_quiet {st : St} {b : Bool} (h : Quiet s₀ s) : Quiet s₀ (suspendUnload st b s) := enterSuspended_quiet h

/-! ### The end of a request -/

theorem failStep_quiet {st : St} {b : Bool} (h : Quiet s₀ s) : Quiet s₀ (failStep st b s) :=
  detach_quiet (dropAsk_quiet (station_quiet (fun _ => rfl) h))

theorem giveUpCheck_quiet {st : St} (h : Quiet s₀ s) : Quiet s₀ (giveUpCheck st s) := by
  unfold giveUpCheck; split
  · exact failStep_quiet h
  · exact h

theorem afterRequest_quiet {st : St} {b : Bool} (h : Quiet s₀ s) : Quiet s₀ (afterRequest st b s) := by
  unfold afterRequest; dsimp only; split
  · split
    · exact startUnload_quiet (station_quiet (fun _ => rfl) h)
    · exact suspendUnload_quiet (startUnload_quiet (station_quiet (fun _ => rfl) h))
  · split
    · exact enterRollLess_quiet h
    · split
      · exact h
      · split
        · split
          · exact enterChecked_quiet h
          · exact station_quiet (fun _ => rfl) h
        · exact station_quiet (fun _ => rfl) h

theorem finishRequest_quiet {st : St} (h : Quiet s₀ s) : Quiet s₀ (finishRequest st s) := by
  unfold finishRequest; split
  · exact h
  · exact afterRequest_quiet (clearBusyStation_quiet (requestEnded_quiet (modStation_quiet (fun x => by
      unfold Station.dequeue; simp) h)))

theorem endRequest_quiet {st : St} {o : RequestOutcome} (h : Quiet s₀ s) : Quiet s₀ (endRequest st o s) := by
  unfold endRequest; split
  · exact h
  · split
    · next hc => exact finishRequest_quiet (joinTail_quiet hc h)
    · exact addWaiter_quiet (giveUpCheck_quiet (station_quiet (fun _ => rfl) (modHead_quiet h)))

/-! ### Marks and abort -/

theorem markGateExposed_quiet {st : St} (h : Quiet s₀ s) : Quiet s₀ (markGateExposed st s).2 := by
  have h' := markExposed_quiet (st := st) (n := headRoll s st) (f := gateOf s st) h
  unfold markGateExposed; split
  · next e => rw [e] at h'; exact modHead_quiet h'
  · exact h'

theorem markGateSpoiled_quiet {st : St} {x : SpoilReason} (h : Quiet s₀ s) : Quiet s₀ (markGateSpoiled st x s).2 := by
  have h' := markSpoiled_quiet (st := st) (n := headRoll s st) (f := gateOf s st) (x := x) h
  unfold markGateSpoiled; split
  · next e => rw [e] at h'; exact modHead_quiet h'
  · exact h'

theorem releaseAndEnd_quiet {st : St} (h : Quiet s₀ s) : Quiet s₀ (releaseAndEnd st s) := by
  have h' := release_quiet (st := st) (n := headRoll s st) (f := gateOf s st) h
  unfold releaseAndEnd; split
  · next e => rw [e] at h'; exact endRequest_quiet h'
  · next e => rw [e] at h'; exact endRequest_quiet h'

theorem completeAbort_quiet {st : St} (h : Quiet s₀ s) : Quiet s₀ (completeAbort st s) :=
  releaseAndEnd_quiet (dropAsk_quiet (station_quiet (fun _ => rfl) h))

theorem abortSuspended_quiet {st : St} (h : Quiet s₀ s) : Quiet s₀ (abortSuspended st s) := by
  unfold abortSuspended; dsimp only
  refine releaseAndEnd_quiet (station_quiet (fun _ => rfl) ?_)
  split
  · exact markGateSpoiled_quiet h
  · exact h

theorem suspendHeld_quiet {st : St} {p : SuspendedPhase} {b : Bool} (h : Quiet s₀ s) : Quiet s₀ (suspendHeld st p b s) := by
  unfold suspendHeld; dsimp only; split
  · exact abortSuspended_quiet (enterSuspended_quiet h)
  · exact enterSuspended_quiet h

theorem failRunning_quiet {st : St} {x : FaultRecord} (h : Quiet s₀ s) : Quiet s₀ (failRunning st x s) :=
  suspendHeld_quiet (offerFault_quiet h)

/-! ### The run of a frame -/

theorem askLampSet_quiet {st : St} (h : Quiet s₀ s) : Quiet s₀ (askLampSet st s) := by
  unfold askLampSet; split
  · exact placeAsk_quiet h
  · exact h

theorem enterLampSet_quiet {st : St} (h : Quiet s₀ s) : Quiet s₀ (enterLampSet st s) := by
  unfold enterLampSet; split
  · exact endRequest_quiet h
  · exact askLampSet_quiet (setBusyStation_quiet (station_quiet (fun _ => rfl) h))

theorem boundary_quiet {st : St} (h : Quiet s₀ s) : Quiet s₀ (boundary st s) := by
  have h' : Quiet s₀ (modStation st Station.quiet s) := station_quiet (fun _ => rfl) h
  unfold boundary; dsimp only; split
  · exact completeAbort_quiet h'
  · split
    · exact suspendHeld_quiet h'
    · split
      · exact clearBusyStation_quiet (station_quiet (fun _ => rfl) h')
      · exact enterLampSet_quiet h'

theorem enterAdvance_quiet {st : St} (h : Quiet s₀ s) : Quiet s₀ (enterAdvance st s) :=
  askCamera_quiet (setBusyStation_quiet (station_quiet (fun _ => rfl) h))

theorem afterMark_quiet {st : St} {r : MarkAnswer × State} (h : Quiet s₀ r.2) : Quiet s₀ (afterMark st r) := by
  unfold afterMark; split
  · exact endRequest_quiet h
  · exact enterAdvance_quiet h
  · exact enterAdvance_quiet h

theorem offerFlagged_quiet {st : St} {lampFault : Bool} {r : MarkAnswer × State} (h : Quiet s₀ r.2) :
    Quiet s₀ (offerFlagged st lampFault r).2 := by
  unfold offerFlagged; split
  · exact offerFault_quiet h
  · exact h

theorem takeShot_quiet {st : St} {b : Bool} (h : Quiet s₀ s) : Quiet s₀ (takeShot st b s) := by
  have h' : Quiet s₀ (dropAsk st (modStation st (fun x => { x with shotLimit := none, pollTimer := false }) s)) :=
    dropAsk_quiet (station_quiet (fun _ => rfl) h)
  unfold takeShot; dsimp only
  refine afterMark_quiet ?_
  split
  · exact offerFlagged_quiet (markGateSpoiled_quiet h')
  · exact offerFlagged_quiet (markGateSpoiled_quiet h')
  · exact markGateExposed_quiet h'

theorem takeAdvance_quiet {st : St} (h : Quiet s₀ s) : Quiet s₀ (takeAdvance st s) := by
  have h' : Quiet s₀ (dropAsk st
      (modStation st (fun x => { x with advanceLimit := false, pollTimer := false, gap := none, waits := 0 }) s)) :=
    dropAsk_quiet (station_quiet (fun _ => rfl) h)
  have h'' := advanceRoll_quiet (st := st) (n := headRoll (dropAsk st (modStation st (fun x =>
    { x with advanceLimit := false, pollTimer := false, gap := none, waits := 0 }) s)) st) h'
  unfold takeAdvance; dsimp only; split
  · next e => rw [e] at h''; exact endRequest_quiet h''
  · next e => rw [e] at h''; exact endRequest_quiet (station_quiet (fun _ => rfl) h'')
  · next e =>
    rw [e] at h''
    split
    · exact endRequest_quiet h''
    · exact boundary_quiet (modHead_quiet h'')

/-! ### Trying the head -/

theorem takeReservation_quiet {st : St} {n : Nat} {r : ReserveAnswer × State} (h : Quiet s₀ r.2) :
    Quiet s₀ (takeReservation st n r) := by
  unfold takeReservation; split
  · exact boundary_quiet (station_quiet (fun _ => rfl) (modHead_quiet h))
  · exact endRequest_quiet h
  · exact endRequest_quiet h
  · exact endRequest_quiet h
  · exact startUnload_quiet (modHead_quiet h)
  · exact station_quiet (fun _ => rfl) (modHead_quiet h)

theorem tryHead_quiet {st : St} (h : Quiet s₀ s) : Quiet s₀ (tryHead st s) := by
  unfold tryHead; dsimp only; split
  · exact takeReservation_quiet (reserve_quiet (modHead_quiet h))
  · exact modHead_quiet h

/-! ### Closing a roll -/

theorem rollClosed_quiet {st : St} (h : Quiet s₀ s) : Quiet s₀ (rollClosed st s) := by
  unfold rollClosed; dsimp only; split
  · exact h
  · split
    · exact endRequest_quiet h
    · exact enterRollLess_quiet (modHead_quiet h)

theorem closeRoll_quiet {st : St} {c : CloseReason} (h : Quiet s₀ s) : Quiet s₀ (closeRoll st c s) := by
  unfold closeRoll; split
  · exact h
  · have h' : Quiet s₀ (beginClose st c (dropAsk st (modStation st Station.quiet s))) :=
      beginClose_quiet (dropAsk_quiet (station_quiet (fun _ => rfl) h))
    dsimp only; split
    · exact h'
    · split
      · next hc => exact rollClosed_quiet (discardMap_quiet (joinTail_quiet hc h'))
      · exact addWaiter_quiet h'

theorem closeMismatch_quiet {st : St} {r : CameraReport} (h : Quiet s₀ s) : Quiet s₀ (closeMismatch st r s) :=
  closeRoll_quiet (modRoll_quiet (offerFault_quiet h))

/-! ### The resume -/

theorem beginCheck_quiet {st : St} (h : Quiet s₀ s) : Quiet s₀ (beginCheck st s) :=
  askCamera_quiet (station_quiet (fun _ => rfl) h)

theorem noteShot_quiet {st : St} {r : CameraReport} (h : Quiet s₀ s) : Quiet s₀ (noteShot st r s) := by
  unfold noteShot; split
  · exact station_quiet (fun _ => rfl) h
  · exact h

theorem leaveSuspended_quiet {st : St} (h : Quiet s₀ s) : Quiet s₀ (leaveSuspended st s) :=
  modHead_quiet (setBusyStation_quiet (station_quiet (fun _ => rfl) h))

theorem resumeReady_quiet {st : St} (h : Quiet s₀ s) : Quiet s₀ (resumeReady st s) := station_quiet (fun _ => rfl) h

theorem settleDone_quiet {st : St} (h : Quiet s₀ s) : Quiet s₀ (settleDone st s) := by
  have h' := advanceRoll_quiet (st := st) (n := rollOf s st) (dropAsk_quiet (st := st) h)
  unfold settleDone; split
  · next e => rw [e] at h'; exact resumeReady_quiet h'
  · next e => rw [e] at h'; exact startUnload_quiet h'
  · next e => rw [e] at h'; exact failStep_quiet h'

theorem checkHeld_quiet {st : St} {u : Suspension} {r : CameraReport} (h : Quiet s₀ s) : Quiet s₀ (checkHeld st u r s) := by
  unfold checkHeld; split
  · exact endRequest_quiet h
  · split
    · have h' : Quiet s₀ (leaveSuspended st s) := leaveSuspended_quiet h
      dsimp only; split
      · exact boundary_quiet h'
      · exact boundary_quiet h'
      · exact boundary_quiet h'
      · exact afterMark_quiet (offerFlagged_quiet (markGateSpoiled_quiet h'))
      · exact afterMark_quiet (offerFlagged_quiet (markGateSpoiled_quiet h'))
      · exact takeShot_quiet h'
      · exact takeShot_quiet h'
      · exact afterMark_quiet (markGateSpoiled_quiet h')
      · exact enterAdvance_quiet h'
      · exact enterAdvance_quiet h'
      · exact h'
    · split
      · exact takeAdvance_quiet (leaveSuspended_quiet h)
      · exact closeMismatch_quiet h

theorem checkFree_quiet {st : St} {u : Suspension} {r : CameraReport} (h : Quiet s₀ s) : Quiet s₀ (checkFree st u r s) := by
  have hadv : ∀ m : RollMap, Quiet s₀ (if sameRoll r m && isMarked m m.gate && r.gate == m.gate then
        askCamera st kindAdvance .settleAdvance
          (modStation st (fun x => { x with susp := { x.susp with step := .settlingAdvance } }) s)
      else if sameRoll r m && isMarked m m.gate && r.gate == m.gate + 1 then settleDone st s
      else closeMismatch st r s) := by
    intro m; split
    · exact askCamera_quiet (station_quiet (fun _ => rfl) h)
    · split
      · exact settleDone_quiet h
      · exact closeMismatch_quiet h
  unfold checkFree; split
  · exact h
  · next m _ =>
    split
    · split
      · exact startUnload_quiet h
      · exact closeRoll_quiet h
    · exact hadv m
    · exact hadv m
    · split
      · exact resumeReady_quiet h
      · exact closeMismatch_quiet h
    all_goals exact closeMismatch_quiet h

theorem serveCheck_quiet {st : St} {r : CameraReport} (h : Quiet s₀ s) : Quiet s₀ (serveCheck st r s) := by
  have h' : Quiet s₀ (dropAsk st (modStation st (fun x =>
      { x.quiet with susp := { x.susp with step := .awaiting, notedShot := none } }) s)) :=
    dropAsk_quiet (station_quiet (fun _ => rfl) h)
  unfold serveCheck; dsimp only; split
  · exact checkHeld_quiet h'
  · exact checkFree_quiet h'

/-! ### Camera reports -/

theorem runningReport_quiet {st : St} {r : CameraReport} (h : Quiet s₀ s) : Quiet s₀ (runningReport st r s) := by
  unfold runningReport; dsimp only; split
  · exact h
  · split
    · exact noteShot_quiet (suspendHeld_quiet h)
    · split
      · split
        · exact takeShot_quiet h
        · exact h
      · split
        · exact takeAdvance_quiet h
        · exact h

theorem idleReport_quiet {st : St} {r : CameraReport} (h : Quiet s₀ s) : Quiet s₀ (idleReport st r s) := by
  unfold idleReport; split
  · exact h
  · split
    · exact h
    · have h' : Quiet s₀ (if s.stations[st].rollCheck then
          dropAsk st (modStation st (fun x => { x with rollCheck := false, gap := none, waits := 0 }) s)
        else s) := by
        split
        · exact dropAsk_quiet (station_quiet (fun _ => rfl) h)
        · exact h
      dsimp only; split
      · exact h'
      · exact closeMismatch_quiet h'

theorem suspendedReport_quiet {st : St} {r : CameraReport} (h : Quiet s₀ s) : Quiet s₀ (suspendedReport st r s) := by
  have h' : Quiet s₀ (noteShot st r s) := noteShot_quiet h
  unfold suspendedReport; dsimp only; split
  · exact h'
  · split
    · exact h'
    · split
      · exact closeRoll_quiet (station_quiet (fun _ => rfl) h')
      · split
        · exact h'
        · exact serveCheck_quiet h'
        · split
          · exact h'
          · exact failStep_quiet h'
        · split
          · exact failStep_quiet h'
          · split
            · exact settleDone_quiet h'
            · exact h'

theorem stationReport_quiet {st : St} {r : CameraReport} (h : Quiet s₀ s) : Quiet s₀ (stationReport st r s) := by
  have h' : Quiet s₀ (noteRollStatus st r.present s) := noteRollStatus_quiet h
  unfold stationReport; dsimp only; split
  · split
    · exact noteShot_quiet h'
    · exact h'
  · split
    · exact h'
    · exact h'
    · split
      · exact h'
      · exact openOrRefuse_quiet h'
    · split
      · exact h'
      · exact openOrRefuse_quiet h'
    · exact idleReport_quiet h'
    · exact idleReport_quiet h'
    · exact runningReport_quiet h'
    · exact runningReport_quiet h'
    · split
      · exact h'
      · exact closeRoll_quiet h'
    · exact suspendedReport_quiet h'

/-! ### Device changes -/

theorem stationDeviceDown_quiet {st : St} (h : Quiet s₀ s) : Quiet s₀ (stationDeviceDown st s) := by
  unfold stationDeviceDown; dsimp only; split
  · exact station_quiet (fun _ => rfl) h
  · split
    · exact h
    · exact h
    · exact detach_quiet (dropAsk_quiet (station_quiet (fun _ => rfl) h))
    · exact detach_quiet (dropAsk_quiet (station_quiet (fun _ => rfl) h))
    · exact detach_quiet (dropAsk_quiet (station_quiet (fun _ => rfl) h))
    · exact detach_quiet (dropAsk_quiet (station_quiet (fun _ => rfl) h))
    · exact suspendHeld_quiet h
    · exact suspendHeld_quiet h
    · exact suspendUnload_quiet h
    · split
      · exact h
      all_goals exact failStep_quiet h

theorem stationDeviceUp_quiet {st : St} (h : Quiet s₀ s) : Quiet s₀ (stationDeviceUp st s) := by
  unfold stationDeviceUp; dsimp only; split
  · exact enterIdle_quiet h
  · exact h

theorem tellStationDown_quiet {a : Byte} (h : Quiet s₀ s) : Quiet s₀ (tellStationDown a s) := by
  unfold tellStationDown; split
  · exact stationDeviceDown_quiet h
  · exact h

theorem tellStationUp_quiet {a : Byte} (h : Quiet s₀ s) : Quiet s₀ (tellStationUp a s) := by
  unfold tellStationUp; split
  · exact stationDeviceUp_quiet h
  · exact h

/-! ### The end of an act -/

theorem settleStation_quiet (n : Nat) {st : St} {s : State} (h : Quiet s₀ s) : Quiet s₀ (settleStation n st s) := by
  induction n generalizing s with
  | zero => exact h
  | succ n ih =>
    unfold settleStation; split
    · exact ih (beginCheck_quiet h)
    · split
      · exact ih (tryHead_quiet h)
      · exact h

theorem settle_quiet (h : Quiet s₀ s) : Quiet s₀ (settle s) := foldl_quiet (fun _ => settleStation_quiet _) _ h

theorem finish_quiet (h : Quiet s₀ s) : Quiet s₀ (finish s) := arbitrate_quiet (settle_quiet h)

/-! ### Transaction endings -/

theorem startGap_quiet {st : St} {p : Purpose} (h : Quiet s₀ s) : Quiet s₀ (startGap st p s) := station_quiet (fun _ => rfl) h

theorem clearWaits_quiet {st : St} (h : Quiet s₀ s) : Quiet s₀ (clearWaits st s) := station_quiet (fun _ => rfl) h

theorem startPoll_quiet {st : St} (h : Quiet s₀ s) : Quiet s₀ (startPoll st s) := station_quiet (fun _ => rfl) h

theorem shootAcked_quiet {st : St} (h : Quiet s₀ s) : Quiet s₀ (shootAcked st s) := station_quiet (fun _ => rfl) h

theorem advanceAcked_quiet {st : St} (h : Quiet s₀ s) : Quiet s₀ (advanceAcked st s) := station_quiet (fun _ => rfl) h

theorem phaseEnding_quiet {st : St} {p : Purpose} {ph : Phase} {e : Ending} (h : Quiet s₀ s) : Quiet s₀ (phaseEnding st p ph e s) := by
  unfold phaseEnding; dsimp only; split
  · exact h
  · split
    · split
      · split
        · exact completeAbort_quiet h
        · exact askCamera_quiet (station_quiet (fun _ => rfl) h)
      · exact shootAcked_quiet h
      · exact advanceAcked_quiet h
      · exact h
      · exact h
    · split
      · split
        · exact completeAbort_quiet h
        · exact failRunning_quiet h
      · split
        · exact completeAbort_quiet h
        · exact failRunning_quiet h
      · exact failRunning_quiet h
      · exact startPoll_quiet (clearWaits_quiet h)
      · exact startPoll_quiet (clearWaits_quiet h)
    · split
      · exact completeAbort_quiet h
      · split
        · exact failRunning_quiet h
        · exact startGap_quiet h
    · split
      · exact startPoll_quiet (clearWaits_quiet h)
      · exact startPoll_quiet (clearWaits_quiet h)
      all_goals exact h

theorem rewindEnding_quiet {st : St} {e : Ending} (h : Quiet s₀ s) : Quiet s₀ (rewindEnding st e s) := by
  unfold rewindEnding; split
  · exact h
  · split
    · exact station_quiet (fun _ => rfl) h
    · exact suspendUnload_quiet (offerFault_quiet h)
    · split
      · exact suspendUnload_quiet (offerFault_quiet h)
      · exact startGap_quiet h
    · exact h

theorem rewindPollEnding_quiet {st : St} {e : Ending} (h : Quiet s₀ s) : Quiet s₀ (rewindPollEnding st e s) := by
  unfold rewindPollEnding; split
  · exact h
  · split
    · split
      · exact suspendUnload_quiet (offerFault_quiet h)
      · exact startGap_quiet h
    · exact h
    · exact startPoll_quiet (clearWaits_quiet h)
    · exact startPoll_quiet (clearWaits_quiet h)

theorem rollCheckEnding_quiet {st : St} {e : Ending} (h : Quiet s₀ s) : Quiet s₀ (rollCheckEnding st e s) := by
  unfold rollCheckEnding; split
  · exact h
  · split
    · split
      · exact clearWaits_quiet h
      · exact startGap_quiet h
    · exact h
    · exact clearWaits_quiet h
    · exact clearWaits_quiet h

theorem resumeEnding_quiet {st : St} {p : Purpose} {u : ResumeStep} {e : Ending} (h : Quiet s₀ s) :
    Quiet s₀ (resumeEnding st p u e s) := by
  unfold resumeEnding; dsimp only; split
  · exact h
  · split
    · split
      · exact station_quiet (fun _ => rfl) h
      · exact h
    · split
      · exact startPoll_quiet (clearWaits_quiet h)
      · exact failStep_quiet (offerFault_quiet h)
    · split
      · exact failStep_quiet (offerFault_quiet h)
      · exact startGap_quiet h
    · split
      · exact startPoll_quiet (clearWaits_quiet h)
      · exact h

theorem stationEnding_quiet {st : St} {p : Purpose} {e : Ending} (h : Quiet s₀ s) : Quiet s₀ (stationEnding st p e s) := by
  unfold stationEnding; split
  · exact h
  · split
    · exact phaseEnding_quiet h
    · exact phaseEnding_quiet h
    · exact phaseEnding_quiet h
    · exact phaseEnding_quiet h
    · exact phaseEnding_quiet h
    · exact rewindEnding_quiet h
    · exact rewindPollEnding_quiet h
    · exact rollCheckEnding_quiet h
    · exact resumeEnding_quiet h
    · exact resumeEnding_quiet h
    · exact resumeEnding_quiet h
    all_goals exact h

theorem detachedEnding_quiet {st : St} {p : Purpose} {e : Ending} (h : Quiet s₀ s) : Quiet s₀ (detachedEnding st p e s) := by
  unfold detachedEnding; dsimp only; split
  · split
    · exact station_quiet (fun _ => rfl) h
    · split
      · exact station_quiet (fun _ => rfl) h
      · exact h
  · exact h

theorem askFor_quiet {st : St} {p : Purpose} (h : Quiet s₀ s) : Quiet s₀ (askFor st p s) := by
  unfold askFor; split
  · exact askLampSet_quiet h
  all_goals first | exact h | exact askCamera_quiet h

/-! ### Abort and cancel -/

theorem applyAbort_quiet {st : St} (h : Quiet s₀ s) : Quiet s₀ (applyAbort st s) := by
  have h' : Quiet s₀ (modHead st (fun q => { q with abort := true }) s) := modHead_quiet h
  unfold applyAbort; dsimp only; split
  · exact abortSuspended_quiet h'
  · exact completeAbort_quiet h'
  · split
    · exact completeAbort_quiet h'
    · split
      · exact h'
      · exact completeAbort_quiet h'
    · split
      · exact h'
      · exact completeAbort_quiet h'
    all_goals exact h'
  all_goals exact h'

theorem cancelAt_quiet {st : St} {n : Nat} (h : Quiet s₀ s) : Quiet s₀ (cancelAt st n s) := by
  have h' := foldl_quiet (f := fun s (_ : Nat) => requestEnded n s) (fun _ => requestEnded_quiet)
    (List.range (s.stations[st].queue.filter (removable n)).length)
    (modStation_quiet (st := st) (f := fun x =>
      { x with queue := x.queue.filter fun q => !removable n q, state := afterRemoval x.queue.head? n x.state })
      (fun x => List.length_filter_le _ _) h)
  unfold cancelAt; dsimp only; split
  · exact applyAbort_quiet h'
  · exact h'

end

end Sys2Proof.Machine
end

