-- ==== Sys2Proof/Laws/QuietReplies.lean ====
section
/-! SUPPORT. The ring's answers, the timers and the waiting posts keep what every act keeps, and so does the answer to a frame in
hand: one lemma for each command that has no more to it. -/

namespace Sys2Proof.Machine

section
variable {s₀ s : State}

/-! ### Reports and wakes -/

theorem postReport_quiet {e : Event} (h : Quiet s₀ s) : Quiet s₀ (postReport e s) := by
  unfold postReport; split
  · next hc => simp only [Bool.and_eq_true] at hc; exact joinTail_quiet hc.1 h
  · exact addWaiter_quiet (ringSame_quiet rfl h)

theorem cameraUpstream_quiet {d : Device} {b : Byte} {r : CameraReport} (h : Quiet s₀ s) : Quiet s₀ (cameraUpstream d b r s) := by
  unfold cameraUpstream; split
  · exact postReport_quiet h
  · exact h

theorem routeReport_quiet {d : Device} {x : Status} (h : Quiet s₀ s) : Quiet s₀ (routeReport d x s) := by
  unfold routeReport; split
  · split
    · split
      · exact stationReport_quiet h
      · exact cameraUpstream_quiet (noteRollStatus_quiet h)
    · exact cameraUpstream_quiet h
  · exact printerReport_quiet h
  · split
    · exact h
    · exact postReport_quiet h

theorem routeForwarded_quiet {d : Device} {x : Status} (h : Quiet s₀ s) : Quiet s₀ (routeForwarded d x s) := by
  unfold routeForwarded; split
  · split
    · split
      · exact settle_quiet (stationReport_quiet h)
      · exact noteRollStatus_quiet h
    · exact h
  · exact printerReport_quiet h
  · exact h

theorem wakeMismatch_quiet {i : Fin 16} {d : Device} (h : Quiet s₀ s) : Quiet s₀ (wakeMismatch i d s) := by
  unfold wakeMismatch; dsimp only; split
  · exact modDevice_quiet h
  · exact offerFault_quiet (modDevice_quiet h)

theorem wakeUp_quiet {i : Fin 16} {d : Device} {x : Status} (h : Quiet s₀ s) : Quiet s₀ (wakeUp i d x s) := by
  unfold wakeUp; dsimp only
  refine routeReport_quiet (settle_quiet ?_)
  split
  · exact printerReachesUp_quiet (tellStationUp_quiet (modDevice_quiet h))
  · exact tellStationUp_quiet (modDevice_quiet h)

theorem takeWake_quiet {i : Fin 16} {f : LinkFrame} (h : Quiet s₀ s) : Quiet s₀ (takeWake i f s) := by
  unfold takeWake; split
  · exact h
  · split
    · split
      · exact modDevice_quiet h
      · split
        · split
          · exact wakeUp_quiet h
          · exact modDevice_quiet h
        · exact wakeMismatch_quiet h
    · exact modDevice_quiet h

theorem routeReply_quiet {t : Transaction} {f : LinkFrame} {route : Device → Status → State → State}
    (hr : ∀ d x {u : State}, Quiet s₀ u → Quiet s₀ (route d x u)) (h : Quiet s₀ s) : Quiet s₀ (routeReply t f route s) := by
  unfold routeReply; split
  · exact hr _ _ h
  · exact h

theorem takeOwn_quiet {t : Transaction} {f : LinkFrame} (h : Quiet s₀ s) : Quiet s₀ (takeOwn t f s) := by
  have h' : Quiet s₀ (routeReply t f routeReport s) := routeReply_quiet (fun _ _ => routeReport_quiet) h
  unfold takeOwn; dsimp only; split
  · split
    · exact stationEnding_quiet (endGrant_quiet h')
    · exact detachedEnding_quiet (endGrant_quiet h')
  · split
    · exact composerEnding_quiet (endGrant_quiet h')
    · exact endGrant_quiet h'
  · exact endGrant_quiet h'
  · exact endGrant_quiet h'

/-! ### Answers that take their reserved place -/

/-- The answer of a forwarded frame whose transaction has ended, after quiet acts. -/
theorem answerForward_kept {r : Record} (h : Quiet s₀ s) (hs : PlacesKept s₀ → ∃ f, s₀.slot = .running f) :
    Kept s₀ (answerForward r (endGrant s)) := by
  have m : Kept s₀ { endGrant s with
      slot := .empty, eq := { s.eq with reserved := s.eq.reserved - 1, records := s.eq.records ++ [r] } } := by
    refine ⟨h.statics, h.labels, h.accounts, h.orders, h.fault, h.queues, h.buffers, fun hp => ?_⟩
    obtain ⟨f, hf⟩ := hs hp
    have hr := h.running f hf
    obtain ⟨h1, h2, h3, _⟩ := h.places hp
    have h2' : s.eq.records.length + s.eq.reserved + s.eq.given.length ≤ 16 := h2
    have key : placesOwed { s with slot := .empty } + 1 = placesOwed s := by simp [placesOwed, hr]; omega
    refine ⟨?_, ?_, h3, fun t ht => by cases ht⟩
    · show s.eq.reserved - 1 = placesOwed { s with slot := .empty }
      omega
    · simp only [List.length_append, List.length_singleton]
      unfold Config.queuePlaces; omega
  exact m.trans (startTransmit_quiet (Quiet.refl _)).toKept

/-- The answer of the frame in hand (R162, R170): its place is used and its buffer is free. -/
theorem answerHand_quiet {f : LinkFrame} {c : Result} {data : List Byte} (hi : s.inHand.isSome = true) (h : Quiet s₀ s) :
    Quiet s₀ (answerHand f c data s) := by
  refine startTransmit_quiet ⟨⟨h.statics, h.labels, h.accounts, h.orders, h.fault, h.queues, ?_, fun hp => ?_⟩, h.running⟩
  · refine Nat.le_trans ?_ h.buffers
    simp only [buffersInUse, hi, if_true, Option.isSome_none, Bool.false_eq_true, if_false]
    omega
  · obtain ⟨h1, h2, h3, h4⟩ := h.places hp
    have h2' : s.eq.records.length + s.eq.reserved + s.eq.given.length ≤ 16 := h2
    have key : placesOwed { s with inHand := none } + 1 = placesOwed s := by simp [placesOwed, hi]; omega
    refine ⟨?_, ?_, h3, h4⟩
    · show s.eq.reserved - 1 = placesOwed { s with inHand := none }
      omega
    · simp only [List.length_append, List.length_singleton]
      unfold Config.queuePlaces; omega

/-- A frame that is in hand has its answer place. -/
theorem inHand?_isSome {k : Byte} {f : LinkFrame} (h : inHand? s k = some f) : s.inHand.isSome = true := by
  unfold inHand? at h; split at h
  · next e => rw [e]; rfl
  · cases h

/-- A refused frame is only answered; an accepted one is answered, and then its change follows. -/
theorem answered_quiet {f : LinkFrame} {r : Except Result (State → State)} (hi : s.inHand.isSome = true)
    (hr : ∀ g, r = .ok g → ∀ {u : State}, Quiet s₀ u → Quiet s₀ (g u)) (h : Quiet s₀ s) : Quiet s₀ (answered f r s) := by
  unfold answered; split
  · exact answerHand_quiet hi h
  · exact hr _ rfl (answerHand_quiet hi h)

/-! ### Loss -/

theorem deviceLeftUp_quiet {d : Device} (h : Quiet s₀ s) : Quiet s₀ (deviceLeftUp d s) := by
  have h' : Quiet s₀ (tellStationDown d.addr s) := tellStationDown_quiet h
  unfold deviceLeftUp; dsimp only
  refine dropAsksFor_quiet (slotDeviceDown_quiet ?_)
  split
  · exact printerDown_quiet h'
  · exact h'

theorem loseDevice_quiet {i : Fin 16} {k : Byte} (h : Quiet s₀ s) : Quiet s₀ (loseDevice i k s) := by
  unfold loseDevice; split
  · exact h
  · exact offerFault_quiet (deviceLeftUp_quiet (modDevice_quiet h))

theorem deviceRemoved_quiet {d : Device} (h : Quiet s₀ s) : Quiet s₀ (deviceRemoved d s) := by
  have h' : Quiet s₀ (if d.link = .up then tellStationDown d.addr s else s) := by
    split
    · exact tellStationDown_quiet h
    · exact h
  have hp : ∀ {t : State}, Quiet s₀ t → Quiet s₀ (if d.cls = .printer then printerRemoved t else t) := by
    intro t ht; split
    · exact printerRemoved_quiet ht
    · exact ht
  unfold deviceRemoved; exact dropAsksFor_quiet (slotDeviceDown_quiet (hp h'))

theorem replaceDevice_quiet {i : Fin 16} {x : Option Device} (h : Quiet s₀ s) : Quiet s₀ (replaceDevice i x s) := by
  unfold replaceDevice; dsimp only; split
  · exact finish_quiet (deviceRemoved_quiet (orphanEngine_quiet (devices_quiet h)))
  · exact finish_quiet (devices_quiet h)

/-! ### A reply, and a silent end -/

/-- With the places accounted for, a transaction of the forward slot has its frame there. -/
theorem forward_running {t : Transaction} (he : s.ring.engine = some t) (hr : t.requester = .forward) (hv : t.void = false)
    (hp : PlacesKept s) : ∃ f, s.slot = .running f := hp.2.2.2 t he hr hv

theorem takeReply_kept {t : Transaction} {f : LinkFrame} (he : s.ring.engine = some t) : Kept s (takeReply t f s) := by
  unfold takeReply; split
  · exact (endGrant_quiet (.refl s)).toKept
  · next hv =>
    have hv : t.void = false := by simpa using hv
    split
    · split
      · next hr => exact answerForward_kept (.refl s) (forward_running he hr hv)
      all_goals exact (endGrant_quiet (.refl s)).toKept
    · have hd : Quiet s (modDevice t.entry Device.replied s) := modDevice_quiet (.refl s)
      dsimp only; split
      · next hr =>
        unfold takeForwarded; dsimp only
        refine answerForward_kept ?_ (forward_running he hr hv)
        split
        · exact routeReply_quiet (fun _ _ => routeForwarded_quiet) hd
        · exact hd
      · split
        · exact (endGrant_quiet (takeWake_quiet hd)).toKept
        · exact (endGrant_quiet (routeReply_quiet (fun _ _ => routeReport_quiet) hd)).toKept
      · exact (takeOwn_quiet hd).toKept
      · exact (takeOwn_quiet hd).toKept

theorem replyOf_kept {p : Byte → Bool} {bytes : List Byte} : Kept s (replyOf p bytes s) := by
  unfold replyOf; split
  · next t f hr =>
    split
    · have he : s.ring.engine = some t := by
        unfold reply? at hr; split at hr
        · next t' f' h1 _ =>
          split at hr
          · simp only [Option.some.injEq, Prod.mk.injEq] at hr; rw [← hr.1]; exact h1
          · cases hr
        · cases hr
      exact (takeReply_kept he).trans (finish_quiet (.refl _)).toKept
    · exact .refl s
  · exact .refl s

theorem silentEnd_kept {t : Transaction} (he : s.ring.engine = some t) : Kept s (silentEnd t s) := by
  have hf : ∀ {u : State}, Quiet s u → t.void = false → Kept s (forwardNoReply t (endGrant u)) := by
    intro u hu hv
    unfold forwardNoReply; split
    · next hr => exact answerForward_kept hu (forward_running he hr hv)
    all_goals exact (endGrant_quiet hu).toKept
  unfold silentEnd; split
  · exact (endGrant_quiet (.refl s)).toKept
  · next hv =>
    have hv : t.void = false := by simpa using hv
    split
    · exact hf (.refl s) hv
    · split
      · exact (endGrant_quiet (modDevice_quiet (.refl s))).toKept
      · exact hf (loseDevice_quiet (.refl s)) hv

theorem windowCloses_kept : Kept s (windowCloses s) := by
  unfold windowCloses; split
  · exact .refl s
  · next t he =>
    repeat' split
    · exact .refl s
    · exact (ring_quiet (fun t' h1 h2 h3 => by cases h1; exact ⟨t, he, h2, h3⟩) (.refl s)).toKept
    · exact (silentEnd_kept he).trans (finish_quiet (.refl _)).toKept

/-! ### Timers and limits -/

theorem stationGapPasses_quiet {st : St} (h : Quiet s₀ s) : Quiet s₀ (stationGapPasses st s) := by
  unfold stationGapPasses; split
  · exact h
  · dsimp only; split
    · exact station_quiet (fun _ => rfl) h
    · exact finish_quiet (askFor_quiet (station_quiet (fun _ => rfl) h))

theorem composerGapPasses_quiet (h : Quiet s₀ s) : Quiet s₀ (composerGapPasses s) := by
  unfold composerGapPasses; split
  · exact h
  · dsimp only; refine finish_quiet ?_; split
    · exact askPrint_quiet (modComposer_quiet (fun _ => ⟨rfl, rfl⟩) (fun _ => rfl) h)
    · exact placeComposerAsk_quiet (modComposer_quiet (fun _ => ⟨rfl, rfl⟩) (fun _ => rfl) h)

theorem pollTimerExpires_quiet {st : St} (h : Quiet s₀ s) : Quiet s₀ (pollTimerExpires st s) := by
  unfold pollTimerExpires; dsimp only; split
  · split
    · split
      · exact station_quiet (fun _ => rfl) h
      · exact finish_quiet (askFor_quiet (station_quiet (fun _ => rfl) h))
    · exact station_quiet (fun _ => rfl) h
  · exact h

theorem operationTimeout_quiet {st : St} {k : Byte} (h : Quiet s₀ s) : Quiet s₀ (operationTimeout st k s) := offerFault_quiet h

theorem shotLimitPasses_quiet {st : St} (h : Quiet s₀ s) : Quiet s₀ (shotLimitPasses st s) := by
  have h' : Quiet s₀ (modStation st (fun x => { x with shotLimit := none, pollTimer := false }) s) :=
    station_quiet (fun _ => rfl) h
  unfold shotLimitPasses; dsimp only; split
  · have hm := markGateSpoiled_quiet (st := st) (x := .aborted) h'
    split
    · next e => rw [e] at hm; exact endRequest_quiet hm
    · next e => rw [e] at hm; exact enterAdvance_quiet (operationTimeout_quiet hm)
    · next e => rw [e] at hm; exact enterAdvance_quiet (operationTimeout_quiet hm)
  · have hm := markGateSpoiled_quiet (st := st) (x := .uncertain) h'
    split
    · next e => rw [e] at hm; exact endRequest_quiet hm
    · next e => rw [e] at hm; exact suspendHeld_quiet (operationTimeout_quiet hm)
    · next e => rw [e] at hm; exact suspendHeld_quiet (operationTimeout_quiet hm)

theorem advanceLimitPasses_quiet {st : St} (h : Quiet s₀ s) : Quiet s₀ (advanceLimitPasses st s) := by
  unfold advanceLimitPasses; dsimp only; split
  · exact failStep_quiet (operationTimeout_quiet (station_quiet (fun _ => rfl) h))
  · exact suspendHeld_quiet (operationTimeout_quiet (station_quiet (fun _ => rfl) h))

/-! ### The commands that are quiet as a whole -/

/-- What a command answers, when it is live. -/
theorem live_eq {s t u : State} (h : live s t = .next u) : u = s ∨ u = t := by
  unfold live at h; split at h
  · cases h; exact .inl rfl
  · cases h; exact .inr rfl

/-- A command whose effect is quiet keeps what every act keeps. -/
theorem live_quiet {s t u : State} (h : live s t = .next u) (q : Quiet s t) : Quiet s u := by
  rcases live_eq h with e | e <;> subst e
  · exact .refl _
  · exact q

theorem live_kept {s t u : State} (h : live s t = .next u) (q : Kept s t) : Kept s u := by
  rcases live_eq h with e | e <;> subst e
  · exact .refl _
  · exact q

/-- The timers and limits of a station, of the Composer and of the Device Table. -/
theorem timer_quiet {c : Instr} {t : State} (hc : (∃ p, c = .waitGapExpired p) ∨ (∃ i, c = .idleTimerExpired i ∨ c = .wakeTimerExpired i)
      ∨ (∃ st, c = .pollTimerExpired st ∨ c = .shotLimitExpired st ∨ c = .advanceLimitExpired st ∨ c = .rewindLimitExpired st)
      ∨ c = .printPollTimerExpired ∨ c = .printLimitExpired) (h : exec c s = .next t) : Quiet s t := by
  have r := Quiet.refl s
  rcases hc with ⟨p, rfl⟩ | ⟨i, rfl | rfl⟩ | ⟨st, rfl | rfl | rfl | rfl⟩ | rfl | rfl
  · refine live_quiet h ?_
    cases p with
    | station st => exact stationGapPasses_quiet r
    | composer => exact composerGapPasses_quiet r
  · refine live_quiet h ?_; split
    · split
      · exact finish_quiet (modDevice_quiet r)
      · exact r
    · exact r
  · refine live_quiet h ?_; split
    · split
      · exact finish_quiet (modDevice_quiet r)
      · exact r
    · exact r
  · exact live_quiet h (pollTimerExpires_quiet r)
  · refine live_quiet h ?_; dsimp only; split
    · exact finish_quiet (shotLimitPasses_quiet r)
    · exact r
  · refine live_quiet h ?_; dsimp only; split
    · exact finish_quiet (advanceLimitPasses_quiet r)
    · exact r
  · refine live_quiet h ?_; dsimp only; split
    · exact finish_quiet (suspendUnload_quiet (operationTimeout_quiet r))
    · exact r
  · refine live_quiet h ?_; split
    · dsimp only; split
      · exact finish_quiet (placeComposerAsk_quiet (modComposer_quiet (fun _ => ⟨rfl, rfl⟩) (fun _ => rfl) r))
      · exact modComposer_quiet (fun _ => ⟨rfl, rfl⟩) (fun _ => rfl) r
    · exact r
  · refine live_quiet h ?_; split
    · exact finish_quiet (pauseComposer_quiet (offerFault_quiet r))
    · exact r

/-- The waiting posts. -/
theorem post_quiet {c : Instr} {t : State} (hc : (∃ st, c = .pendingPostQueued st ∨ c = .rollOpenQueued st ∨ c = .rollReportQueued st)
      ∨ (∃ i, c = .orderSummaryQueued i) ∨ c = .stripPrintedQueued ∨ c = .deviceReportQueued ∨ c = .faultNoticeQueued)
    (h : exec c s = .next t) : Quiet s t := by
  have r := Quiet.refl s
  rcases hc with ⟨st, rfl | rfl | rfl⟩ | ⟨i, rfl⟩ | rfl | rfl | rfl
  · refine live_quiet h ?_; split
    · next hw =>
      split
      · exact finish_quiet (finishRequest_quiet (usePlace_quiet hw r))
      · exact r
    · exact r
  · refine live_quiet h ?_; split
    · next hw =>
      split
      · refine finish_quiet ?_
        unfold rollOpenTold; split
        · exact enterChecked_quiet (modMap_quiet (usePlace_quiet hw r))
        · exact modMap_quiet (usePlace_quiet hw r)
      · exact r
    · exact r
  · refine live_quiet h ?_; split
    · next hw =>
      split
      · split
        · exact finish_quiet (rollClosed_quiet (discardMap_quiet (usePlace_quiet hw r)))
        · exact r
      · exact r
    · exact r
  · refine live_quiet h ?_; split
    · next hw =>
      split
      · split
        · exact freeOrder_quiet (usePlace_quiet hw r)
        · exact r
      · exact r
    · exact r
  · refine live_quiet h ?_; split
    · next hw =>
      split
      · exact finish_quiet (stripLeaves_quiet (usePlace_quiet hw r))
      · exact r
    · exact r
  · refine live_quiet h ?_; split
    · next hw =>
      split
      · exact finish_quiet (usePlace_quiet (w := .deviceReport) hw (ringSame_quiet rfl r))
      · exact r
    · exact r
  · refine live_quiet h ?_; split
    · next hw =>
      split
      · next x hx => exact usePlace_quiet (w := .faultNotice) hw (capture_quiet (.inr ⟨rfl, id⟩) r)
      · exact r
    · exact r

/-- The arrivals on the ring, and the reply window. -/
theorem ring_kept {c : Instr} {t : State} (hc : (∃ b, c = .readyReceived b ∨ c = .ackReceived b ∨ c = .waitReceived b ∨ c = .nakReceived b
      ∨ c = .statusReplyReceived b ∨ c = .strayRingFrame b) ∨ c = .replyWindowExpired)
    (h : exec c s = .next t) : Kept s t := by
  rcases hc with ⟨b, rfl | rfl | rfl | rfl | rfl | rfl⟩ | rfl
  · exact live_kept h replyOf_kept
  · exact live_kept h replyOf_kept
  · exact live_kept h replyOf_kept
  · exact live_kept h replyOf_kept
  · exact live_kept h replyOf_kept
  · exact live_kept h (.refl s)
  · exact live_kept h windowCloses_kept

end

end Sys2Proof.Machine
end

