-- ==== Sys2Proof/Laws/Replies.lean ====
section
/-! SUPPORT. What the ring's answers and the sending of a ring frame can do, said once: which statuses parse, which
answers to a WAKE are taken, and what the end of a frame's sending changes. -/

namespace Sys2Proof.Machine

/-! ### Statuses that parse (R204) -/

theorem parseCamera_isSome_iff (p : List Byte) : (parseCamera p).isSome = true ↔ StatusParses .camera p := by
  unfold parseCamera StatusParses
  split
  · rename_i flags stock gate
    constructor
    · intro h
      by_cases hf : 15 < flags.toNat ∨ (flags.getLsbD 2 = true ∧ flags.getLsbD 1 = false)
      · rw [if_pos hf] at h; cases h
      · rw [not_or, not_and] at hf
        exact ⟨flags, stock, gate, rfl, Nat.le_of_not_lt hf.1, fun h2 => by simpa using hf.2 h2⟩
    · rintro ⟨_, _, _, h, h1, h2⟩
      cases h
      rw [if_neg (not_or.mpr ⟨Nat.not_lt_of_le h1, fun hc => by rw [h2 hc.1] at hc; cases hc.2⟩)]
      rfl
  · rename_i hn
    exact ⟨fun h => (by cases h), fun ⟨a, b, c, h, _⟩ => absurd h (hn a b c)⟩

theorem condition?_isSome_iff (b : Byte) : (condition? b).isSome = true ↔ b.toNat ≤ 3 := by
  revert b; decide

theorem parsePrinter_isSome_iff (p : List Byte) : (parsePrinter p).isSome = true ↔ StatusParses .printer p := by
  unfold parsePrinter StatusParses
  split
  · rename_i c flags
    by_cases hf : 1 < flags.toNat
    · rw [if_pos hf]
      refine ⟨fun h => (by cases h), ?_⟩
      rintro ⟨_, _, h, _, h2⟩; cases h; exact absurd hf (Nat.not_lt_of_le h2)
    · rw [if_neg hf, Option.isSome_map, condition?_isSome_iff]
      refine ⟨fun h => ⟨c, flags, rfl, h, Nat.le_of_not_lt hf⟩, ?_⟩
      rintro ⟨_, _, h, h1, _⟩; cases h; exact h1
  · rename_i hn
    exact ⟨fun h => (by cases h), fun ⟨a, b, h, _⟩ => absurd h (hn a b)⟩

theorem parseItemStatus_isSome_iff (p : List Byte) : (parseItemStatus p).isSome = true
    ↔ ∃ (condition n : Byte) (items : List Byte), p = condition :: n :: items ∧ n.toNat ≤ 8 ∧ items.length = n.toNat := by
  unfold parseItemStatus
  split
  · rename_i c n items
    by_cases h : n.toNat ≤ 8 ∧ items.length = n.toNat
    · rw [if_pos h]; exact ⟨fun _ => ⟨c, n, items, rfl, h⟩, fun _ => rfl⟩
    · rw [if_neg h]
      refine ⟨fun h => (by cases h), ?_⟩
      rintro ⟨_, _, _, e, h'⟩; cases e; exact absurd h' h
  · rename_i hn
    exact ⟨fun h => (by cases h), fun ⟨a, b, c, h, _⟩ => absurd h (hn a b c)⟩

/-- A status parses by the executable rule exactly when it has the layout of 10.3. -/
theorem parseStatus_isSome_iff (c : DevClass) (p : List Byte) : (parseStatus c p).isSome = true ↔ StatusParses c p := by
  cases c
  · exact parseCamera_isSome_iff p
  · exact parseItemStatus_isSome_iff p
  · exact parsePrinter_isSome_iff p
  · exact parseItemStatus_isSome_iff p

/-- The answers that end a WAKE (R145): a READY that names another class or carries a status of the entry's class, a
STATUS_REPLY whose status parses, and every other reply kind. -/
theorem wakeAccepted_iff (c : DevClass) (f : LinkFrame) : wakeAccepted c f = true
    ↔ (f.kind = kindReady ∧ ∃ b status, f.payload = b :: status ∧ (DevClass.ofCode b = some c → StatusParses c status))
      ∨ (f.kind ≠ kindReady ∧ f.kind = kindStatusReply ∧ StatusParses c f.payload)
      ∨ (f.kind ≠ kindReady ∧ f.kind ≠ kindStatusReply ∧ isReplyKind f.kind = true) := by
  unfold wakeAccepted
  by_cases h : f.kind = kindReady
  · rw [if_pos h]
    refine ⟨fun hr => .inl ⟨h, ?_⟩, ?_⟩
    · cases hp : f.payload with
      | nil => rw [hp] at hr; cases hr
      | cons b status =>
        refine ⟨b, status, rfl, fun hb => ?_⟩
        simpa [hp, readyParses, hb, parseStatus_isSome_iff] using hr
    · rintro (⟨-, b, status, hp, hs⟩ | ⟨hn, -⟩ | ⟨hn, -⟩)
      · rw [hp]; unfold readyParses; dsimp only; split
        · rename_i hb; exact (parseStatus_isSome_iff c status).mpr (hs hb)
        · rfl
      · exact absurd h hn
      · exact absurd h hn
  · rw [if_neg h]
    by_cases hs : f.kind = kindStatusReply
    · rw [if_pos hs, parseStatus_isSome_iff]
      refine ⟨fun hp => .inr (.inl ⟨h, hs, hp⟩), ?_⟩
      rintro (⟨hr, -⟩ | ⟨-, -, hp⟩ | ⟨-, hn, -⟩)
      · exact absurd hr h
      · exact hp
      · exact absurd hs hn
    · rw [if_neg hs]; simp [h, hs]

/-! ### The sending of a ring frame (R144) -/

@[simp] theorem Transaction.sent_opened (t : Transaction) : t.sent.opened = max t.opened t.attempt := rfl

@[simp] theorem Transaction.sent_attempt (t : Transaction) : t.sent.attempt = t.attempt := rfl

@[simp] theorem Transaction.sent_request (t : Transaction) : t.sent.request = t.request := rfl

/-- RDIR is asserted exactly while nRESET is high and a transaction's attempt is being sent. -/
theorem rdir_iff (s : State) : rdir s = true
    ↔ s.pins.nresetLow = false ∧ ∃ t, s.ring.engine = some t ∧ t.opened < t.attempt := by
  unfold rdir sendsOnRing
  cases s.pins.nresetLow <;> cases s.ring.engine <;> simp [Transaction.isSending]

/-- All that the end of a frame's sending changes is the engine's transaction. -/
theorem ringFrameSent_engine (s : State) : ∃ e, ringFrameSent s = { s with ring := { s.ring with engine := e } } := by
  unfold ringFrameSent
  split
  · exact ⟨s.ring.engine, rfl⟩
  · exact ⟨_, rfl⟩

end Sys2Proof.Machine
end

