-- ==== Sys2Proof/Tests/Slice0.lean ====
section
/-! SUPPORT. The tests of the model: the worked figures of the spec, one small step for most commands, and for every
statement that has hypotheses a state and operands that meet them. -/

namespace Sys2Proof.Tests

open Sys2Proof Sys2Proof.Machine

/-! ### The state that the tests build on -/

def testStock : Stock :=
  { code := 5, length := 36, tRef := 2500, balance := ⟨-2, 0, 3⟩, tMin := 20, tMax := 60000, knee := 10000, slope := 320 }

def allChannels : Rgb Bool := ⟨true, true, true⟩

def testPlan : List PlanStep := [⟨0, allChannels⟩, ⟨1, allChannels⟩]

def testTariff : Tariff := ⟨120, 15, 128, 200⟩

def testAccount : Account := ⟨304110, some 20000, 100, 1000, 1⟩

def testTerms : OrderTerms :=
  { number := 812, account := 304110, plan := 0, template := 0, station := 0, copies := 1, trim := ⟨0, 0, 0⟩
    course := word ['H', '1'], title := [] }

def testOrder : Order := { Order.opened testTerms 0 200 with outstanding := 1, reserved := 2 }

/-- The record of a RESERVED frame of the request. -/
def testFrame (n : Nat) : FrameRec :=
  { number := n, state := .reserved, order := 812, original := 17, step := n, copy := 1, nominal := n == 1
    times := ⟨1000, 2000, 3000⟩, marks := ⟨Mark.none, Mark.none, Mark.none⟩, hold := 135
    slot := ⟨n % 320, Nat.mod_lt _ (by decide)⟩ }

/-- A roll map with two frames reserved and its header slot given. -/
def testMap : RollMap :=
  { stock := 5, length := 36, roll := 4, gate := 1, next := 3, header := some 0, frames := [testFrame 1, testFrame 2]
    opening := false, closing := none }

/-- The same roll with nothing reserved. -/
def freshMap : RollMap := { testMap with next := 1, frames := [] }

/-- The request that runs those frames. -/
def testRequest : Request :=
  { order := 812, original := 17, index := ⟨11, 7, 4⟩, marks := ⟨Mark.none, Mark.none, Mark.none⟩, tag := 0x33
    state := .running, frames := some ⟨4, 1, 2⟩, step := 1, copy := 1, exposed := 0, spoiled := 0, abort := false
    outcome := none }

def testDevice (a : Byte) (c : DevClass) : Device :=
  ⟨a, c, .up, 0, 5, false, true, false, false, false, false⟩

def idlePoll : Transaction :=
  ⟨.idlePoller, 3, .other, .idlePoll, ⟨0x31, 0x70, 0x02, 7, []⟩, 1, false, false, false, 0⟩

/-- Camera 11h, lamp head 21h, printer 30h and another device 31h, all UP; station 1 enabled, the others disabled. The ring
engine runs a poll of 31h. -/
def base : State :=
  { State.reset with
    orders := State.reset.orders.set 0 (some testOrder)
    stocks := State.reset.stocks.set 0 (some testStock)
    plans := State.reset.plans.set 0 (some testPlan)
    bindings := State.reset.bindings.set 0 ⟨some ⟨0x11, 0x21⟩, true⟩
    windows := State.reset.windows.set 0 (some ⟨0, 0, 0, true⟩)
    tariffs := State.reset.tariffs.set 0 (some testTariff)
    accounts := State.reset.accounts.set 0 (some testAccount)
    devices := (((State.reset.devices.set 0 (some (testDevice 0x11 .camera))).set 1
      (some (testDevice 0x21 .lamp))).set 2 (some (testDevice 0x30 .printer))).set 3 (some (testDevice 0x31 .other))
    ring := { Ring.reset with engine := some idlePoll } }

/-- The base with the ring engine idle. -/
def calm : State := { base with ring := Ring.reset }

/-- Station 1 of a state changed, and its roll map set. -/
def atStation (s : State) (map : Option RollMap) (f : Station → Station) : State :=
  modStation 0 f (modRoll 0 (fun r => { r with map := map }) s)

/-- Station 1 READY on a fresh roll. -/
def ready : State := atStation base (some freshMap) fun x => { x with state := .ready }

/-- Station 1 RUNNING its request in a phase. -/
def running (ph : Phase) (s : State) : State :=
  atStation s (some testMap) fun x => { x with state := .running, phase := some ph, queue := [testRequest] }

/-- A management frame in hand, with its answer place reserved. -/
def handed (kind : Byte) (payload : List Byte) (s : State) : State :=
  { s with inHand := some ⟨⟨0x70, 0x40, kind, 9, payload⟩, .manage⟩, eq := { s.eq with reserved := 1 } }

def frameInHand (kind : Byte) (payload : List Byte) : LinkFrame := ⟨0x70, 0x40, kind, 9, payload⟩

/-- What holds of the present entries of a table, checked entry by entry. -/
theorem forSome {α : Type} {x : Option α} {p : α → Prop} [DecidablePred p] (h : x.all (fun a => decide (p a)) = true) :
    ∀ a, x = some a → p a := by
  intro a ha; subst ha; exact of_decide_eq_true h

/-- A test of the state that a command answers. -/
def after (o : Host.Outcome State Fault Refusal) (p : State → Bool) : Bool :=
  match o with
  | .next t => p t
  | _ => false

/-! ### Well-formedness: each check refuses an ill-formed command -/

theorem test_wf_empty_arrival : (Instr.linkFrameReceived [] false).wellFormed = false := by decide
theorem test_wf_ready_kind : (Instr.readyReceived [0xC5, 4, 0x70, 0x11, 0x11, 1]).wellFormed = false := by decide
theorem test_wf_ack_kind : (Instr.ackReceived [0xC5, 4, 0x70, 0x11, 0x12, 1]).wellFormed = false := by decide
theorem test_wf_wait_kind : (Instr.waitReceived [0xC5, 4, 0x70, 0x11, 0x13, 1]).wellFormed = false := by decide
theorem test_wf_nak_kind : (Instr.nakReceived [0xC5, 4, 0x70, 0x11, 0x14, 1]).wellFormed = false := by decide
theorem test_wf_status_kind : (Instr.statusReplyReceived [0xC5, 4, 0x70, 0x11, 0x11, 1]).wellFormed = false := by decide
theorem test_wf_status_short : (Instr.statusReplyReceived [0xC5, 4]).wellFormed = false := by decide

/-! ### Decoding and the step -/

/-- No row of the table has bits, so no word spells a command. -/
theorem test_decode_none : decodeTableWord 8 0 = none := by decide

theorem test_withFetchWord : State.reset.withFetchWord 16 0x1234 = State.reset := rfl

/-! ### Worked figures of the spec -/

/-- R160's check value: the bytes "123456789" give 29B1h. -/
theorem test_crc_check_value :
    crc16 [0x31, 0x32, 0x33, 0x34, 0x35, 0x36, 0x37, 0x38, 0x39] = 0x29B1 := by decide +kernel

/-- R45's table of whole stops and twelfths. -/
theorem test_stops_table :
    ([-144, -13, -12, -5, -1, 0, 11, 12, 144] : List Int).map (fun l => (stops l, twelfths l))
      = [(-12, 0), (-2, 11), (-1, 0), (-1, 7), (-1, 11), (0, 0), (0, 11), (1, 0), (12, 0)] := by decide

def workedTimes (index : Rgb Int) (step : PlanStep) : Rgb Nat × Rgb Mark :=
  stepTimes testStock ⟨0, 0, 0⟩ index ⟨Mark.none, Mark.none, Mark.none⟩ step

/-- 3.8, the worked nominal step. -/
theorem test_times_nominal : (workedTimes ⟨11, 7, 4⟩ ⟨0, allChannels⟩).1 = ⟨4204, 3746, 3746⟩ := by decide

/-- 3.8, the worked step of +1/3. -/
theorem test_times_third : (workedTimes ⟨11, 7, 4⟩ ⟨1, allChannels⟩).1 = ⟨5298, 4719, 4719⟩ := by decide

/-- 3.9 to 3.11, the worked cases of a level of -5, of reciprocity, and of a clamped level. -/
theorem test_times_worked_cases :
    stopShift (scale 2500 (twelfths (-5))) (stops (-5)) = 1873
      ∧ reciprocity (stopShift (scale 20000 (twelfths 12)) (stops 12)) 30000 320 = 42500
      ∧ (stepTimes testStock ⟨0, 0, 24⟩ ⟨-144, 100, 130⟩ ⟨⟨true, false⟩, Mark.none, Mark.none⟩ ⟨6, ⟨false, false, true⟩⟩)
        = (⟨20, 60000, 60000⟩, ⟨⟨true, false⟩, ⟨false, true⟩, ⟨false, true⟩⟩) := by decide

/-- 3.8, the shot limits of both. -/
theorem test_shot_limits :
    shotLimitMs ⟨4204, 3746, 3746⟩ = 3170 ∧ shotLimitMs ⟨5298, 4719, 4719⟩ = 3474 ∧ shotLimitMs ⟨20, 60000, 60000⟩ = 14002 := by
  decide

/-- Rows of R116's table. -/
theorem test_step_marks :
    stepMark [⟨-2, allChannels⟩] 1 { testFrame 1 with nominal := false } = word ['-', '2', '/', '3']
      ∧ stepMark [⟨4, allChannels⟩] 1 { testFrame 1 with nominal := false } = word ['+', '1', ' ', '1', '/', '3']
      ∧ stepMark [⟨0, allChannels⟩, ⟨6, ⟨true, false, true⟩⟩] 2 { testFrame 2 with copy := 2 }
        = word ['R', 'B', '+', '2', 'c', '2']
      ∧ stepMark testPlan 3 { testFrame 1 with marks := ⟨Mark.none, ⟨false, true⟩, Mark.none⟩ }
        = word ['N', '!', 'c', '1'] := by decide

/-- R118's void label. -/
theorem test_void_label :
    voidLabel .uncertain (testFrame 2)
      = ⟨word ['V', 'O', 'I', 'D', ' ', 'U', 'N', 'C', 'E', 'R', 'T', 'A', 'I', 'N'],
         word ['F', 'R', ' ', '2', ' ', 'O', 'R', 'D', ' ', '8', '1', '2']⟩ := by decide

/-- R119's header label. -/
theorem test_header_label :
    headerLabel ⟨word ['C', 'O', 'P', 'Y', 'D', 'E', 'S', 'K'], []⟩ 0 { testMap with next := 34 } .unloaded
      = ⟨word ['C', 'O', 'P', 'Y', 'D', 'E', 'S', 'K', ' ', 'S', '1', ' ', 'R', 'O', 'L', 'L', ' ', '4'],
         word ['S', 'T', 'O', 'C', 'K', ' ', '5', ' ', '3', '3', '/', '3', '6']⟩ := by decide

/-- 5.6's prices: 120, label fee 15, share 128. -/
theorem test_hold_amounts : frameHold testTariff true = 135 ∧ frameHold testTariff false = 75 := by decide

/-! ### Pins -/

/-- Station 1's hold line asserted. -/
def holding (s : State) : State := { s with pins := { s.pins with hold := s.pins.hold.set 0 true } }

/-- The camera of station 1 LOST. -/
def cameraLost (s : State) : State := modDevice 0 (fun d => { d with link := .lost, wakeTimer := true }) s

/-- Station 1 SUSPENDED with its request. -/
def suspended (u : Suspension) (s : State) : State :=
  atStation s (some testMap) fun x =>
    { x with state := .suspended, susp := u, queue := [{ testRequest with state := .suspended }] }

/-- Station 1 HELD at a frame boundary. -/
def heldStation (s : State) : State :=
  atStation s (some testMap) fun x => { x with state := .held, queue := [testRequest] }

theorem test_hold_release_elsewhere : Live (holding ready) ∧ (holding ready).pins.hold[(0 : St)] = true
    ∧ (holding ready).stations[(0 : St)].state ≠ .held ∧ (holding ready).stations[(0 : St)].state ≠ .suspended := by
  unfold Live; decide

def owed : State := holding (suspended ⟨.lampSet, true, true, none, .awaiting⟩ base)

theorem test_hold_release_device_down : Steady (cameraLost owed) ∧ (cameraLost owed).pins.hold[(0 : St)] = true
    ∧ (cameraLost owed).stations[(0 : St)].state = .suspended ∧ bothUp (cameraLost owed) 0 = false := by
  unfold Steady Live Settled EngineBusy; decide

theorem test_hold_release_resumes : Steady owed ∧ owed.pins.hold[(0 : St)] = true
    ∧ owed.stations[(0 : St)].state = .suspended ∧ BoundUp owed 0 ⟨0x11, 0x21⟩ ∧ owed.stations[(0 : St)].pendingPost = none
    ∧ owed.stations[(0 : St)].susp.step = .awaiting ∧ owed.rolls[(0 : St)].map = some testMap ∧ testMap.closing = none := by
  unfold Steady Live Settled EngineBusy BoundUp; decide

theorem test_hold_release_boundary_up : Steady (holding (heldStation base)) ∧ (holding (heldStation base)).pins.hold[(0 : St)] = true
    ∧ (holding (heldStation base)).stations[(0 : St)].state = .held
    ∧ (holding (heldStation base)).stations[(0 : St)].pendingPost = none
    ∧ headOf (holding (heldStation base)) 0 = some testRequest ∧ testRequest.abort = false
    ∧ BoundUp (holding (heldStation base)) 0 ⟨0x11, 0x21⟩
    ∧ gateRecord (holding (heldStation base)) 0 = some (testFrame 1) := by
  unfold Steady Live Settled EngineBusy BoundUp; decide

def heldDown : State := cameraLost (holding (heldStation base))

theorem test_hold_release_boundary_down : Steady heldDown ∧ heldDown.pins.hold[(0 : St)] = true
    ∧ heldDown.stations[(0 : St)].state = .held ∧ heldDown.stations[(0 : St)].pendingPost = none
    ∧ headOf heldDown 0 = some testRequest ∧ testRequest.abort = false ∧ bothUp heldDown 0 = false := by
  unfold Steady Live Settled EngineBusy; decide

theorem test_pin_reset_keeps_hold :
    after (exec (.pinReset true true true) (holding ready)) (fun t => t.pins.addrSel && t.pins.hold[(0 : St)]
      && decide (t.port.rx.stage = .skipping) && t.orders[(0 : Fin 16)].isNone) = true := by decide +kernel

theorem test_nreset_low : after (exec .nresetLow ready) (fun t => t.pins.nresetLow && !attn t) = true := by decide

theorem test_nreset_low_witness :
    ({ ready with pins := { ready.pins with nresetLow := true } } : State).pins.nresetLow = true
      ∧ Instr.isPin .recordSent = false := by decide

/-! ### The console link -/

def askStatus : LinkFrame := ⟨0x70, 0x40, 0x2B, 1, [1]⟩

def withPool (pool : List LinkFrame) (s : State) : State := { s with port := { s.port with pool := pool } }

/-- Four frames wait: no buffer is free. -/
def poolFull : State := withPool [askStatus, askStatus, askStatus, askStatus] base

def aResult : Record := .result 3 .done []

/-- A record in the queue, which the transmitter sends. -/
def transmitting (s : State) : State :=
  { s with eq := { s.eq with records := [aResult] }, port := { s.port with sending := some ⟨aResult.frame 0x70, true⟩ } }

/-- The fault of a reception, if it has one. -/
def faultOf : Except RxFault LinkFrame → Option RxFault
  | .ok _ => none
  | .error e => some e

theorem error_of {x : Except RxFault LinkFrame} {e : RxFault} (h : faultOf x = some e) : x = .error e := by
  cases x with
  | ok f => cases h
  | error e' => cases h; rfl

/-- The longest payload travels as 8.1 lays it out. -/
theorem test_receive_longest : received? ((⟨0x11, 0x40, 0x41, 2, List.replicate 56 0xC5⟩ : LinkFrame).wire ++ [0])
    = some ⟨0x11, 0x40, 0x41, 2, List.replicate 56 0xC5⟩ := by decide +kernel

theorem test_reception_witness : Live base ∧ base.port.rx = ⟨[], .unclaimed⟩ ∧ askStatus.payload.length ≤ 56
    ∧ buffersInUse (withPool [askStatus, askStatus, askStatus] base) < 4 ∧ 4 ≤ buffersInUse poolFull
    ∧ poolFull.port.rx = ⟨[], .unclaimed⟩ ∧ poolFull.port.busy = none ∧ poolFull.port.sending = none
    ∧ poolFull.port.beforeBusy = 0 ∧ (transmitting poolFull).port.sending.isSome = true
    ∧ 4 ≤ buffersInUse (transmitting poolFull) := by unfold Live; decide

def busyPending : State := { poolFull with port := { poolFull.port with busy := some (7, 0x2B) } }

theorem test_reception_busy_witness : Live busyPending ∧ busyPending.port.rx = ⟨[], .unclaimed⟩
    ∧ 4 ≤ buffersInUse busyPending ∧ busyPending.port.busy.isSome = true := by unfold Live; decide

theorem test_fault_witness : receive [0, 1] = .error .orphan ∧ receive [0xC5, 3] = .error .long
    ∧ receive [0xC5, 61] = .error .long ∧ receive [0xC5, 4, 1, 2, 3, 4, 5] = .error .short
    ∧ receive [0xC5, 4, 1, 2, 3, 4, 5, 6] = .error .check :=
  ⟨rfl, rfl, rfl, rfl, error_of (by decide +kernel)⟩

theorem test_pieces_witness : Live base := rfl

def blockedPool : State :=
  { transmitting poolFull with
    eq := { base.eq with records := List.replicate 16 aResult, waiters := [.classifier] }
    port := { (transmitting poolFull).port with busy := some (7, 0x2B) } }

theorem test_record_sent_witness : Live blockedPool ∧ blockedPool.port.sending = some ⟨aResult.frame 0x70, true⟩
    ∧ blockedPool.eq.records ≠ []
    ∧ blockedPool.eq.records.length + blockedPool.eq.reserved + blockedPool.eq.given.length ≤ 16
    ∧ blockedPool.eq.waiters = [.classifier] ∧ blockedPool.port.busy = some (7, 0x2B) ∧ blockedPool.port.beforeBusy ≤ 1 := by
  unfold Live; decide

/-- A frame whose BUSY is sent while a record waits. -/
def sendingBusy : State :=
  { base with eq := { base.eq with records := [aResult] }
              port := { base.port with sending := some ⟨busyFrame base (7, 0x2B), false⟩ } }

theorem test_busy_sent_witness : Live sendingBusy ∧ sendingBusy.port.sending = some ⟨busyFrame base (7, 0x2B), false⟩
    ∧ sendingBusy.eq.waiters = [] ∧ sendingBusy.port.busy = none := by unfold Live; decide

theorem test_record_sent : after (exec .recordSent blockedPool) (fun t =>
    t.eq.given == [.classifier] && t.eq.waiters.isEmpty && t.port.busy.isNone) = true := by decide

/-- What the statements about the Classifier ask of the state. -/
def ClassifierReady (s : State) (f : LinkFrame) : Prop :=
  Live s ∧ s.inHand = none ∧ s.port.pool = [f] ∧ Waiter.classifier ∉ s.eq.given ∧ Waiter.classifier ∉ s.eq.waiters

def classified (dst kind : Byte) : State := withPool [⟨dst, 0x40, kind, 1, []⟩] base

def placesFull (s : State) : State := { s with eq := { s.eq with records := List.replicate 16 aResult } }

theorem test_classifier_full_witness : ClassifierReady (placesFull (classified 0x70 0x2C)) ⟨0x70, 0x40, 0x2C, 1, []⟩
    ∧ freePlaces (placesFull (classified 0x70 0x2C)).eq = 0 := by unfold ClassifierReady Live; decide

theorem test_classifier_manage_witness : ClassifierReady (classified 0x70 0x21) ⟨0x70, 0x40, 0x21, 1, []⟩
    ∧ 0 < freePlaces (classified 0x70 0x21).eq ∧ ownAddress (classified 0x70 0x21).pins = 0x70 := by
  unfold ClassifierReady Live; decide

theorem test_classifier_intercept_witness : ClassifierReady (classified 0x3F 0x20) ⟨0x3F, 0x40, 0x20, 1, []⟩
    ∧ 0 < freePlaces (classified 0x3F 0x20).eq := by unfold ClassifierReady Live; decide

theorem test_classifier_forward_witness : ClassifierReady (classified 0x31 0x5F) ⟨0x31, 0x40, 0x5F, 1, []⟩
    ∧ 0 < freePlaces (classified 0x31 0x5F).eq ∧ isUp (classified 0x31 0x5F) 0x31 = true
    ∧ isProtected (classified 0x31 0x5F) ⟨0x31, 0x40, 0x5F, 1, []⟩ = false := by unfold ClassifierReady Live; decide

theorem test_classifier_refusal_witnesses :
    ClassifierReady (classified 0x40 0x21) ⟨0x40, 0x40, 0x21, 1, []⟩
      ∧ ClassifierReady (classified 0 0x21) ⟨0, 0x40, 0x21, 1, []⟩
      ∧ ClassifierReady (classified 0x70 0x2D) ⟨0x70, 0x40, 0x2D, 1, []⟩
      ∧ ClassifierReady (classified 0x31 0x01) ⟨0x31, 0x40, 0x01, 1, []⟩
      ∧ ClassifierReady (classified 0x31 0x60) ⟨0x31, 0x40, 0x60, 1, []⟩ ∧ 0 < freePlaces (classified 0x31 0x60).eq := by
  unfold ClassifierReady Live; decide

theorem test_classifier_protected_witnesses : ClassifierReady (classified 0x21 0x03) ⟨0x21, 0x40, 0x03, 1, []⟩
    ∧ boundStation (classified 0x21 0x03) 0x21 = some 0 ∧ (classified 0x21 0x03).bindings[(0 : St)].enabled = true
    ∧ ClassifierReady (classified 0x30 0x07) ⟨0x30, 0x40, 0x07, 1, []⟩ ∧ deviceIdx (classified 0x30 0x07) 0x30 = some 2
    ∧ (classified 0x30 0x07).devices[(2 : Fin 16)] = some (testDevice 0x30 .printer) := by
  unfold ClassifierReady Live; decide

theorem test_classifier_down_witness : ClassifierReady (classified 0x32 0x02) ⟨0x32, 0x40, 0x02, 1, []⟩
    ∧ isUp (classified 0x32 0x02) 0x32 = false ∧ 0 < freePlaces (classified 0x32 0x02).eq := by
  unfold ClassifierReady Live; decide

theorem test_classifier_source_witness :
    ClassifierReady (withPool [⟨0x70, 0x41, 0x21, 1, []⟩] base) ⟨0x70, 0x41, 0x21, 1, []⟩
      ∧ 0 < freePlaces (withPool [⟨0x70, 0x41, 0x21, 1, []⟩] base).eq := by unfold ClassifierReady Live; decide

/-! ### The forward slot -/

def forwarded : LinkFrame := ⟨0x31, 0x40, 0x02, 0x1F, []⟩

def inHandOn (p : Path) (f : LinkFrame) (s : State) : State :=
  { s with inHand := some ⟨f, p⟩, eq := { s.eq with reserved := s.eq.reserved + 1 } }

def otherLost (s : State) : State := modDevice 3 (fun d => { d with link := .lost }) s

def slotInUse (s : State) : State := { s with slot := .running forwarded, eq := { s.eq with reserved := s.eq.reserved + 1 } }

theorem test_forward_slot_witness : Steady (inHandOn .forward forwarded base) ∧ InHandIs (inHandOn .forward forwarded base) forwarded .forward
    ∧ (inHandOn .forward forwarded base).slot = .empty ∧ isUp (inHandOn .forward forwarded base) forwarded.dst = true := by
  unfold Steady Live Settled EngineBusy InHandIs; decide

theorem test_held_slot_witness : Steady (inHandOn .held forwarded (otherLost base))
    ∧ InHandIs (inHandOn .held forwarded (otherLost base)) forwarded .held
    ∧ (inHandOn .held forwarded (otherLost base)).slot = .empty
    ∧ isUp (inHandOn .held forwarded (otherLost base)) forwarded.dst = false := by
  unfold Steady Live Settled EngineBusy InHandIs; decide

theorem test_slot_in_use_witness : Steady (inHandOn .forward forwarded (slotInUse base))
    ∧ InHandIs (inHandOn .forward forwarded (slotInUse base)) forwarded .forward
    ∧ (inHandOn .forward forwarded (slotInUse base)).slot ≠ .empty := by
  unfold Steady Live Settled EngineBusy InHandIs; decide

/-- No ask stands in a state whose slot is not ASKING. -/
theorem noAsk_of (s : State) (h : (match s.slot with | .asking _ => true | _ => false) = false)
    (h1 : ∀ st : St, s.ring.asks[st] = none) (h2 : s.ring.composerAsk = none)
    (h3 : ∀ i : Fin 16, s.devices[i].all (fun d => !d.dueWake && !d.duePoll) = true) : NoAsk s := by
  refine ⟨?_, h1, h2, ?_⟩
  · intro f hf; rw [hf] at h; simp at h
  · intro i d hd; have := h3 i; rw [hd] at this; simpa using this

theorem test_forward_grant_witness : Live (inHandOn .forward forwarded calm) ∧ Settled (inHandOn .forward forwarded calm)
    ∧ NoAsk (inHandOn .forward forwarded calm) ∧ (inHandOn .forward forwarded calm).ring.engine = none
    ∧ (inHandOn .forward forwarded calm).slot = .empty ∧ InHandIs (inHandOn .forward forwarded calm) forwarded .forward
    ∧ DeviceAt (inHandOn .forward forwarded calm) 3 (testDevice 0x31 .other)
    ∧ isProtected (inHandOn .forward forwarded calm) forwarded = false := by
  refine ⟨rfl, ?_, noAsk_of _ rfl (by decide) rfl (by decide), rfl, rfl, rfl, ⟨rfl, rfl⟩, rfl⟩
  unfold Settled; decide

/-! ### Orders and exposures -/

def exposePayload : List Byte := [0x03, 0x2C, 0x27, 0x0F, 0xFF, 0x6F, 0x00, 0x90, 0x7F, 0xFF]

def exposed (s : State) : State := inHandOn .intercept ⟨0x11, 0x40, 0x20, 0x55, exposePayload⟩ s

/-- Station 1 RUNNING with three requests behind it in the queue of four but one. -/
def threeQueued : State :=
  modStation 0 (fun x => { x with queue := [testRequest, testRequest, testRequest] }) (running .shotWait base)

theorem test_expose_witness : Steady (exposed threeQueued)
    ∧ InHandIs (exposed threeQueued) ⟨0x11, 0x40, 0x20, 0x55, exposePayload⟩ .intercept
    ∧ (0x03 : Byte).toNat * 256 + (0x2C : Byte).toNat = testOrder.terms.number
    ∧ (0x27 : Byte).toNat * 256 + (0x0F : Byte).toNat = 9999 ∧ cameraStation (exposed threeQueued) 0x11 = some 0
    ∧ (exposed threeQueued).bindings[(0 : St)].enabled = true ∧ OrderAt (exposed threeQueued) 0 testOrder
    ∧ testOrder.closing = false ∧ testOrder.terms.station = 0
    ∧ (exposed threeQueued).stations[(0 : St)].state ≠ .disabled ∧ (exposed threeQueued).stations[(0 : St)].queue.length < 4
    ∧ (exposed threeQueued).stations[(0 : St)].queue ≠ [] := by
  unfold Steady Live Settled EngineBusy InHandIs OrderAt; decide

/-- An intercepted frame in hand with another payload. -/
def exposedWith (payload : List Byte) (s : State) : State := inHandOn .intercept ⟨0x11, 0x40, 0x20, 0x55, payload⟩ s

def fourQueued : State := modStation 0 (fun x => { x with queue := testRequest :: x.queue }) threeQueued

def orderChanged (f : Order → Order) (s : State) : State := modOrder 0 f s

/-- Each clause of the refusals of an EXPOSE at a boundary: no payload, original 0, original 10000, a camera that no enabled
station names, an order that no entry holds, a closing order, an order of another station, and a full queue. -/
theorem test_expose_refusal_witnesses :
    (Live (exposedWith [] ready) ∧ InHandIs (exposedWith [] ready) ⟨0x11, 0x40, 0x20, 0x55, []⟩ .intercept)
      ∧ cameraStation (exposed (setEnabled 0 false ready)) 0x11 = some 0
      ∧ (exposed (setEnabled 0 false ready)).bindings[(0 : St)].enabled = false
      ∧ (exposed ready).bindings[(0 : St)].enabled = true ∧ cameraStation (exposed ready) 0x11 = some 0
      ∧ orderIdx (exposed (freeOrder 0 ready)) 812 = none
      ∧ OrderAt (exposed (orderChanged (fun o => { o with closing := true }) ready)) 0 { testOrder with closing := true }
      ∧ OrderAt (exposed (orderChanged (fun o => { o with terms := { testTerms with station := 1 } }) ready)) 0
        { testOrder with terms := { testTerms with station := 1 } }
      ∧ 4 ≤ (exposed fourQueued).stations[(0 : St)].queue.length ∧ OrderAt (exposed fourQueued) 0 testOrder := by
  unfold Live InHandIs OrderAt; decide

def newTerms : OrderTerms := { testTerms with number := 65535, title := word ['O', 'a', 'k'], trim := ⟨-24, 0, 24⟩ }

def opening (s : State) : State := handed 0x23 (openPayload newTerms) s

theorem test_open_witness : Hands (opening base) (frameInHand 0x23 (openPayload newTerms)) 0x23 (openPayload newTerms)
    ∧ TermsLegal newTerms ∧ (opening base).orders[(1 : Fin 16)] = none
    ∧ (∀ k : Fin 16, k < 1 → (opening base).orders[k] ≠ none) ∧ (opening base).plans[newTerms.plan] = some testPlan
    ∧ AccountAt (opening base) 0 testAccount ∧ testAccount.number = newTerms.account
    ∧ (opening base).windows[(0 : Fin 8)] = some ⟨0, 0, 0, true⟩ ∧ BitVec.ofNat 24 newTerms.account &&& (0 : BitVec 24) = 0
    ∧ (opening base).tariffs[(0 : Fin 8)] = some testTariff
    ∧ testAccount.spent + testAccount.held + testTariff.setupFee ≤ 20000 := by
  unfold Hands Live InHandIs TermsLegal TextLegal AccountAt; decide

theorem test_open_number_witness : ∀ k o, (opening base).orders[(k : Fin 16)] = some o → o.terms.number ≠ newTerms.number :=
  fun k => forSome (by revert k; decide)

/-- A ceiling that the setup fee just reaches, and one that it passes by 1. -/
theorem test_open_ceiling_witness :
    AccountAt (opening (modAccount 0 (fun a => { a with ceiling := some 1300 }) base)) 0 { testAccount with ceiling := some 1300 }
      ∧ AccountAt (opening (modAccount 0 (fun a => { a with ceiling := some 1299 }) base)) 0 { testAccount with ceiling := some 1299 }
      ∧ 100 + 1000 + testTariff.setupFee = 1300 := by unfold AccountAt; decide

def orderTableFull (s : State) : State :=
  { s with orders := Vector.ofFn fun i => some { testOrder with terms := { testTerms with number := 100 + i.val } } }

theorem test_open_refusal_witnesses :
    Hands (opening (orderTableFull base)) (frameInHand 0x23 (openPayload newTerms)) 0x23 (openPayload newTerms)
      ∧ (∀ k : Fin 16, (opening (orderTableFull base)).orders[k] ≠ none)
      ∧ ({ opening base with plans := State.reset.plans } : State).plans[newTerms.plan] = none
      ∧ tariffClass ({ opening base with windows := State.reset.windows } : State) newTerms.account = none
      ∧ tariffClass (opening base) newTerms.account = some (0, testTariff) := by
  unfold Hands Live InHandIs; decide

theorem test_open_no_account_witness : ∀ k a, ({ opening base with accounts := State.reset.accounts } : State).accounts[(k : Fin 32)]
    = some a → a.number ≠ newTerms.account := fun k => forSome (by revert k; decide)

def closing (s : State) : State := handed 0x24 (be16 812) s

def idleOrder : Order := { testOrder with outstanding := 0, exposed := 1 }

def noneOutstanding (s : State) : State := orderChanged (fun _ => idleOrder) s

theorem test_close_witness : Hands (closing base) (frameInHand 0x24 (be16 812)) 0x24 (be16 testOrder.terms.number)
    ∧ OrderAt (closing base) 0 testOrder ∧ testOrder.closing = false ∧ testOrder.summaryPending = false
    ∧ 1 ≤ (closing base).eq.reserved ∧ 0 < testOrder.outstanding := by
  unfold Hands Live InHandIs OrderAt; decide

theorem test_close_free_witness : Hands (closing (noneOutstanding base)) (frameInHand 0x24 (be16 812)) 0x24 (be16 812)
    ∧ OrderAt (closing (noneOutstanding base)) 0 idleOrder ∧ idleOrder.outstanding = 0
    ∧ AccountAt (closing (noneOutstanding base)) 0 testAccount ∧ Room (closing (noneOutstanding base)) 1 := by
  unfold Hands Live InHandIs OrderAt AccountAt Room; decide

/-- With fifteen records and the answer's place, the queue has no room for the summary. -/
def noRoom (s : State) : State := { s with eq := { s.eq with records := List.replicate 15 aResult } }

theorem test_close_no_room_witness : Hands (noRoom (closing (noneOutstanding base))) (frameInHand 0x24 (be16 812)) 0x24 (be16 812)
    ∧ OrderAt (noRoom (closing (noneOutstanding base))) 0 idleOrder ∧ freePlaces (noRoom (closing (noneOutstanding base))).eq = 0
    ∧ (noRoom (closing (noneOutstanding base))).eq.records.length + (noRoom (closing (noneOutstanding base))).eq.reserved
      + (noRoom (closing (noneOutstanding base))).eq.given.length = 16 := by
  unfold Hands Live InHandIs OrderAt; decide

theorem test_close_refusal_witnesses :
    InHandIs (handed 0x24 [] base) (frameInHand 0x24 []) .manage ∧ InHandIs (handed 0x25 [0, 0] base) (frameInHand 0x25 [0, 0]) .manage
      ∧ orderIdx (handed 0x25 (be16 65535) base) 65535 = none
      ∧ OrderAt (handed 0x25 (be16 812) (orderChanged (fun o => { o with closing := true, cancelling := true }) base)) 0
        { testOrder with closing := true, cancelling := true } := by unfold InHandIs OrderAt; decide

def queuedRequest : Request := { testRequest with state := .queued, frames := none }

def offline (q : List Request) (s : State) : State := atStation s (some freshMap) fun x => { x with state := .offline, queue := q }

def cancelling : State := handed 0x25 (be16 812) (offline [queuedRequest] base)

theorem test_cancel_witness : Steady cancelling ∧ Hands cancelling (frameInHand 0x25 (be16 812)) 0x25 (be16 testOrder.terms.number)
    ∧ OrderAt cancelling 0 testOrder ∧ testOrder.cancelling = false ∧ testOrder.summaryPending = false
    ∧ cancelling.stations[testOrder.terms.station].state = .offline
    ∧ (∀ q ∈ cancelling.stations[testOrder.terms.station].queue, q.order = testOrder.terms.number → q.state = .queued)
    ∧ (cancelling.stations[testOrder.terms.station].queue.filter fun q => q.order == testOrder.terms.number).length
      = testOrder.outstanding
    ∧ AccountAt cancelling 0 testAccount ∧ 1 ≤ cancelling.eq.reserved ∧ Room cancelling 1 := by
  unfold Steady Hands Live Settled EngineBusy InHandIs OrderAt AccountAt Room; decide

/-! ### Tables -/

def lowStock : Stock :=
  { code := 255, length := 12, tRef := 1, balance := ⟨-24, 0, 24⟩, tMin := 1, tMax := 65535, knee := 1, slope := 1023 }

def longPlan : List PlanStep := ⟨0, allChannels⟩ :: List.replicate 6 ⟨-9, ⟨false, false, true⟩⟩

def fullItems : List Item := List.replicate 7 ⟨1, .stand⟩ ++ [⟨2, .literal (word ['#', '1', '2', '3', '4', '5', '6', '7'])⟩]

def fullStand : StandText := ⟨word ['C', 'O', 'P', 'Y', 'D', 'E', 'S', 'K'], word ['0', '7', ' ', 'O', 'C', 'T']⟩

theorem test_legal_witnesses : StockLegal testStock ∧ StockLegal lowStock ∧ PlanLegal testPlan ∧ PlanLegal longPlan
    ∧ WindowLegal ⟨0, 0, 7, false⟩ ∧ TariffLegal ⟨65535, 0, 256, 65535⟩ ∧ AccountLegal 16777215 none ∧ AccountLegal 1 (some 4294967294)
    ∧ TextLegal 8 fullStand.name ∧ TextLegal 10 fullStand.date ∧ TermsLegal newTerms ∧ BindingLegal ⟨0x01, 0x3F⟩ := by
  unfold StockLegal PlanLegal StepLegal WindowLegal TariffLegal AccountLegal TextLegal TermsLegal BindingLegal TextLegal
  exact ⟨by decide, by decide, by decide, by decide, by decide, by decide, ⟨by decide, by decide, fun c h => by cases h⟩,
    ⟨by decide, by decide, fun c h => by cases h; decide⟩, by decide, by decide, by decide, by decide⟩

theorem test_item_witness : fullItems.length ≤ 8 ∧ ∀ x ∈ fullItems, ItemLegal x := by
  refine ⟨by decide, fun x hx => ?_⟩
  simp only [fullItems, List.mem_append, List.mem_replicate, List.mem_singleton] at hx
  rcases hx with ⟨_, rfl⟩ | rfl
  · exact ⟨by decide, trivial⟩
  · exact ⟨by decide, by unfold TextLegal; decide⟩

/-- A TABLE_WRITE in hand. -/
def writing (id index : Byte) (record : List Byte) (s : State) : State := handed 0x21 (id :: index :: record) s

theorem test_stock_write_witness :
    Hands (writing 4 7 (stockRecord (some lowStock)) ready) (frameInHand 0x21 (0x04 :: 7 :: stockRecord (some lowStock))) 0x21
        (0x04 :: u8 (7 : Fin 8).val :: stockRecord (some lowStock))
      ∧ (∀ j k', j ≠ (7 : Fin 8) → (writing 4 7 [] ready).stocks[(j : Fin 8)] = some k' → k'.code ≠ lowStock.code)
      ∧ (∀ k' st m, (writing 4 7 [] ready).stocks[(7 : Fin 8)] = some k' → (writing 4 7 [] ready).rolls[(st : St)].map = some m →
        m.stock ≠ k'.code) := by
  have h : ∀ j k', (writing 4 7 [] ready).stocks[(j : Fin 8)] = some k' → k'.code ≠ lowStock.code :=
    fun j => forSome (by revert j; decide)
  refine ⟨by unfold Hands Live InHandIs; decide, fun j k' _ => h j k', ?_⟩
  intro k' st m h; exact absurd h (by decide +revert)

theorem test_stock_in_use_witness : (writing 4 0 [] ready).stocks[(0 : Fin 8)] = some testStock
    ∧ (writing 4 0 [] ready).rolls[(0 : St)].map = some freshMap ∧ freshMap.stock = testStock.code := by decide

theorem test_plan_write_witness :
    Hands (writing 5 7 (planRecord (some longPlan)) ready) (frameInHand 0x21 (0x05 :: 7 :: planRecord (some longPlan))) 0x21
        (0x05 :: u8 (7 : Fin 8).val :: planRecord (some longPlan))
      ∧ (∀ j o, (writing 5 7 [] ready).orders[(j : Fin 16)] = some o → o.terms.plan ≠ 7)
      ∧ (writing 5 0 [] ready).orders[(0 : Fin 16)] = some testOrder ∧ testOrder.terms.plan = 0 := by
  refine ⟨by unfold Hands Live InHandIs; decide, fun j => forSome (by revert j; decide), by decide, by decide⟩

theorem test_text_write_witnesses :
    Hands (writing 9 3 (templateRecord fullItems) ready) (frameInHand 0x21 (0x09 :: 3 :: templateRecord fullItems)) 0x21
        (0x09 :: u8 (3 : Fin 4).val :: templateRecord fullItems)
      ∧ Hands (writing 10 0 (standTextRecord fullStand) ready) (frameInHand 0x21 (0x0A :: 0 :: standTextRecord fullStand)) 0x21
        (0x0A :: 0x00 :: standTextRecord fullStand) := by unfold Hands Live InHandIs; decide

/-- Windows: the index 8, a record of one byte, an empty record, class 8, a base bit outside the mask, and a good record. -/
theorem test_window_witnesses :
    Hands (writing 6 8 [] base) (frameInHand 0x21 [6, 8]) 0x21 [0x06, 8]
      ∧ Hands (writing 6 7 [1] base) (frameInHand 0x21 [6, 7, 1]) 0x21 [0x06, 7, 1]
      ∧ Hands (writing 6 7 [0, 0, 1, 0, 0, 0, 7, 1] base) (frameInHand 0x21 [6, 7, 0, 0, 1, 0, 0, 0, 7, 1]) 0x21
        [0x06, 7, 0, 0, 1, 0, 0, 0, 7, 1]
      ∧ ((0 : Byte) ++ (0 : Byte) ++ (1 : Byte) : BitVec 24) &&& ~~~((0 : Byte) ++ (0 : Byte) ++ (0 : Byte) : BitVec 24) ≠ 0
      ∧ ((0x12 : Byte) ++ (0 : Byte) ++ (0 : Byte) : BitVec 24) &&& ~~~((0xFF : Byte) ++ (0 : Byte) ++ (0 : Byte) : BitVec 24) = 0 := by
  unfold Hands Live InHandIs; decide

theorem test_window_stored : after (exec .windowTableWrite (writing 6 7 [0x12, 0, 0, 0xFF, 0, 0, 7, 2] base))
    (fun t => t.windows[(7 : Fin 8)] == some ⟨0x120000, 0xFF0000, 7, true⟩) = true := by decide

theorem test_tariff_witnesses :
    Hands (writing 7 0 [] base) (frameInHand 0x21 [7, 0]) 0x21 [0x07, 0] ∧ base.orders[(0 : Fin 16)] = some testOrder
      ∧ testOrder.cls = 0
      ∧ Hands (writing 7 7 (be16 65535 ++ be16 0 ++ be16 257 ++ be16 1) base)
        (frameInHand 0x21 (7 :: 7 :: (be16 65535 ++ be16 0 ++ be16 257 ++ be16 1))) 0x21
        (0x07 :: 7 :: (be16 65535 ++ be16 0 ++ be16 257 ++ be16 1)) := by unfold Hands Live InHandIs; decide

theorem test_tariff_free_witness : ∀ j o, (writing 7 7 [] base).orders[(j : Fin 16)] = some o → o.cls ≠ 7 :=
  fun j => forSome (by revert j; decide)

def accountPayload (n : Nat) (c : Option Nat) : List Byte := be24 n ++ be32 (c.getD 4294967295)

def accountWriting (i : Byte) (n : Nat) (c : Option Nat) (s : State) : State := writing 8 i (accountPayload n c) s

theorem test_account_witnesses :
    Hands (accountWriting 31 16777215 none base) (frameInHand 0x21 (0x08 :: 31 :: accountPayload 16777215 none)) 0x21
        (0x08 :: u8 (31 : Fin 32).val :: (be24 16777215 ++ be32 ((none : Option Nat).getD 4294967295)))
      ∧ (accountWriting 31 16777215 none base).accounts[(31 : Fin 32)] = none
      ∧ (accountWriting 0 304110 (some 1100) base).accounts[(0 : Fin 32)] = some testAccount
      ∧ testAccount.spent + testAccount.held = 1100 ∧ testAccount.held ≠ 0 := by unfold Hands Live InHandIs; decide

theorem test_account_number_witness :
    ∀ j a, j ≠ (31 : Fin 32) → (accountWriting 31 16777215 none base).accounts[(j : Fin 32)] = some a → a.number ≠ 16777215 := by
  have h : ∀ j a, (accountWriting 31 16777215 none base).accounts[(j : Fin 32)] = some a → a.number ≠ 16777215 :=
    fun j => forSome (by revert j; decide)
  exact fun j a _ => h j a

/-- A ceiling of exactly spent + held is taken, and one below it is refused. -/
theorem test_account_ceiling :
    after (exec .accountTableWrite (accountWriting 0 304110 (some 1100) base)) (fun t =>
        t.accounts[(0 : Fin 32)] == some { testAccount with ceiling := some 1100 }) = true
      ∧ after (exec .accountTableWrite (accountWriting 0 304110 (some 1099) base)) (fun t =>
        t.eq.records == [.result 9 .belowUse []] && t.accounts == base.accounts) = true := by decide

theorem test_binding_witnesses :
    Hands (writing 3 4 [0x01, 0x3F] base) (frameInHand 0x21 [3, 4, 0x01, 0x3F]) 0x21 [0x03, u8 ((3 : St).val + 1), 0x01, 0x3F]
      ∧ (writing 3 4 [0x01, 0x3F] base).bindings[(3 : St)].enabled = false
      ∧ Hands (writing 3 1 [0x01, 0x3F] base) (frameInHand 0x21 [3, 1, 0x01, 0x3F]) 0x21 [0x03, u8 ((0 : St).val + 1), 0x01, 0x3F]
      ∧ (writing 3 1 [0x01, 0x3F] base).bindings[(0 : St)].enabled = true := by unfold Hands Live InHandIs; decide

theorem test_binding_free_witness : ∀ st' b', st' ≠ (3 : St) → (writing 3 4 [] base).bindings[(st' : St)].binding = some b' →
    b'.camera ≠ 0x01 ∧ b'.lamp ≠ 0x01 ∧ b'.camera ≠ 0x3F ∧ b'.lamp ≠ 0x3F := by
  have h : ∀ st' b', (writing 3 4 [] base).bindings[(st' : St)].binding = some b' →
      b'.camera ≠ 0x01 ∧ b'.lamp ≠ 0x01 ∧ b'.camera ≠ 0x3F ∧ b'.lamp ≠ 0x3F := fun st' => forSome (by revert st'; decide)
  exact fun st' b' _ => h st' b'

theorem test_device_witnesses : Steady (writing 2 15 [0x3F, 4] base) ∧ isRingAddress 0x3F = true
    ∧ Hands (writing 2 15 [0x3F, 4] base) (frameInHand 0x21 [2, 15, 0x3F, 4]) 0x21 [0x02, u8 (15 : Fin 16).val, 0x3F, DevClass.other.code]
    ∧ (writing 2 15 [0x3F, 4] base).devices[(15 : Fin 16)] = none
    ∧ (writing 2 0 [0x11, 1] base).devices[(0 : Fin 16)] = some (testDevice 0x11 .camera)
    ∧ boundStation (writing 2 0 [0x11, 2] base) 0x11 = some 0 := by
  unfold Steady Hands Live Settled EngineBusy InHandIs; decide

theorem test_device_free_witness : ∀ j d, j ≠ (15 : Fin 16) → (writing 2 15 [] base).devices[(j : Fin 16)] = some d →
    d.addr ≠ 0x3F ∧ (DevClass.other = .printer → d.cls ≠ .printer) := by
  have h : ∀ j d, (writing 2 15 [] base).devices[(j : Fin 16)] = some d →
      d.addr ≠ 0x3F ∧ (DevClass.other = .printer → d.cls ≠ .printer) := fun j => forSome (by revert j; decide)
  exact fun j d _ => h j d

theorem test_write_refusal_witnesses : Hands (writing 1 0 [] base) (frameInHand 0x21 [1, 0]) 0x21 [0x01, 0]
    ∧ Hands (writing 3 0 [] base) (frameInHand 0x21 [3, 0]) 0x21 [0x03, 0]
    ∧ Hands (writing 3 5 [] base) (frameInHand 0x21 [3, 5]) 0x21 [0x03, 5]
    ∧ Hands (writing 8 32 [] base) (frameInHand 0x21 [8, 32]) 0x21 [0x08, 32] := by unfold Hands Live InHandIs; decide

def reading (payload : List Byte) (s : State) : State := handed 0x22 payload s

/-- Reads: the full record of an order has two parts, a missing part is the first at the part count. -/
theorem test_read_witnesses : Live (reading [1, 0, 1] base) ∧ InHandIs (reading [1, 0, 1] base) (frameInHand 0x22 [1, 0, 1]) .manage
    ∧ (1 : Byte).toNat < max 1 (((orderRecord base.orders[(0 : Fin 16)]).length + 47) / 48)
    ∧ index? 16 16 = none ∧ station? 0 = none ∧ station? 5 = none ∧ index? 32 31 = some 31 ∧ index? 4 4 = none := by
  unfold Live InHandIs; decide

theorem test_order_read : after (exec .orderTableRead (reading [1, 0, 1] base)) (fun t =>
    match t.eq.records with | [.result 9 .done (1 :: 0 :: 1 :: 2 :: _)] => true | _ => false) = true := by decide

/-! ### Station control -/

def disabledBase (map : Option RollMap) : State :=
  atStation (setEnabled 0 false base) map fun x => { x with state := .disabled }

def controlling (n c : Byte) (s : State) : State := handed 0x26 [n, c] s

theorem test_enable_witness : Steady (controlling 1 1 (disabledBase (some freshMap)))
    ∧ Hands (controlling 1 1 (disabledBase (some freshMap))) (frameInHand 0x26 [1, 1]) 0x26 [u8 ((0 : St).val + 1), 0x01]
    ∧ (controlling 1 1 (disabledBase (some freshMap))).stations[(0 : St)].state = .disabled
    ∧ (controlling 1 1 (disabledBase (some freshMap))).stations[(0 : St)].queue = []
    ∧ (controlling 1 1 (disabledBase (some freshMap))).bindings[(0 : St)].binding = some ⟨0x11, 0x21⟩
    ∧ DeviceAt (controlling 1 1 (disabledBase (some freshMap))) 0 (testDevice 0x11 .camera)
    ∧ DeviceAt (controlling 1 1 (disabledBase (some freshMap))) 1 (testDevice 0x21 .lamp)
    ∧ freshMap.opening = false ∧ (disabledBase none).rolls[(0 : St)].map = none := by
  unfold Steady Hands Live Settled EngineBusy InHandIs DeviceAt; decide

theorem test_enable_down_witness : DeviceAt (controlling 1 1 (cameraLost (disabledBase none))) 0
    { testDevice 0x11 .camera with link := .lost, wakeTimer := true } := by unfold DeviceAt; decide

theorem test_disable_witness : Hands (controlling 1 2 ready) (frameInHand 0x26 [1, 2]) 0x26 [u8 ((0 : St).val + 1), 0x02]
    ∧ (controlling 1 2 ready).stations[(0 : St)].state = .ready ∧ (controlling 1 2 ready).stations[(0 : St)].queue = []
    ∧ (controlling 1 2 ready).stations[(0 : St)].pendingPost = none ∧ (controlling 1 2 ready).rolls[(0 : St)].map = some freshMap
    ∧ freshMap.opening = false ∧ freshMap.closing = none
    ∧ (controlling 1 2 (running .shoot base)).stations[(0 : St)].state = .running := by
  unfold Hands Live InHandIs; decide

/-- The request runs its frame in a phase, and nothing else is to be done. -/
theorem runsFrame_running (ph : Phase) : RunsFrame (running ph base) 0 testRequest testMap ph :=
  ⟨rfl, rfl, rfl, rfl, rfl, rfl, rfl, ⟨_, rfl, rfl⟩, rfl, rfl⟩

theorem test_abort_witness : Steady (controlling 1 3 (running .advanceWait base))
    ∧ Hands (controlling 1 3 (running .advanceWait base)) (frameInHand 0x26 [1, 3]) 0x26 [u8 ((0 : St).val + 1), 0x03]
    ∧ headOf (controlling 1 3 ready) 0 = none := by
  unfold Steady Hands Live Settled EngineBusy InHandIs; decide

theorem test_abort_runs_witness : RunsFrame (controlling 1 3 (running .advanceWait base)) 0 testRequest testMap .advanceWait :=
  ⟨rfl, rfl, rfl, rfl, rfl, rfl, rfl, ⟨_, rfl, rfl⟩, rfl, rfl⟩

theorem test_abort_held_witness : Steady (controlling 1 3 (heldStation base))
    ∧ Hands (controlling 1 3 (heldStation base)) (frameInHand 0x26 [1, 3]) 0x26 [u8 ((0 : St).val + 1), 0x03]
    ∧ (controlling 1 3 (heldStation base)).stations[(0 : St)].state = .held
    ∧ (controlling 1 3 (heldStation base)).stations[(0 : St)].rollEnd = false
    ∧ (controlling 1 3 (heldStation base)).stations[(0 : St)].queue = [testRequest]
    ∧ testRequest.frames = some ⟨4, 1, 2⟩ ∧ testMap.roll = 4
    ∧ (controlling 1 3 (heldStation base)).rolls[(0 : St)].map = some testMap ∧ testMap.closing = none
    ∧ (∀ x ∈ testMap.frames, testMap.gate ≤ x.number → x.state = .reserved)
    ∧ BoundUp (controlling 1 3 (heldStation base)) 0 ⟨0x11, 0x21⟩
    ∧ (controlling 1 3 (heldStation base)).stations[(0 : St)].leftUp = false
    ∧ OrderAt (controlling 1 3 (heldStation base)) 0 testOrder ∧ testOrder.closing = false
    ∧ (controlling 1 3 (heldStation base)).composer.headerList = []
    ∧ (controlling 1 3 (heldStation base)).composer.labelWaiters = []
    ∧ 1 ≤ (controlling 1 3 (heldStation base)).eq.reserved ∧ Room (controlling 1 3 (heldStation base)) 1 := by
  unfold Steady Hands Live Settled EngineBusy InHandIs BoundUp OrderAt Room; decide

theorem test_abort_frames_witness : ∃ x ∈ testMap.frames, testMap.gate ≤ x.number := ⟨testFrame 1, by decide, by decide⟩

def idleSuspended (s : State) : State :=
  atStation s (some freshMap) fun x => { x with state := .suspended, susp := ⟨.unload, false, true, none, .awaiting⟩ }

theorem test_unload_witness : Steady (controlling 1 4 ready)
    ∧ Hands (controlling 1 4 ready) (frameInHand 0x26 [1, 4]) 0x26 [u8 ((0 : St).val + 1), 0x04]
    ∧ (controlling 1 4 ready).stations[(0 : St)].rollCheck = false ∧ BoundUp (controlling 1 4 ready) 0 ⟨0x11, 0x21⟩
    ∧ (controlling 1 4 (cameraLost (idleSuspended base))).stations[(0 : St)].susp.requestHeld = false
    ∧ isUp (controlling 1 4 (cameraLost (idleSuspended base))) (cameraOf (controlling 1 4 (cameraLost (idleSuspended base))) 0) = false
    ∧ (controlling 1 4 base).rolls[(0 : St)].map = none := by
  unfold Steady Hands Live Settled EngineBusy InHandIs BoundUp; decide

/-! ### The other management requests -/

theorem test_account_read_witness :
    (Live (handed 0x27 (be32 304110) base) ∧ InHandIs (handed 0x27 (be32 304110) base) (frameInHand 0x27 (be32 304110)) .manage)
      ∧ AccountAt (handed 0x27 (be32 304110) base) 0 testAccount
      ∧ (Live (handed 0x28 (be32 304110) base) ∧ InHandIs (handed 0x28 (be32 304110) base) (frameInHand 0x28 (be32 304110)) .manage)
      ∧ AccountAt (handed 0x28 (be32 304110) base) 0 testAccount
      ∧ be32 16777216 = [1, 0, 0, 0] := by unfold Live InHandIs AccountAt; decide

theorem test_account_unknown_witness : ∀ j a, (handed 0x27 (be32 16777215) base).accounts[(j : Fin 32)] = some a → a.number ≠ 16777215 :=
  fun j => forSome (by revert j; decide)

theorem test_account_clear : after (exec .accountClear (handed 0x28 (be32 304110) base)) (fun t =>
    t.accounts[(0 : Fin 32)] == some { testAccount with spent := 0 }
      && t.eq.records == [.result 9 .done (be32 100)]) = true := by decide

def aFault : FaultRecord := ⟨.noReply, 0x31, 0x02, none, none, none, none⟩

def capturing (lost : Bool) (notice : Notice) (s : State) : State := { s with capture := ⟨some aFault, lost, notice⟩ }

def noticeWaits : State :=
  { capturing true .waiting (handed 0x29 [] base) with eq := ⟨List.replicate 15 aResult, 1, [], [.faultNotice]⟩ }

theorem test_fault_read_witness : Live (handed 0x29 [] base) ∧ InHandIs (handed 0x29 [] base) (frameInHand 0x29 []) .manage
    ∧ (handed 0x29 [] base).capture = ⟨none, false, .none⟩
    ∧ (capturing false .posted (handed 0x29 [] base)).capture = ⟨some aFault, false, .posted⟩
    ∧ noticeWaits.capture = ⟨some aFault, true, .waiting⟩ ∧ Waiter.faultNotice ∉ noticeWaits.eq.given
    ∧ noticeWaits.eq.records.length + noticeWaits.eq.reserved + noticeWaits.eq.given.length = 16 ∧ 1 ≤ noticeWaits.eq.reserved := by
  unfold Live InHandIs; decide

def aStrip : Strip := ⟨0, 4, .unloaded, [0, 1], 0, 0⟩

def withStrips (l : List Strip) (s : State) : State := modComposer (fun c => { c with strips := l }) s

theorem test_barrier_witness : Live (handed 0x2A [] base) ∧ InHandIs (handed 0x2A [] base) (frameInHand 0x2A []) .manage
    ∧ (handed 0x2A [] base).composer.barrierCount = none ∧ (handed 0x2A [] base).composer.strips = []
    ∧ (handed 0x2A [] (withStrips [aStrip, aStrip] base)).composer.strips ≠ []
    ∧ (modComposer (fun c => { c with barrierCount := some 1 }) (handed 0x2A [] base)).composer.barrierCount.isSome = true := by
  unfold Live InHandIs; decide

theorem test_status_read_witness : Live (handed 0x2B [1] base) ∧ InHandIs (handed 0x2B [1] base) (frameInHand 0x2B [1]) .manage
    ∧ (4 : Byte).toNat > 3 := by unfold Live InHandIs; decide

def restarting : State :=
  { handed 0x2C [] (withStrips [aStrip] (running .shotWait base)) with
    deferred := some 0x44, eq := ⟨[aResult], 2, [], [.rollOpen 1]⟩ }

theorem test_restart_witness : Live restarting ∧ EngineBusy restarting ∧ InHandIs restarting (frameInHand 0x2C []) .manage := by
  unfold Live EngineBusy InHandIs; decide

theorem test_restart : after (exec .restart restarting) (fun t =>
    t.eq.records == [.result 0x44 .cancelled [], .result 9 .done []] && t.stations[(0 : St)].state == .offline
      && t.accounts[(0 : Fin 32)] == some ⟨304110, some 20000, 100, 0, 0⟩) = true := by decide +kernel

/-! ### The ring -/

/-- The ring engine of a state runs a transaction. -/
def engaged (t : Transaction) (s : State) : State := { s with ring := { s.ring with engine := some t } }

def wakeOf31 : Transaction := ⟨.idlePoller, 3, .other, .wake, ⟨0x31, 0x70, 0x01, 7, []⟩, 1, false, false, false, 1⟩

def wakingDevice (wasLost : Bool) : Device := { testDevice 0x31 .other with link := .waking wasLost, idleTimer := false }

def waking (wasLost : Bool) : State := engaged wakeOf31 (modDevice 3 (fun _ => wakingDevice wasLost) calm)

/-- A reply frame to the transaction. -/
def replyTo (t : Transaction) (kind : Byte) (payload : List Byte) : LinkFrame := ⟨0x70, t.request.dst, kind, t.request.tag, payload⟩

theorem test_wake_witness : Live (waking false) ∧ Settled (waking false) ∧ NoAsk (waking false) ∧ Runs (waking false) wakeOf31
    ∧ DeviceAt (waking false) 3 (wakingDevice false) ∧ Unbound (waking false) 0x31
    ∧ Answers wakeOf31 (replyTo wakeOf31 0x10 [4, 1, 0]) ∧ (waking false).capture.record = none ∧ Room (waking false) 1 := by
  refine ⟨rfl, ?_, noAsk_of _ rfl (by decide) rfl (by decide), ?_⟩
  · unfold Settled; decide
  · unfold Runs DeviceAt Unbound Answers Room; decide

theorem test_wake_lost_witness : Runs (waking true) wakeOf31 ∧ DeviceAt (waking true) 3 (wakingDevice true)
    ∧ Answers wakeOf31 (replyTo wakeOf31 0x14 []) := by unfold Runs DeviceAt Answers; decide

/-- A transaction of station 1. -/
def ownTransaction (entry : Fin 16) (cls : DevClass) (p : Purpose) (a kind : Byte) : Transaction :=
  ⟨.station 0, entry, cls, p, ⟨a, 0x70, kind, 6, []⟩, 1, false, false, false, 1⟩

def busyDevice (a : Byte) (c : DevClass) : Device := { testDevice a c with tag := 6, busy := true, idleTimer := false }

/-- Station 1 runs a frame in a phase, its devices busy, and the engine runs its transaction. -/
def shooting (ph : Phase) (t : Transaction) : State :=
  engaged t (modDevice 0 (fun _ => busyDevice 0x11 .camera) (modDevice 1 (fun _ => busyDevice 0x21 .lamp) (running ph calm)))

def shootT : Transaction := ownTransaction 0 .camera .shoot 0x11 0x04
def advanceT : Transaction := ownTransaction 0 .camera .advance 0x11 0x05
def lampT : Transaction := ownTransaction 1 .lamp .lampSet 0x21 0x03
def pollT : Transaction := ownTransaction 0 .camera .shotPoll 0x11 0x02

/-- The common hypotheses of the statements about a station's own transaction. -/
theorem shooting_runs (ph : Phase) (t : Transaction) : RunsFrame (shooting ph t) 0 testRequest testMap ph :=
  ⟨rfl, rfl, rfl, rfl, rfl, rfl, rfl, ⟨_, rfl, rfl⟩, rfl, rfl⟩

theorem test_shoot_witness : Live (shooting .shoot shootT) ∧ Settled (shooting .shoot shootT) ∧ NoAsk (shooting .shoot shootT)
    ∧ Runs (shooting .shoot shootT) shootT ∧ DeviceAt (shooting .shoot shootT) 0 (busyDevice 0x11 .camera)
    ∧ Answers shootT (replyTo shootT 0x11 []) ∧ gateRecord (shooting .shoot shootT) 0 = some (testFrame 1) := by
  refine ⟨rfl, ?_, noAsk_of _ rfl (by decide) rfl (by decide), ?_⟩
  · unfold Settled; decide
  · unfold Runs DeviceAt Answers; decide

theorem test_advance_witness : Live (shooting .advance advanceT) ∧ Settled (shooting .advance advanceT)
    ∧ NoAsk (shooting .advance advanceT) ∧ Runs (shooting .advance advanceT) advanceT
    ∧ DeviceAt (shooting .advance advanceT) 0 (busyDevice 0x11 .camera) ∧ Answers advanceT (replyTo advanceT 0x11 []) := by
  refine ⟨rfl, ?_, noAsk_of _ rfl (by decide) rfl (by decide), ?_⟩
  · unfold Settled; decide
  · unfold Runs DeviceAt Answers; decide

theorem test_lamp_set_witness : Live (shooting .lampSet lampT) ∧ Settled (shooting .lampSet lampT)
    ∧ NoAsk (shooting .lampSet lampT) ∧ Runs (shooting .lampSet lampT) lampT
    ∧ DeviceAt (shooting .lampSet lampT) 1 (busyDevice 0x21 .lamp) ∧ Answers lampT (replyTo lampT 0x11 [])
    ∧ BoundUp (shooting .lampSet lampT) 0 ⟨0x11, 0x21⟩ ∧ DeviceAt (shooting .lampSet lampT) 0 (busyDevice 0x11 .camera)
    ∧ Answers lampT (replyTo lampT 0x13 [1]) ∧ (shooting .lampSet lampT).capture.record = none
    ∧ Room (shooting .lampSet lampT) 1 := by
  refine ⟨rfl, ?_, noAsk_of _ rfl (by decide) rfl (by decide), ?_⟩
  · unfold Settled; decide
  · unfold Runs DeviceAt Answers BoundUp Room; decide

/-- The 199th and the 200th WAIT. -/
def waited (n : Nat) : State := modStation 0 (fun x => { x with waits := n }) (shooting .shoot shootT)

theorem test_waits_witness : Live (waited 198) ∧ Settled (waited 198) ∧ NoAsk (waited 198) ∧ Runs (waited 198) shootT
    ∧ (waited 198).stations[(0 : St)].waits < 199 ∧ 199 ≤ (waited 199).stations[(0 : St)].waits
    ∧ Answers shootT (replyTo shootT 0x12 []) ∧ (waited 199).capture.record = none ∧ Room (waited 199) 1 := by
  refine ⟨rfl, ?_, noAsk_of _ rfl (by decide) rfl (by decide), ?_⟩
  · unfold Settled; decide
  · unfold Runs Answers Room; decide

theorem test_waits_runs_witness : RunsFrame (waited 199) 0 testRequest testMap .shoot :=
  ⟨rfl, rfl, rfl, rfl, rfl, rfl, rfl, ⟨_, rfl, rfl⟩, rfl, rfl⟩

theorem test_shot_witness : Live (shooting .shotWait pollT) ∧ Settled (shooting .shotWait pollT)
    ∧ NoAsk (shooting .shotWait pollT) ∧ Runs (shooting .shotWait pollT) pollT
    ∧ DeviceAt (shooting .shotWait pollT) 0 (busyDevice 0x11 .camera) ∧ BoundUp (shooting .shotWait pollT) 0 ⟨0x11, 0x21⟩
    ∧ cameraStation (shooting .shotWait pollT) 0x11 = some 0 ∧ (shooting .shotWait pollT).bindings[(0 : St)].enabled = true
    ∧ recordAt testMap testMap.gate = some (testFrame 1) ∧ (testFrame 1).state = .reserved
    ∧ OrderAt (shooting .shotWait pollT) 0 testOrder ∧ testOrder.terms.number = (testFrame 1).order
    ∧ AccountAt (shooting .shotWait pollT) 0 testAccount ∧ Answers pollT (replyTo pollT 0x14 [0x03, 5, 1]) := by
  refine ⟨rfl, ?_, noAsk_of _ rfl (by decide) rfl (by decide), ?_⟩
  · unfold Settled; decide
  · unfold Runs DeviceAt BoundUp OrderAt AccountAt Answers; decide

theorem test_shot_lamp_witness : ∀ i l, DeviceAt (shooting .shotWait pollT) i l → l.addr = 0x21 → l.busy = true ∧ l.idleTimer = false := by
  have h : ∀ i l, (shooting .shotWait pollT).devices[(i : Fin 16)] = some l → l.addr = 0x21 → l.busy = true ∧ l.idleTimer = false :=
    fun i => forSome (by revert i; decide)
  exact fun i l hl => h i l hl.1

/-- The EXPOSED mark moves the hold of 135 from held to spent. -/
theorem test_shot_report : after (exec (.statusReplyReceived (replyTo pollT 0x14 [0x03, 5, 1]).wire) (shooting .shotWait pollT))
    (fun t => t.accounts[(0 : Fin 32)] == some { testAccount with spent := 235, held := 865 }
      && t.stations[(0 : St)].phase == some .advance) = true := by decide +kernel

theorem test_discard_witness : base.ring.engine = some idlePoll ∧ (calm).ring.engine = none
    ∧ (0x32 : Byte) ≠ idlePoll.request.dst ∧ idlePoll.request.kind = 0x02 ∧ idlePoll.purpose ≠ .forwarded ∧ idlePoll.purpose ≠ .wake := by
  decide

def thirdAttempt : Transaction := { idlePoll with attempt := 3, opened := 3 }

/-- The poll of 31h with its window open. -/
def openPoll : Transaction := { idlePoll with opened := 1 }

theorem test_window_closes_witness : Live (engaged openPoll base) ∧ Runs (engaged openPoll base) openPoll
    ∧ DeviceAt (engaged openPoll base) openPoll.entry (testDevice 0x31 .other)
    ∧ openPoll.purpose ≠ .wake ∧ openPoll.attempt < 3 ∧ openPoll.opened ≤ openPoll.attempt := by unfold Live Runs DeviceAt; decide

/-- The poll that `base` still sends has no window open. -/
theorem test_sending_witness : Live base ∧ base.ring.engine = some idlePoll ∧ idlePoll.opened < idlePoll.attempt := by
  unfold Live; decide

theorem test_window_loses_witness : Live (engaged thirdAttempt calm) ∧ Runs (engaged thirdAttempt calm) thirdAttempt
    ∧ DeviceAt (engaged thirdAttempt calm) 3 (testDevice 0x31 .other) ∧ Settled (engaged thirdAttempt calm)
    ∧ NoAsk (engaged thirdAttempt calm) ∧ Unbound (engaged thirdAttempt calm) 0x31
    ∧ (engaged thirdAttempt calm).capture.record = none ∧ Room (engaged thirdAttempt calm) 1 := by
  refine ⟨rfl, ?_, ?_, ?_, noAsk_of _ rfl (by decide) rfl (by decide), ?_⟩
  · unfold Runs; decide
  · unfold DeviceAt; decide
  · unfold Settled; decide
  · unfold Unbound Room; decide

/-- R149's example: after the forward slot, station 1 comes before the Composer. -/
def twoAsk : State :=
  { calm with ring := { Ring.reset with
      asks := Ring.reset.asks.set 0 (some ⟨0x11, 0x02, [], .shotPoll⟩), composerAsk := some ⟨0x30, 0x07, [], .print⟩
      lastGranted := .forward } }

theorem test_arbiter_witness : nextGranted twoAsk = some (.station 0) ∧ hasAsk twoAsk .composer = true := by decide

/-! ### Timers and limits -/

def gapping (p : Purpose) : State := modStation 0 (fun x => { x with gap := some p }) (running .shoot base)

theorem test_gap_witness : Steady (gapping .shoot) ∧ BoundUp (gapping .shoot) 0 ⟨0x11, 0x21⟩
    ∧ (gapping .shoot).stations[(0 : St)].pendingPost = none ∧ (gapping .shoot).stations[(0 : St)].gap = some .shoot := by
  unfold Steady Live Settled EngineBusy BoundUp; decide

def composing (p : PrintState) (s : State) : State :=
  modComposer (fun c => { c with print := p, gap := some .printPoll, pollTimer := true, printLimit := true }) (withStrips [aStrip] s)

theorem test_composer_gap_witness : Steady (composing .confirming base)
    ∧ isUp (composing .confirming base) (printerAddress (composing .confirming base)) = true
    ∧ (composing .confirming base).composer.gap = some .printPoll ∧ (composing .confirming base).composer.print = .confirming
    ∧ (composing .confirming base).composer.pollTimer = true := by unfold Steady Live Settled EngineBusy; decide

def polling (ph : Phase) : State :=
  modStation 0 (fun x => { x with pollTimer := true, shotLimit := some 2600, advanceLimit := true }) (running ph base)

theorem test_poll_timer_witness : Steady (polling .shotWait) ∧ BoundUp (polling .shotWait) 0 ⟨0x11, 0x21⟩
    ∧ (polling .shotWait).stations[(0 : St)].pollTimer = true ∧ Steady (polling .advanceWait) := by
  unfold Steady Live Settled EngineBusy BoundUp; decide

theorem test_polling_runs (ph : Phase) : RunsFrame (polling ph) 0 testRequest testMap ph :=
  ⟨rfl, rfl, rfl, rfl, rfl, rfl, rfl, ⟨_, rfl, rfl⟩, rfl, rfl⟩

theorem test_device_timer_witness : Steady base ∧ base.devices[(3 : Fin 16)] = some (testDevice 0x31 .other)
    ∧ (testDevice 0x31 .other).idleTimer = true ∧ (testDevice 0x31 .other).wakeTimer = false
    ∧ (otherLost base).devices[(3 : Fin 16)] = some { testDevice 0x31 .other with link := .lost } := by
  unfold Steady Live Settled EngineBusy; decide

theorem test_shot_limit_witness : Steady (polling .shotWait) ∧ (polling .shotWait).stations[(0 : St)].shotLimit.isSome = true
    ∧ recordAt testMap testMap.gate = some (testFrame 1) ∧ OrderAt (polling .shotWait) 0 testOrder
    ∧ AccountAt (polling .shotWait) 0 testAccount ∧ (polling .shotWait).capture.record = none ∧ Room (polling .shotWait) 1 := by
  unfold Steady Live Settled EngineBusy OrderAt AccountAt Room; decide

def rewinding : State := atStation base (some freshMap) fun x => { x with state := .unloading, rewindLimit := true }

theorem test_limit_witnesses : (Steady (polling .advanceWait) ∧ (polling .advanceWait).stations[(0 : St)].advanceLimit = true
      ∧ (polling .advanceWait).capture.record = none ∧ Room (polling .advanceWait) 1)
    ∧ (Steady rewinding ∧ rewinding.stations[(0 : St)].state = .unloading ∧ rewinding.stations[(0 : St)].rewindLimit = true
      ∧ rewinding.stations[(0 : St)].queue = [] ∧ Room rewinding 1)
    ∧ ((composing .confirming base).composer.printLimit = true ∧ Room (composing .confirming base) 1) := by
  unfold Steady Live Settled EngineBusy Room; decide

/-! ### Waiting posts -/

def summaryEvent : Event := idleOrder.settle.summaryEvent

/-- A waiter has been given a place. -/
def given (w : Waiter) (s : State) : State := { s with eq := { s.eq with given := [w] } }

def summaryWaits : State := given (.orderSummary 0) (orderChanged (fun _ => idleOrder.settle) base)

theorem test_summary_witness : Steady summaryWaits ∧ summaryWaits.eq.given = [.orderSummary 0]
    ∧ summaryWaits.orders[(0 : Fin 16)] = some idleOrder.settle ∧ idleOrder.settle.summary = some summaryEvent := by
  unfold Steady Live Settled EngineBusy; decide

def stripWaits : State :=
  given .stripPrinted (modComposer (fun c => { c with strips := [aStrip], print := .posting, pendingPost := some aStrip.event }) base)

theorem test_strip_witness : Steady stripWaits ∧ stripWaits.eq.given = [.stripPrinted] ∧ stripWaits.composer.strips = [aStrip]
    ∧ stripWaits.composer.pendingPost = some aStrip.event ∧ stripWaits.composer.barrierCount = none := by
  unfold Steady Live Settled EngineBusy; decide

def lampReport : Event := .deviceReport 0x21 .lamp 1 [7]

def reportWaits : State := { given .deviceReport base with ring := { base.ring with heldReports := [lampReport] } }

theorem test_report_witness : Steady reportWaits ∧ reportWaits.eq.given = [.deviceReport]
    ∧ reportWaits.ring.heldReports = [lampReport] := by unfold Steady Live Settled EngineBusy; decide

theorem test_notice_witness : Steady (given .faultNotice (capturing false .waiting base))
    ∧ (given .faultNotice (capturing false .waiting base)).capture.record = some aFault := by
  unfold Steady Live Settled EngineBusy; decide

def doneEvent : Event := testRequest.doneEvent .complete

def doneWaits : State :=
  given (.requestDone 0) (atStation base (some freshMap) fun x =>
    { x with state := .ready, queue := [{ testRequest with outcome := some .complete }], pendingPost := some doneEvent })

theorem test_done_witness : Steady doneWaits ∧ BoundUp doneWaits 0 ⟨0x11, 0x21⟩ ∧ doneWaits.eq.given = [.requestDone 0]
    ∧ doneWaits.stations[(0 : St)].pendingPost = some doneEvent ∧ doneWaits.stations[(0 : St)].rollEnd = false
    ∧ doneWaits.stations[(0 : St)].leftUp = false ∧ OrderAt doneWaits 0 testOrder ∧ testOrder.closing = false := by
  unfold Steady Live Settled EngineBusy BoundUp OrderAt; decide

def openWaiting : State :=
  given (.rollOpen 0) (atStation base (some { freshMap with opening := true }) fun x => { x with state := .noRoll })

theorem test_roll_open_witness : Steady openWaiting ∧ BoundUp openWaiting 0 ⟨0x11, 0x21⟩ ∧ openWaiting.eq.given = [.rollOpen 0]
    ∧ openWaiting.stations[(0 : St)].state = .noRoll ∧ openWaiting.rolls[(0 : St)].map = some { freshMap with opening := true } := by
  unfold Steady Live Settled EngineBusy BoundUp; decide

def bareMap : RollMap := { freshMap with header := none, closing := some .unloaded }

def reportWaiting : State := given (.rollReport 0) (atStation base (some bareMap) fun x => { x with state := .unloading })

theorem test_roll_report_witness : Steady reportWaiting ∧ BoundUp reportWaiting 0 ⟨0x11, 0x21⟩
    ∧ reportWaiting.eq.given = [.rollReport 0] ∧ reportWaiting.stations[(0 : St)].queue = []
    ∧ reportWaiting.stations[(0 : St)].pendingPost = none ∧ reportWaiting.rolls[(0 : St)].map = some bareMap
    ∧ bareMap.closing = some .unloaded ∧ bareMap.header = none ∧ bareMap.frames = [] := by
  unfold Steady Live Settled EngineBusy BoundUp; decide

/-! ### Arithmetic, labels and reservations -/

theorem test_stage_witness : (StockLegal testStock ∧ StockLegal lowStock) ∧ twelfths 144 = 0 ∧ twelfths (-144) = 0 ∧ stops (-144) = -12
    ∧ stopShift (scale 65535 11) 12 = 65535 ∧ reciprocity 65535 1 1023 = 261881 := by unfold StockLegal; decide

theorem test_hold_witness : TariffLegal testTariff ∧ ([testFrame 1, testFrame 2].length ≤ 28)
    ∧ (∀ r ∈ [testFrame 1, testFrame 2], r.hold ≤ 131070) ∧ testAccount.ceiling = some 20000 := by unfold TariffLegal; decide

theorem test_label_witness : (testFrame 72).number ≤ 72 ∧ (testFrame 72).order ≤ 65535
    ∧ fullStand.name.length ≤ 8 ∧ testMap.roll ≤ 65535 ∧ testMap.stock ≤ 255 ∧ testMap.next ≤ 73 ∧ testMap.length ≤ 72 := by decide

theorem test_piece_witness : ∀ p ∈ [word ['V', 'O', 'I', 'D'], word ['L', 'A', 'M', 'P']], ∀ b ∈ p, printable b = b := by decide

def reserving (m : RollMap) (s : State) : State := atStation s (some m) fun x => { x with state := .ready }

def asking : Request := { queuedRequest with state := .running }

/-- The hypotheses of the reservation's statement, and each clause at a boundary: a roll one frame short, one free frame too few,
no header slot, a ceiling one too low and a ceiling just reached, one slot too few and just enough. -/
theorem test_reserve_witness : (reserving freshMap base).rolls[(0 : St)].map = some freshMap ∧ freshMap.closing = none
    ∧ OrderAt (reserving freshMap base) 0 testOrder ∧ testOrder.terms.number = asking.order
    ∧ (reserving freshMap base).plans[testOrder.terms.plan] = some testPlan ∧ stockOf (reserving freshMap base) freshMap.stock = some testStock
    ∧ (reserving freshMap base).tariffs[testOrder.cls] = some testTariff ∧ AccountAt (reserving freshMap base) 0 testAccount
    ∧ testPlan.length * testOrder.terms.copies = 2
    ∧ (testPlan.map fun p => testOrder.terms.copies * frameHold testTariff p.isNominal).sum = 210
    ∧ freshMap.length + 1 - { freshMap with next := 36 }.next = 1 ∧ { freshMap with length := 1 }.length < 2 := by
  unfold OrderAt AccountAt; decide

theorem test_reserve_plan_witness : PlanLegal testPlan ∧ TariffLegal testTariff := by
  unfold PlanLegal StepLegal TariffLegal; decide

/-- Only the first `n` slots are FREE. -/
def slotsLeft (n : Nat) (s : State) : State :=
  modComposer (fun c => { c with slots := Vector.ofFn fun i => if i.val < n then .free else .queued ⟨[], []⟩ }) s

theorem slotsLeft_freeCount (n : Nat) (s : State) : freeCount (slotsLeft n s).composer
    = ((List.finRange 320).filter fun i => (if i.val < n then Slot.free else .queued ⟨[], []⟩) == .free).length := by
  simp only [freeCount, freeSlots, slotsLeft, modComposer, Fin.getElem_fin, Vector.getElem_ofFn]

theorem test_reserve_slots_witness : freeCount (slotsLeft 1 (reserving freshMap base)).composer < 2
    ∧ freeCount (slotsLeft 2 (reserving freshMap base)).composer = 2 := by
  rw [slotsLeft_freeCount, slotsLeft_freeCount]; decide +kernel

/-! ### The whole machine -/

theorem test_attn_witness : Live (suspended ⟨.boundary, true, false, none, .awaiting⟩ base)
    ∧ attn (suspended ⟨.boundary, true, false, none, .awaiting⟩ base) = true ∧ attn base = false
    ∧ Hands restarting (frameInHand 0x2C []) 0x2C [] := by unfold Hands Live InHandIs; decide

/-- The invariants hold in a state where all of the tables are in use, and a command answers there. -/
theorem test_invariant_witness : BuffersKept poolFull ∧ QueuesKept fourQueued := by
  unfold BuffersKept QueuesKept; decide

theorem test_places_witness : PlacesKept { restarting with composer := { restarting.composer with barrierCount := some 1 } } := by
  refine ⟨by decide, by decide, by decide, ?_⟩
  intro t h hr; cases h; exact absurd hr (by decide)

theorem test_tables_witness : TablesLegal base := by
  refine ⟨fun i => ?_, fun i => ?_, fun i => ?_, fun i => ?_, fun i => ?_⟩
  · unfold StockLegal; exact forSome (by revert i; decide)
  · unfold PlanLegal StepLegal; exact forSome (by revert i; decide)
  · unfold WindowLegal; exact forSome (by revert i; decide)
  · unfold TariffLegal; exact forSome (by revert i; decide)
  · unfold BindingLegal; exact forSome (by revert i; decide)

theorem test_first_fault_witness : (capturing false .posted ready).capture.record = some aFault
    ∧ after (exec (.holdLineAsserted 0) (capturing false .posted ready)) (fun t => t.capture.record == some aFault) = true := by
  decide


/-! ### Replies to an open attempt -/

/-- What `AnswersOpen` asks, as a check. -/
def isOpen (s : State) (t : Transaction) (d : Device) (f : LinkFrame) : Bool :=
  !s.pins.nresetLow && (List.finRange 4).all (fun st => !resumable s st && !tryable s st && s.ring.asks[st].isNone)
    && (match s.slot with | .asking _ => false | _ => true) && s.ring.composerAsk.isNone
    && (List.finRange 16).all (fun i => s.devices[i].all fun d => !d.dueWake && !d.duePoll)
    && decide (s.ring.engine = some t) && !t.void && !t.orphan && !t.detached && decide (t.attempt ≤ t.opened)
    && decide (s.devices[t.entry] = some d) && decide (deviceIdx s d.addr = some t.entry) && decide (t.cls = d.cls)
    && decide (f.src = t.request.dst) && decide (f.dst = t.request.src) && decide (f.tag = t.request.tag)
    && decide (f.payload.length ≤ 56)

theorem answersOpen_of {s : State} {t : Transaction} {d : Device} {f : LinkFrame} (h : isOpen s t d f = true) :
    AnswersOpen s t d f := by
  simp only [isOpen, Bool.and_eq_true, List.all_eq_true, List.mem_finRange, true_implies, decide_eq_true_eq,
    Bool.not_eq_true', Option.isNone_iff_eq_none] at h
  obtain ⟨⟨⟨⟨⟨⟨⟨⟨⟨⟨⟨⟨⟨⟨⟨⟨h0, h1⟩, h2⟩, h3⟩, h4⟩, h5⟩, h6⟩, h7⟩, h8⟩, hw⟩, h9⟩, h10⟩, h11⟩, h12⟩, h13⟩, h14⟩, h15⟩ := h
  refine ⟨h0, fun st => ⟨(h1 st).1.1, (h1 st).1.2⟩, ?_, ⟨h5, h6, h7, h8, hw⟩, ⟨h9, h10⟩, h11, h12, h13, h14, h15⟩
  refine noAsk_of s ?_ (fun st => (h1 st).2) h3 (fun i => ?_)
  · cases hs : s.slot <;> simp_all
  · have := h4 i; cases hd : s.devices[i] <;> simp_all

/-- A transaction of the Idle Poller that polls an entry. -/
def pollOf (entry : Fin 16) (cls : DevClass) (a : Byte) : Transaction :=
  ⟨.idlePoller, entry, cls, .idlePoll, ⟨a, 0x70, 0x02, 6, []⟩, 1, false, false, false, 1⟩

def cameraPoll : Transaction := pollOf 0 .camera 0x11

/-- A camera's report to the Idle Poller. -/
def polled (flags stock gate : Byte) : LinkFrame := replyTo cameraPoll 0x14 [flags, stock, gate]

theorem test_step_witness : base.pending = [] ∧ rdir base = true ∧ base.ring.engine = some idlePoll ∧ rdir calm = false := by
  decide

theorem test_record_sent_before_busy_witness :
    (1 : Nat) < ({ blockedPool with port := { blockedPool.port with beforeBusy := 2 } } : State).port.beforeBusy
      ∧ blockedPool.port.busy.isSome = true := by decide

theorem test_classifier_down_kinds_witness : ClassifierReady (classified 0x32 0x03) ⟨0x32, 0x40, 0x03, 1, []⟩
    ∧ ClassifierReady (classified 0x32 0x07) ⟨0x32, 0x40, 0x07, 1, []⟩ ∧ boundStation (classified 0x32 0x03) 0x32 = none
    ∧ deviceIdx (classified 0x32 0x07) 0x32 = none ∧ isUp (classified 0x32 0x07) 0x32 = false := by
  unfold ClassifierReady Live; decide

/-- A PRINT to the printer, which became one while the frame was held. -/
def printForward : LinkFrame := ⟨0x30, 0x40, 0x07, 0x1F, [0, 0]⟩

theorem test_forward_protected_witness : ControllerOnly (inHandOn .held printForward calm) printForward
    ∧ DeviceAt (inHandOn .held printForward calm) 2 (testDevice 0x30 .printer)
    ∧ Settled (inHandOn .held printForward calm) :=
  ⟨.inr ⟨rfl, 2, testDevice 0x30 .printer, by decide, by decide, rfl⟩, by unfold DeviceAt; decide, by unfold Settled; decide⟩

theorem test_forward_free_witness : ¬ ControllerOnly (inHandOn .forward forwarded calm) forwarded := by
  rintro (⟨h, _⟩ | ⟨h, _⟩) <;> revert h <;> decide

/-- A forwarded STATUS in the slot, sent for the third time. -/
def forwardT (entry : Fin 16) (cls : DevClass) (f : LinkFrame) : Transaction :=
  ⟨.forward, entry, cls, .forwarded, f, 3, false, false, false, 3⟩

def forwardRuns (entry : Fin 16) (cls : DevClass) (f : LinkFrame) : State :=
  { engaged (forwardT entry cls f) calm with slot := .running f, eq := { calm.eq with reserved := 1 } }

def statusForward (a : Byte) : LinkFrame := ⟨a, 0x40, 0x02, 0x1F, []⟩

/-- The reply to a forwarded frame. -/
def forwardReplyTo (f : LinkFrame) (kind : Byte) (payload : List Byte) : LinkFrame := ⟨f.src, f.dst, kind, f.tag, payload⟩

theorem test_forward_reply_witnesses :
    AnswersOpen (forwardRuns 3 .other (statusForward 0x31)) (forwardT 3 .other (statusForward 0x31))
        (testDevice 0x31 .other) (forwardReplyTo (statusForward 0x31) 0x14 [1, 1, 7])
      ∧ Brings (.statusReplyReceived (forwardReplyTo (statusForward 0x31) 0x14 [1, 1, 7]).wire)
        (forwardReplyTo (statusForward 0x31) 0x14 [1, 1, 7])
      ∧ Brings (.nakReceived (forwardReplyTo (statusForward 0x31) 0x13 [9]).wire) (forwardReplyTo (statusForward 0x31) 0x13 [9])
      ∧ AnswersOpen (forwardRuns 2 .printer (statusForward 0x30)) (forwardT 2 .printer (statusForward 0x30))
        (testDevice 0x30 .printer) (forwardReplyTo (statusForward 0x30) 0x14 [2, 0])
      ∧ Unbound (forwardRuns 3 .other (statusForward 0x31)) 0x31 ∧ Room (forwardRuns 3 .other (statusForward 0x31)) 1 := by
  refine ⟨answersOpen_of (by decide), ?_, ?_, answersOpen_of (by decide), by unfold Unbound; decide, by unfold Room; decide⟩
  · exact .inr (.inr (.inr (.inr ⟨rfl, by decide⟩)))
  · exact .inr (.inr (.inr (.inl ⟨rfl, by decide⟩)))

/-- R5's bounds: a payload of the layout with an empty course, and one of no layout. -/
theorem test_open_fields_witness : InHandIs (handed 0x23 [] base) (frameInHand 0x23 []) .manage
    ∧ (handed 0x23 (List.replicate 14 0) base).inHand = some ⟨frameInHand 0x23
        ([0, 0, 0, 0, 0, 0, 0, 0, 0, 0, 0, 0] ++ (u8 ([] : List Byte).length :: []) ++ (u8 ([] : List Byte).length :: [])), .manage⟩ := by
  unfold InHandIs; decide

theorem test_open_layout_witness : ¬ ∃ head course title : List Byte, head.length = 12 ∧ course.length ≤ 255
    ∧ title.length ≤ 255 ∧ (frameInHand 0x23 []).payload = head ++ (u8 course.length :: course) ++ (u8 title.length :: title) := by
  rintro ⟨head, course, title, h, _, _, hp⟩
  have := congrArg List.length hp
  simp [frameInHand, h] at this

theorem test_emptying_witnesses : Hands (writing 4 0 [] ready) (frameInHand 0x21 [4, 0]) 0x21 [0x04, u8 (0 : Fin 8).val]
    ∧ Hands (writing 5 0 [] base) (frameInHand 0x21 [5, 0]) 0x21 [0x05, u8 (0 : Fin 8).val] ∧ freshMap.closing = none
    ∧ Hands (writing 8 0 [] base) (frameInHand 0x21 [8, 0]) 0x21 [0x08, u8 (0 : Fin 32).val]
    ∧ (writing 8 0 [] base).accounts[(0 : Fin 32)] = some testAccount ∧ testAccount.openOrders ≠ 0
    ∧ (writing 8 31 [] base).accounts[(31 : Fin 32)] = none := by unfold Hands Live InHandIs; decide

/-- R66's refusals: a READY station, a station that binds nothing, a camera that no entry holds, a lamp head as camera; and a
station, and a sub-command, that are not. -/
theorem test_enable_refusal_witnesses : Hands (controlling 1 1 ready) (frameInHand 0x26 [1, 1]) 0x26 [u8 ((0 : St).val + 1), 0x01]
    ∧ (controlling 2 1 base).bindings[(1 : St)].binding = none ∧ (controlling 2 1 base).stations[(1 : St)].state = .disabled
    ∧ deviceIdx ({ controlling 1 1 (disabledBase none) with devices := State.reset.devices } : State) 0x11 = none
    ∧ DeviceAt (controlling 1 1 (disabledBase none)) 1 (testDevice 0x21 .lamp) ∧ (testDevice 0x21 .lamp).cls ≠ .camera
    ∧ InHandIs (controlling 5 1 base) (frameInHand 0x26 [5, 1]) .manage
    ∧ InHandIs (controlling 1 0 base) (frameInHand 0x26 [1, 0]) .manage := by
  unfold Hands Live InHandIs DeviceAt; decide

/-! ### Wakes of bound devices -/

def wakeOf21 : Transaction := ⟨.idlePoller, 1, .lamp, .wake, ⟨0x21, 0x70, 0x01, 7, []⟩, 1, false, false, false, 1⟩

def wakingLamp : Device := { testDevice 0x21 .lamp with link := .waking true, idleTimer := false }

/-- Station 1 OFFLINE while its lamp head is woken. -/
def lampWakes (map : Option RollMap) : State :=
  engaged wakeOf21 (modDevice 1 (fun _ => wakingLamp) (atStation calm map fun x => { x with state := .offline }))

theorem test_wake_bound_witness : AnswersOpen (lampWakes none) wakeOf21 wakingLamp (replyTo wakeOf21 0x10 [2, 0, 0])
    ∧ AnswersOpen (lampWakes (some freshMap)) wakeOf21 wakingLamp (replyTo wakeOf21 0x10 [2, 0, 0])
    ∧ boundStation (lampWakes none) 0x21 = some 0 ∧ (lampWakes none).bindings[(0 : St)].binding = some ⟨0x11, 0x21⟩
    ∧ DeviceAt (lampWakes none) 0 (testDevice 0x11 .camera) ∧ (lampWakes none).stations[(0 : St)].state = .offline
    ∧ (lampWakes (some freshMap)).rolls[(0 : St)].map = some freshMap ∧ freshMap.opening = false :=
  ⟨answersOpen_of (by decide), answersOpen_of (by decide), by decide, by decide, by unfold DeviceAt; decide, by decide, by decide,
    by decide⟩

theorem test_wake_alone_witness : ∀ st' b', st' ≠ (0 : St) → (lampWakes none).bindings[(st' : St)].binding = some b' →
    b'.camera ≠ 0x21 ∧ b'.lamp ≠ 0x21 := by
  have h : ∀ st' : St, st' ≠ 0 → (lampWakes none).bindings[st'].binding = none := by decide
  intro st' b' hs hb; rw [h st' hs] at hb; cases hb

/-- Station 1 OFFLINE while its camera is woken. -/
def wakeOf11 : Transaction := ⟨.idlePoller, 0, .camera, .wake, ⟨0x11, 0x70, 0x01, 7, []⟩, 1, false, false, false, 1⟩

def wakingCamera : Device := { testDevice 0x11 .camera with link := .waking true, idleTimer := false }

def cameraWakes (map : Option RollMap) : State :=
  engaged wakeOf11 (modDevice 0 (fun _ => wakingCamera) (atStation calm map fun x => { x with state := .offline }))

theorem test_wake_camera_witness : AnswersOpen (cameraWakes none) wakeOf11 wakingCamera (replyTo wakeOf11 0x10 [1, 0, 0, 0])
    ∧ AnswersOpen (cameraWakes (some freshMap)) wakeOf11 wakingCamera (replyTo wakeOf11 0x10 [1, 1, 5, 1])
    ∧ StatusParses .camera [0, 0, 0] ∧ StatusParses .camera [1, 5, 1] ∧ boundStation (cameraWakes none) 0x11 = some 0
    ∧ cameraStation (cameraWakes none) 0x11 = some 0 ∧ DeviceAt (cameraWakes none) 1 (testDevice 0x21 .lamp)
    ∧ (cameraWakes none).stations[(0 : St)].queue = [] ∧ freshMap.stock = 5 ∧ freshMap.gate = 1 ∧ freshMap.closing = none :=
  ⟨answersOpen_of (by decide), answersOpen_of (by decide), ⟨_, _, _, rfl, by decide, by decide⟩, ⟨_, _, _, rfl, by decide, by decide⟩,
    by decide, by decide, by unfold DeviceAt; decide, by decide, by decide, by decide, by decide⟩

theorem test_wake_camera_alone_witness : ∀ st' b', st' ≠ (0 : St) → (cameraWakes none).bindings[(st' : St)].binding = some b' →
    b'.camera ≠ 0x11 ∧ b'.lamp ≠ 0x11 := by
  have h : ∀ st' : St, st' ≠ 0 → (cameraWakes none).bindings[st'].binding = none := by decide
  intro st' b' hs hb; rw [h st' hs] at hb; cases hb

def wakeOf30 : Transaction := ⟨.idlePoller, 2, .printer, .wake, ⟨0x30, 0x70, 0x01, 7, []⟩, 1, false, false, false, 1⟩

def wakingPrinter : Device := { testDevice 0x30 .printer with link := .waking false, idleTimer := false }

def printerWakes : State := engaged wakeOf30 (modDevice 2 (fun _ => wakingPrinter) calm)

theorem test_wake_printer_witness : AnswersOpen printerWakes wakeOf30 wakingPrinter (replyTo wakeOf30 0x10 [3, 2, 0])
    ∧ Unbound printerWakes 0x30 ∧ printerWakes.composer.print = .idle :=
  ⟨answersOpen_of (by decide), by unfold Unbound; decide, by decide⟩

theorem test_wake_mismatch_witness : AnswersOpen (waking false) wakeOf31 (wakingDevice false) (replyTo wakeOf31 0x10 [3, 1, 0])
    ∧ (0x03 : Byte) ≠ (wakingDevice false).cls.code ∧ (wakingDevice false).mismatchNoted = false
    ∧ AnswersOpen (waking true) wakeOf31 (wakingDevice true) (replyTo wakeOf31 0x14 [1, 0])
    ∧ StatusParses .other (replyTo wakeOf31 0x14 [1, 0]).payload :=
  ⟨answersOpen_of (by decide), by decide, by decide, answersOpen_of (by decide), ⟨1, 0, [], rfl, by decide, rfl⟩⟩

/-- Replies that do not parse: a wake's READY without a class, or with the entry's class and one byte of status, and a STATUS_REPLY
of four bytes to a camera's poll. -/
theorem test_unparsed_witness : ¬ StatusParses wakeOf31.cls [1] ∧ ¬ StatusParses .camera [1, 5, 1, 0]
    ∧ (replyTo wakeOf31 0x10 []).payload = [] ∧ (waking false).ring.engine = some wakeOf31 := by
  refine ⟨?_, ?_, rfl, rfl⟩
  · rintro ⟨c, n, items, h, _⟩; cases h
  · rintro ⟨a, b, c, h, _⟩; cases h

/-! ### WAITs and NAKs -/

/-- Station 1 UNLOADING, its REWIND or rewind poll running. -/
def unloadT (p : Purpose) (kind : Byte) : Transaction := ownTransaction 0 .camera p 0x11 kind

def unloadRuns (p : Purpose) (kind : Byte) (n : Nat) : State :=
  engaged (unloadT p kind) (modDevice 0 (fun _ => busyDevice 0x11 .camera)
    (atStation calm (some freshMap) fun x => { x with state := .unloading, waits := n, rewindLimit := true }))

theorem test_unload_wait_witness :
    AnswersOpen (unloadRuns .rewind 6 198) (unloadT .rewind 6) (busyDevice 0x11 .camera) (replyTo (unloadT .rewind 6) 0x12 [])
      ∧ AnswersOpen (unloadRuns .rewindPoll 2 199) (unloadT .rewindPoll 2) (busyDevice 0x11 .camera)
        (replyTo (unloadT .rewindPoll 2) 0x12 [])
      ∧ AnswersOpen (unloadRuns .rewind 6 0) (unloadT .rewind 6) (busyDevice 0x11 .camera) (replyTo (unloadT .rewind 6) 0x13 [2])
      ∧ closeUnderWay (unloadRuns .rewind 6 0) 0 = false ∧ (unloadRuns .rewind 6 0).stations[(0 : St)].queue = [] :=
  ⟨answersOpen_of (by decide), answersOpen_of (by decide), answersOpen_of (by decide), by decide, by decide⟩

def checkT : Transaction := ownTransaction 0 .camera .rollCheck 0x11 0x02

/-- Station 1 READY with its roll check running. -/
def checkRuns (n : Nat) : State :=
  engaged checkT (atStation calm (some freshMap) fun x => { x with state := .ready, rollCheck := true, waits := n })

theorem test_roll_check_witness :
    AnswersOpen (checkRuns 198) checkT (testDevice 0x11 .camera) (replyTo checkT 0x12 [])
      ∧ AnswersOpen (checkRuns 199) checkT (testDevice 0x11 .camera) (replyTo checkT 0x13 []) :=
  ⟨answersOpen_of (by decide), answersOpen_of (by decide)⟩

def advancePollT : Transaction := ownTransaction 0 .camera .advancePoll 0x11 0x02

/-- Each own request of a running station: a WAIT before the 200th and the 200th, and NAKs. -/
def runningWaits (ph : Phase) (t : Transaction) (n : Nat) : State := modStation 0 (fun x => { x with waits := n }) (shooting ph t)

theorem test_phase_wait_witnesses :
    AnswersOpen (runningWaits .lampSet lampT 199) lampT (busyDevice 0x21 .lamp) (replyTo lampT 0x12 [])
      ∧ AnswersOpen (runningWaits .shotWait pollT 198) pollT (busyDevice 0x11 .camera) (replyTo pollT 0x12 [])
      ∧ AnswersOpen (runningWaits .advance advanceT 0) advanceT (busyDevice 0x11 .camera) (replyTo advanceT 0x13 [7])
      ∧ AnswersOpen (runningWaits .advanceWait advancePollT 199) advancePollT (busyDevice 0x11 .camera)
        (replyTo advancePollT 0x13 []) :=
  ⟨answersOpen_of (by decide), answersOpen_of (by decide), answersOpen_of (by decide), answersOpen_of (by decide)⟩

/-! ### The end of a frame -/

/-- The gate frame is EXPOSED, and the station polls for the advance. -/
def exposedMap (gate : Nat) : RollMap :=
  { testMap with gate := gate, frames := [{ testFrame 1 with state := .exposed }, testFrame 2] }

def advancing (m : RollMap) : State := modRoll 0 (fun r => { r with map := some m }) (shooting .advanceWait advancePollT)

/-- A roll that ends with the frame in the gate, and the request's last frame. -/
def lastMap (length : Nat) : RollMap :=
  { testMap with
    gate := 2, length := length
    frames := [{ testFrame 1 with state := .exposed }, { testFrame 2 with state := .exposed }] }

theorem advancing_runs (m : RollMap) (h : m.roll = 4) (hc : m.closing = none) :
    RunsFrame (advancing m) 0 testRequest m .advanceWait :=
  ⟨rfl, rfl, rfl, rfl, rfl, rfl, rfl, ⟨_, rfl, h.symm⟩, rfl, hc⟩

theorem test_advanced_witnesses :
    AnswersOpen (advancing (exposedMap 1)) advancePollT (busyDevice 0x11 .camera) (replyTo advancePollT 0x14 [0x09, 5, 2])
      ∧ AnswersOpen (holding (advancing (exposedMap 1))) advancePollT (busyDevice 0x11 .camera)
        (replyTo advancePollT 0x14 [0x09, 5, 2])
      ∧ AnswersOpen (advancing (lastMap 36)) advancePollT (busyDevice 0x11 .camera) (replyTo advancePollT 0x14 [0x09, 5, 3])
      ∧ AnswersOpen (advancing (lastMap 2)) advancePollT (busyDevice 0x11 .camera) (replyTo advancePollT 0x14 [0x09, 5, 3])
      ∧ AnswersOpen (advancing (exposedMap 1)) advancePollT (busyDevice 0x11 .camera) (replyTo advancePollT 0x14 [0x09, 5, 1])
      ∧ recordAt (exposedMap 1) 2 = some (testFrame 2) ∧ DeviceAt (advancing (exposedMap 1)) 1 (busyDevice 0x21 .lamp)
      ∧ Room (advancing (lastMap 2)) 1 ∧ (1 : Nat) + 2 ≤ (lastMap 2).gate + 1 :=
  ⟨answersOpen_of (by decide), answersOpen_of (by decide), answersOpen_of (by decide), answersOpen_of (by decide),
    answersOpen_of (by decide), by decide, by unfold DeviceAt; decide, by unfold Room; decide, by decide⟩

theorem test_station_camera_witness : StationCamera (advancing (exposedMap 1)) 0 ⟨0x11, 0x21⟩ (busyDevice 0x11 .camera)
    ∧ StatusParses .camera [0x09, 5, 1] ∧ OrderAt (advancing (exposedMap 1)) 0 testOrder ∧ testOrder.closing = false :=
  ⟨by unfold StationCamera BoundUp; decide, ⟨_, _, _, rfl, by decide, by decide⟩, by unfold OrderAt; decide, rfl⟩

/-! ### Windows and grants -/

def thirdOf (t : Transaction) : Transaction := { t with attempt := 3, opened := 3 }

theorem test_window_bound_witness :
    AnswersOpen (engaged (thirdOf cameraPoll) (atStation calm (some freshMap) fun x => { x with state := .ready }))
        (thirdOf cameraPoll) (testDevice 0x11 .camera) (polled 1 5 1)
      ∧ boundStation calm 0x11 = some 0
      ∧ AnswersOpen (shooting .shoot (thirdOf shootT)) (thirdOf shootT) (busyDevice 0x11 .camera) (replyTo shootT 0x11 []) :=
  ⟨answersOpen_of (by decide), by decide, answersOpen_of (by decide)⟩

/-- One ask of each requester but the forward slot, whose turn is last. -/
def allAsk (last : Requester) : State :=
  { modDevice 3 (fun d => { d with duePoll := true }) twoAsk with ring := { twoAsk.ring with lastGranted := last } }

theorem test_grant_witnesses : nextGranted (allAsk .forward) = some (.station 0)
    ∧ nextGranted (allAsk (.station 3)) = some .composer ∧ nextGranted (allAsk .composer) = some .idlePoller
    ∧ nextServed (allAsk .composer) = some 3 ∧ (allAsk .composer).devices[(3 : Fin 16)] = some { testDevice 0x31 .other with duePoll := true }
    ∧ nextGranted ({ calm with slot := .asking forwarded } : State) = some .forward
    ∧ DeviceAt (allAsk .forward) 0 (testDevice 0x11 .camera) ∧ calm.ring.engine = none := by
  unfold DeviceAt; decide

/-- The Composer's standing print poll. -/
theorem test_grant_composer_witness : (({ allAsk .composer with ring := { (allAsk .composer).ring with
      asks := Ring.reset.asks, composerAsk := some ⟨0x30, 0x02, [], .printPoll⟩, lastGranted := .forward } } : State).ring.composerAsk.map
        (·.purpose)) = some .printPoll := by decide

/-! ### ABORT of a SUSPENDED request -/

def suspendedRequest : Request := { testRequest with state := .suspended }

def abortSuspendedState (ph : SuspendedPhase) (step : ResumeStep) : State :=
  controlling 1 3 (suspended ⟨ph, true, true, none, step⟩ base)

theorem test_abort_suspended_witness : Steady (abortSuspendedState .shotWait .checking)
    ∧ Hands (abortSuspendedState .shotWait .checking) (frameInHand 0x26 [1, 3]) 0x26 [u8 ((0 : St).val + 1), 0x03]
    ∧ headOf (abortSuspendedState .shotWait .checking) 0 = some suspendedRequest ∧ suspendedRequest.frames = some ⟨4, 1, 2⟩
    ∧ (abortSuspendedState .shotWait .checking).rolls[(0 : St)].map = some testMap
    ∧ recordAt testMap testMap.gate = some (testFrame 1) ∧ OrderAt (abortSuspendedState .shotWait .checking) 0 testOrder
    ∧ 1 ≤ (abortSuspendedState .shotWait .checking).eq.reserved ∧ Room (abortSuspendedState .shotWait .checking) 1 := by
  unfold Steady Hands Live Settled EngineBusy InHandIs OrderAt Room; decide

/-- With no room, the aborted request's post waits, and the check is given up. -/
theorem test_abort_suspended_waits : after (exec .abort (noRoom (abortSuspendedState .boundary .checking))) (fun t =>
    t.stations[(0 : St)].pendingPost.isSome && t.stations[(0 : St)].susp.step == .awaiting
      && t.stations[(0 : St)].susp.releaseOwed && t.eq.waiters == [.requestDone 0]) = true := by decide +kernel

theorem test_abort_no_room_witness : freePlaces (noRoom (abortSuspendedState .boundary .checking)).eq = 0
    ∧ (noRoom (abortSuspendedState .boundary .checking)).eq.records.length
      + (noRoom (abortSuspendedState .boundary .checking)).eq.reserved
      + (noRoom (abortSuspendedState .boundary .checking)).eq.given.length = 16 := by decide

/-! ### Reports upstream -/

theorem test_upstream_witnesses :
    AnswersOpen (engaged (pollOf 3 .other 0x31) calm) (pollOf 3 .other 0x31) (testDevice 0x31 .other)
        (replyTo (pollOf 3 .other 0x31) 0x14 [1, 1, 7])
      ∧ AnswersOpen (engaged cameraPoll ({ calm with bindings := State.reset.bindings } : State)) cameraPoll
        (testDevice 0x11 .camera) (polled 0x03 5 1)
      ∧ cameraStation ({ calm with bindings := State.reset.bindings } : State) 0x11 = none
      ∧ StatusParses .camera [0x03, 5, 1] ∧ Room (engaged (pollOf 3 .other 0x31) calm) 1 :=
  ⟨answersOpen_of (by decide), answersOpen_of (by decide), by decide, ⟨_, _, _, rfl, by decide, by decide⟩, by unfold Room; decide⟩

/-- Two frames used, one EXPOSED and one SPOILED, and nothing reserved. -/
def usedMap : RollMap :=
  { freshMap with
    gate := 3, next := 3
    frames := [{ testFrame 1 with state := .exposed }, { testFrame 2 with state := .spoiled .lamp }] }

def closeWaits : State :=
  given (.rollReport 0) (atStation (withStrips [aStrip] base) (some { usedMap with closing := some .mismatch }) fun x =>
    { x with state := .ready })

theorem test_roll_report_strip_witness : Steady closeWaits ∧ BoundUp closeWaits 0 ⟨0x11, 0x21⟩
    ∧ closeWaits.eq.given = [.rollReport 0] ∧ closeWaits.rolls[(0 : St)].headerRequest = false
    ∧ (∀ r ∈ usedMap.frames, r.state ≠ .reserved) ∧ closeWaits.composer.strips ≠ [] := by
  unfold Steady Live Settled EngineBusy BoundUp; decide

/-! ### Rolls open and close -/

/-- Station 1 in a state, with a map or without, its camera polled by the Idle Poller; a strip is listed. -/
def pollingStation (x : StationState) (map : Option RollMap) : State :=
  engaged cameraPoll (atStation (withStrips [aStrip] calm) map fun y => { y with state := x })

theorem test_roll_open_witnesses : AnswersOpen (pollingStation .noRoll none) cameraPoll (testDevice 0x11 .camera) (polled 1 5 1)
    ∧ AnswersOpen (pollingStation .waitingFilm none) cameraPoll (testDevice 0x11 .camera) (polled 0 0 0)
    ∧ AnswersOpen (pollingStation .noRoll none) cameraPoll (testDevice 0x11 .camera) (polled 1 6 1)
    ∧ AnswersOpen (pollingStation .noRoll none) cameraPoll (testDevice 0x11 .camera) (polled 1 5 2)
    ∧ StationCamera (pollingStation .noRoll none) 0 ⟨0x11, 0x21⟩ (testDevice 0x11 .camera)
    ∧ stockOf (pollingStation .noRoll none) 5 = some testStock ∧ stockOf (pollingStation .noRoll none) 6 = none
    ∧ Room (pollingStation .noRoll none) 2 ∧ (pollingStation .noRoll none).rolls[(0 : St)].removalRequired = false
    ∧ freePlaces (placesFull (pollingStation .noRoll none)).eq = 0 :=
  ⟨answersOpen_of (by decide), answersOpen_of (by decide), answersOpen_of (by decide), answersOpen_of (by decide),
    by unfold StationCamera BoundUp; decide, by decide, by decide, by unfold Room; decide, by decide, by decide⟩

theorem test_roll_close_witnesses :
    AnswersOpen (pollingStation .unloading (some usedMap)) cameraPoll (testDevice 0x11 .camera) (polled 0 0 0)
      ∧ (∀ r ∈ usedMap.frames, r.state ≠ .reserved) ∧ usedMap.header = some 0 ∧ usedMap.closing = none
      ∧ AnswersOpen (pollingStation .ready (some freshMap)) cameraPoll (testDevice 0x11 .camera) (polled 1 5 1)
      ∧ AnswersOpen (pollingStation .waitingLabels (some usedMap)) cameraPoll (testDevice 0x11 .camera) (polled 1 5 1)
      ∧ (pollingStation .waitingLabels (some usedMap)).capture.record = none
      ∧ Room (pollingStation .waitingLabels (some usedMap)) 2 ∧ headOf (pollingStation .ready (some freshMap)) 0 = none :=
  ⟨answersOpen_of (by decide), by decide, by decide, by decide, answersOpen_of (by decide), answersOpen_of (by decide), by decide,
    by unfold Room; decide, by decide⟩

/-- A roll that never had its header slot, with its request withdrawn at the close. -/
def headerlessUnload : State :=
  modComposer (fun c => { c with headerList := [0] })
    (modRoll 0 (fun r => { r with headerRequest := true }) (pollingStation .unloading (some { freshMap with header := none })))

theorem test_roll_close_headerless_witness :
    AnswersOpen headerlessUnload cameraPoll (testDevice 0x11 .camera) (polled 0 0 0)
      ∧ headerlessUnload.rolls[(0 : St)].headerRequest = true := ⟨answersOpen_of (by decide), by decide⟩

/-! ### The check of a resume -/

def resumeT : Transaction := ownTransaction 0 .camera .resumeCheck 0x11 0x02

/-- Station 1 in step CHECKING, with a map and a queue. -/
def resuming (ph : SuspendedPhase) (noted : Option Bool) (m : RollMap) (q : List Request) : State :=
  engaged resumeT (atStation (withStrips [aStrip] calm) (some m) fun x =>
    { x with state := .suspended, susp := ⟨ph, !q.isEmpty, false, noted, .checking⟩, queue := q })

/-- The report that serves the check. -/
def served (flags stock gate : Byte) : LinkFrame := replyTo resumeT 0x14 [flags, stock, gate]

def held (ph : SuspendedPhase) (noted : Option Bool) (m : RollMap) : State := resuming ph noted m [suspendedRequest]

theorem test_resume_held_witnesses :
    AnswersOpen (held .lampSet none testMap) resumeT (testDevice 0x11 .camera) (served 1 5 1)
      ∧ AnswersOpen (held .shotWait (some false) testMap) resumeT (testDevice 0x11 .camera) (served 1 5 1)
      ∧ AnswersOpen (held .advance none (exposedMap 1)) resumeT (testDevice 0x11 .camera) (served 1 5 2)
      ∧ AnswersOpen (held .boundary none testMap) resumeT (testDevice 0x11 .camera) (served 1 5 2)
      ∧ StationCamera (held .lampSet none testMap) 0 ⟨0x11, 0x21⟩ (testDevice 0x11 .camera)
      ∧ (held .lampSet none testMap).stations[(0 : St)].susp.step = .checking ∧ Room (held .lampSet none testMap) 3
      ∧ headOf (held .lampSet none testMap) 0 = some suspendedRequest ∧ recordAt testMap 1 = some (testFrame 1)
      ∧ (∀ r ∈ testMap.frames, r.state ≠ .reserved ↔ r.number < 1) :=
  ⟨answersOpen_of (by decide), answersOpen_of (by decide), answersOpen_of (by decide), answersOpen_of (by decide),
    by unfold StationCamera BoundUp; decide, by decide, by unfold Room; decide, by decide, by decide, by decide⟩

def free (ph : SuspendedPhase) (noted : Option Bool) (m : RollMap) : State := resuming ph noted m []

theorem test_resume_free_witnesses :
    AnswersOpen (free .unload none usedMap) resumeT (testDevice 0x11 .camera) (served 1 9 9)
      ∧ AnswersOpen (free .advance none { usedMap with gate := 2 }) resumeT (testDevice 0x11 .camera) (served 1 5 3)
      ∧ isMarked { usedMap with gate := 2 } 2 = true
      ∧ AnswersOpen (free .boundary none usedMap) resumeT (testDevice 0x11 .camera) (served 1 5 3)
      ∧ recordAt usedMap usedMap.gate = none ∧ Room (free .boundary none usedMap) 2
      ∧ AnswersOpen (free .boundary none usedMap) resumeT (testDevice 0x11 .camera) (replyTo resumeT 0x13 [1])
      ∧ (free .boundary none usedMap).stations[(0 : St)].waits < 199 :=
  ⟨answersOpen_of (by decide), answersOpen_of (by decide), by decide, answersOpen_of (by decide), by decide, by unfold Room; decide,
    answersOpen_of (by decide), by decide⟩

/-- R188: a shot that is not confirmed is SPOILED (UNCERTAIN), and nothing is charged for it. -/
theorem test_resume_uncertain : after (exec (.statusReplyReceived (served 1 5 1).wire) (held .shotWait none testMap)) (fun t =>
    (t.rolls[(0 : St)].map.map fun m => m.frames.map (·.state)) == some [.spoiled .uncertain, .reserved]
      && t.accounts[(0 : Fin 32)] == some { testAccount with held := 865 }) = true := by decide +kernel

/-- R188: a flagged SHOT noted before any SHOOT spoils the frame as UNCERTAIN and captures LAMP_FAIL. -/
theorem test_resume_flagged_uncertain : after (exec (.statusReplyReceived (served 7 5 1).wire) (held .lampSet none testMap)) (fun t =>
    (t.rolls[(0 : St)].map.map fun m => m.frames.map (·.state)) == some [.spoiled .uncertain, .reserved]
      && t.capture.record == some ⟨.lampFail, 0x21, 0x04, some 0, some 812, some 1, none⟩) = true := by decide +kernel

theorem test_resume_flagged_witness : AnswersOpen (held .lampSet none testMap) resumeT (testDevice 0x11 .camera) (served 7 5 1)
    ∧ (held .lampSet none testMap).capture.record = none ∧ Room (held .lampSet none testMap) 1 :=
  ⟨answersOpen_of (by decide), by decide, by unfold Room; decide⟩

/-- R150: a resume whose last frame has advanced returns to RUNNING, and its devices stay busy while the REQUEST_DONE waits. -/
theorem test_resume_end_busy : after (exec (.statusReplyReceived (served 1 5 3).wire) (placesFull (held .advance none (lastMap 36))))
    (fun t => t.stations[(0 : St)].state == .running && t.stations[(0 : St)].pendingPost.isSome
      && t.devices[(0 : Fin 16)].map (·.busy) == some true && t.devices[(1 : Fin 16)].map (·.busy) == some true) = true := by
  decide +kernel

/-- R144: a reply that matches is discarded while the frame is still being sent. -/
theorem test_reply_while_sending : after
    (exec (.statusReplyReceived (replyTo cameraPoll 0x14 [1, 5, 1]).wire) (engaged { cameraPoll with opened := 0 } calm))
    (fun t => t.ring.engine == some { cameraPoll with opened := 0 }) = true := by decide +kernel

/-! ### Printing -/

def printT : Transaction := ⟨.composer, 2, .printer, .print, ⟨0x30, 0x70, 0x07, 6, [0, 0]⟩, 1, false, false, false, 1⟩

def printPollT : Transaction := ⟨.composer, 2, .printer, .printPoll, ⟨0x30, 0x70, 0x02, 6, []⟩, 1, false, false, false, 1⟩

/-- The Composer prints the label `next` of the strip, its transaction running. -/
def printing (t : Transaction) (x : PrintState) (next : Nat) (more : List Strip) : State :=
  engaged t (modDevice 2 (fun _ => busyDevice 0x30 .printer) (modComposer (fun c =>
    { c with print := x, sent := true, strips := { aStrip with next := next } :: more }) calm))

theorem test_printing_witnesses :
    AnswersOpen (printing printT .sending 0 []) printT (busyDevice 0x30 .printer) (replyTo printT 0x11 [])
      ∧ AnswersOpen (printing printT .sending 0 []) printT (busyDevice 0x30 .printer) (replyTo printT 0x13 [1])
      ∧ AnswersOpen (printing printPollT .confirming 0 []) printPollT (busyDevice 0x30 .printer) (replyTo printPollT 0x14 [0, 1])
      ∧ AnswersOpen (printing printPollT .confirming 1 []) printPollT (busyDevice 0x30 .printer) (replyTo printPollT 0x14 [1, 1])
      ∧ AnswersOpen (printing printPollT .confirming 1 [aStrip]) printPollT (busyDevice 0x30 .printer)
        (replyTo printPollT 0x14 [3, 0])
      ∧ printerIdx (printing printT .sending 0 []) = some 2 ∧ Room (printing printT .sending 0 []) 1
      ∧ aStrip.labels[(1 : Nat)]? = some 1 ∧ (1 : Fin 320) ≠ 0 :=
  ⟨answersOpen_of (by decide), answersOpen_of (by decide), answersOpen_of (by decide), answersOpen_of (by decide),
    answersOpen_of (by decide), by decide, by unfold Room; decide, by decide, by decide⟩

/-- A PRINT that has met 198 and 199 WAITs. -/
def printWaits (n : Nat) : State := modComposer (fun c => { c with waits := n }) (printing printT .sending 0 [])

theorem test_print_wait_witnesses : AnswersOpen (printWaits 198) printT (busyDevice 0x30 .printer) (replyTo printT 0x12 [])
    ∧ AnswersOpen (printWaits 199) printT (busyDevice 0x30 .printer) (replyTo printT 0x12 [])
    ∧ (printWaits 198).composer.waits = 198 ∧ (printWaits 199).composer.waits = 199 ∧ printerIdx (printWaits 199) = some 2
    ∧ Room (printWaits 199) 1 :=
  ⟨answersOpen_of (by decide), answersOpen_of (by decide), by decide, by decide, by decide, by unfold Room; decide⟩

/-- The Composer is PAUSED after a PRINT, and the printer is polled by the Idle Poller. -/
def paused : State :=
  engaged (pollOf 2 .printer 0x30) (modDevice 2 (fun d => { d with tag := 6 })
    (modComposer (fun c => { c with print := .paused .outOfStock, sent := true, again := true, strips := [aStrip] }) calm))

theorem test_paused_witness : AnswersOpen paused (pollOf 2 .printer 0x30) { testDevice 0x30 .printer with tag := 6 }
      (replyTo (pollOf 2 .printer 0x30) 0x14 [0, 0])
    ∧ AnswersOpen (printing (thirdOf printT) .sending 0 []) (thirdOf printT) (busyDevice 0x30 .printer) (replyTo printT 0x11 [])
    ∧ Unbound calm 0x30 := ⟨answersOpen_of (by decide), answersOpen_of (by decide), by unfold Unbound; decide⟩

/-- R129: the label that no PRINTED item confirmed is printed again, and counted as a reprint. -/
theorem test_reprint : after (exec (.statusReplyReceived (replyTo (pollOf 2 .printer 0x30) 0x14 [0, 0]).wire) paused) (fun t =>
    t.composer.print == .sending && (t.composer.strips.map (·.reprints)) == [1]) = true := by decide +kernel

/-- The statement about a frame label asks for a step of the plan. -/
theorem test_frame_label_witness : testPlan[(testFrame 2).step - 1]? = some ⟨1, allChannels⟩ := by decide

/-- 6.8's example: line 2 of frame 2's label. -/
theorem test_frame_label : (frameLabel [⟨2, .order⟩, ⟨2, .original⟩, ⟨2, .stepmark⟩, ⟨2, .literal (word ['F'])⟩, ⟨2, .frame⟩]
      ⟨[], []⟩ { testOrder with terms := { testTerms with copies := 2 } } [⟨-1, allChannels⟩] 5
      { testFrame 2 with step := 1, copy := 2 }).two
    = word ['8', '1', '2', ' ', '1', '7', ' ', '-', '1', '/', '3', 'c', '2', ' ', 'F', ' ', '2'] := by decide

/-! ### Trying the head -/

/-- An EXPOSE in hand for a READY station with an empty queue. -/
def tries (m : RollMap) (s : State) : State := exposed (atStation s (some m) fun x => { x with state := .ready })

theorem test_try_witness : Steady (tries freshMap base) ∧ InHandIs (tries freshMap base) ⟨0x11, 0x40, 0x20, 0x55, exposePayload⟩ .intercept
    ∧ 1 ≤ (tries freshMap base).eq.reserved ∧ BoundUp (tries freshMap base) 0 ⟨0x11, 0x21⟩
    ∧ (tries freshMap base).stations[(0 : St)].queue = [] ∧ (tries freshMap base).rolls[(0 : St)].map = some freshMap
    ∧ freshMap.gate = freshMap.next ∧ freshMap.frames = [] ∧ Room (tries freshMap base) 1
    ∧ OrderAt (tries freshMap base) 0 testOrder ∧ AccountAt (tries freshMap base) 0 testAccount
    ∧ (tries { freshMap with length := 1 } base).rolls[(0 : St)].map = some { freshMap with length := 1 }
    ∧ (tries { freshMap with next := 36, gate := 36 } base).rolls[(0 : St)].map = some { freshMap with next := 36, gate := 36 } := by
  unfold Steady Live Settled EngineBusy InHandIs BoundUp OrderAt AccountAt Room; decide

theorem test_map_closed_witness : ∀ m, base.rolls[(0 : St)].map = some m → m.roll ≠ 4 ∨ m.closing.isSome = true :=
  forSome (by decide)
end Sys2Proof.Tests
end

section
/-! PROOFS. Accounts, tariffs and holds: the write rules of the Window and Tariff Tables (R89, R92), ACCOUNT_READ and
ACCOUNT_CLEAR (R107, R108), and the hold amounts with the fit test (R99, R100). The first parts say once how the shared
operations behave: the bytes of a field, the answer to the frame in hand, and a management frame given to its owner. -/

namespace Sys2Proof.Machine

/-! ### Fields and their bytes (R201) -/

@[simp] theorem toNat_u8 (n : Nat) : (u8 n).toNat = n % 256 := BitVec.toNat_ofNat n 8

theorem rd16_u8 {n : Nat} (h : n ≤ 65535) : rd16 (u8 (n / 256)) (u8 n) = n := by
  simp only [rd16, toNat_u8]; omega

theorem rd32_u8 {n : Nat} (h : n ≤ 4294967295) :
    rd32 (u8 (n / 16777216)) (u8 (n / 65536)) (u8 (n / 256)) (u8 n) = n := by
  simp only [rd32, toNat_u8]; omega

theorem index?_eq_none {n : Nat} {b : Byte} (h : n ≤ b.toNat) : index? n b = none := dif_neg (Nat.not_lt.mpr h)

theorem index?_u8 {n : Nat} (hn : n ≤ 256) (i : Fin n) : index? n (u8 i.val) = some i := by
  have hi : (u8 i.val).toNat = i.val := (toNat_u8 _).trans (Nat.mod_eq_of_lt (Nat.lt_of_lt_of_le i.isLt hn))
  simp [index?, hi]

theorem parseWindow_eq_none {p : List Byte} (h : p.length ≠ 8) : parseWindow p = none := by
  unfold parseWindow; split
  · exact absurd rfl h
  · rfl

theorem parseTariff_eq_none {p : List Byte} (h : p.length ≠ 8) : parseTariff p = none := by
  unfold parseTariff; split
  · exact absurd rfl h
  · rfl

theorem parseAccountNumber_eq_none {p : List Byte} (h : p.length ≠ 4) : parseAccountNumber p = none := by
  unfold parseAccountNumber; split
  · exact absurd rfl h
  · rfl

theorem parseAccountNumber_be32 {n : Nat} (h : n ≤ 4294967295) : parseAccountNumber (be32 n) = some n :=
  congrArg some (rd32_u8 h)

theorem parseTariff_be16 {price fee share setup : Nat} (hp : price ≤ 65535) (hf : fee ≤ 65535) (hh : share ≤ 65535)
    (hs : setup ≤ 65535) :
    parseTariff (be16 price ++ be16 fee ++ be16 share ++ be16 setup) = some ⟨price, fee, min share 256, setup⟩ := by
  simp [be16, parseTariff, rd16_u8, hp, hf, hh, hs]

/-! ### What a command changes -/

theorem Part.same_trans {p : Part} {s t u : State} (h : p.same s t) (k : p.same t u) : p.same s u := by
  cases p <;> exact Eq.trans k h

theorem OnlyChanges.append {ps qs : List Part} {s t u : State} (h : OnlyChanges ps s t) (k : OnlyChanges qs t u) :
    OnlyChanges (ps ++ qs) s u := fun p hp =>
  Part.same_trans (h p fun hm => hp (List.mem_append_left qs hm)) (k p fun hm => hp (List.mem_append_right ps hm))

theorem setWindow_onlyChanges (i : Fin 8) (w : Option Window) (s : State) : OnlyChanges [.windows] s (setWindow i w s) := by
  intro p hp
  cases p with
  | windows => exact absurd (List.mem_singleton_self _) hp
  | _ => rfl

theorem setTariff_onlyChanges (i : Fin 8) (t : Option Tariff) (s : State) : OnlyChanges [.tariffs] s (setTariff i t s) := by
  intro p hp
  cases p with
  | tariffs => exact absurd (List.mem_singleton_self _) hp
  | _ => rfl

theorem modAccount_onlyChanges (i : Fin 32) (f : Account → Account) (s : State) :
    OnlyChanges [.accounts] s (modAccount i f s) := by
  intro p hp
  cases p with
  | accounts => exact absurd (List.mem_singleton_self _) hp
  | _ => rfl

/-- An entry of the Account Table is changed by writing what it then holds. -/
theorem modAccount_accounts_of_present {i : Fin 32} {a : Account} {s : State} (h : s.accounts[i] = some a)
    (f : Account → Account) : (modAccount i f s).accounts = s.accounts.set i.val (some (f a)) i.isLt := by
  rw [modAccount_accounts, upd, h, Option.map_some]

/-! ### The answer to the frame in hand (R162, R163, R170, R177) -/

/-- All that starting the transmitter changes is the Console Port, and there what is sent: a transmitter that was sending goes
on, and an idle one starts when a record waits. -/
theorem startTransmit_port (s : State) : ∃ p, startTransmit s = { s with port := p } ∧ p.rx = s.port.rx
    ∧ p.pool = s.port.pool ∧ p.beforeBusy = s.port.beforeBusy ∧ (s.port.sending.isSome = true → p = s.port)
    ∧ (s.eq.records ≠ [] → p.sending.isSome = true) := by
  have head_isSome : s.eq.records ≠ [] →
      ((s.eq.records.head?).map fun r => (⟨r.frame (ownAddress s.pins), true⟩ : Sending)).isSome = true := by
    intro h; rw [Option.isSome_map, List.isSome_head?]; simpa using h
  unfold startTransmit
  split
  · next x hx => exact ⟨s.port, rfl, rfl, rfl, rfl, fun _ => rfl, fun _ => by rw [hx]; rfl⟩
  · next hx =>
    have idle : ∀ {q : Prop}, s.port.sending.isSome = true → q := fun h => by rw [hx] at h; cases h
    split
    · split
      · exact ⟨_, rfl, rfl, rfl, rfl, idle, fun _ => rfl⟩
      · exact ⟨_, rfl, rfl, rfl, rfl, idle, head_isSome⟩
    · exact ⟨_, rfl, rfl, rfl, rfl, idle, head_isSome⟩

/-- The answer joins the Event Queue in its reserved place, frees the frame in hand, and leaves all else but the transmitter. -/
theorem answerHand_eq (f : LinkFrame) (code : Result) (data : List Byte) (s : State) : ∃ p,
    answerHand f code data s = { s with
      port := p, inHand := none
      eq := { s.eq with records := s.eq.records ++ [.result f.tag code data], reserved := s.eq.reserved - 1 } }
    ∧ Transmits s { s with port := p } := by
  obtain ⟨p, hp, hrx, hpool, hbefore, hsame, hstarts⟩ := startTransmit_port { s with
    inHand := none
    eq := { s.eq with records := s.eq.records ++ [.result f.tag code data], reserved := s.eq.reserved - 1 } }
  exact ⟨p, hp, hrx, hpool, hbefore, hstarts (List.append_ne_nil_of_right_ne_nil _ (List.cons_ne_nil _ _)), hsame⟩

theorem answerHand_onlyChanges (f : LinkFrame) (code : Result) (data : List Byte) (s : State) :
    OnlyChanges answerParts s (answerHand f code data s) := by
  obtain ⟨p, hp, -⟩ := answerHand_eq f code data s
  rw [hp]
  intro q hq
  cases q with
  | port | inHand | eventQueue => exact absurd (by decide) hq
  | _ => rfl

theorem answerHand_answered (f : LinkFrame) (code : Result) (data : List Byte) (s : State) :
    Answered s (answerHand f code data s) f code data [] := by
  obtain ⟨p, hp, htransmits⟩ := answerHand_eq f code data s
  rw [hp]
  exact ⟨rfl, htransmits, rfl⟩

theorem answerHand_refused (f : LinkFrame) (code : Result) (s : State) : Refused s (answerHand f code [] s) f code :=
  ⟨answerHand_onlyChanges f code [] s, answerHand_answered f code [] s⟩

theorem answerHand_reported (f : LinkFrame) (data : List Byte) (s : State) :
    Reported s (answerHand f .done data s) f data :=
  ⟨answerHand_onlyChanges f .done data s, answerHand_answered f .done data s⟩

/-- An answer is judged by the frame in hand, the Event Queue and the transmitter alone. -/
theorem Answered.of_same {s t u : State} {f : LinkFrame} {code : Result} {data : List Byte} {events : List Record}
    (h : Answered s t f code data events) (hport : u.port = t.port) (hhand : u.inHand = t.inHand) (heq : u.eq = t.eq) :
    Answered s u f code data events := by
  unfold Answered Transmits at h ⊢
  rwa [hport, hhand, heq]

/-- The DONE, and then a change of one part that the answer leaves alone: both show in the state after. -/
theorem done_then_change {p : Part} (hp : p ∉ answerParts) {f : LinkFrame} {data : List Byte} {s t : State}
    (h : OnlyChanges [p] (answerHand f .done data s) t) :
    OnlyChanges [.port, .inHand, .eventQueue, p] s t ∧ Answered s t f .done data [] := by
  have unchanged : ∀ q ∈ answerParts, q.same (answerHand f .done data s) t := fun q hq =>
    h q fun hm => hp (List.mem_singleton.mp hm ▸ hq)
  exact ⟨(answerHand_onlyChanges f .done data s).append h,
    (answerHand_answered f .done data s).of_same (unchanged .port (by decide)) (unchanged .inHand (by decide))
      (unchanged .eventQueue (by decide))⟩

theorem done_setWindow (i : Fin 8) (w : Option Window) (f : LinkFrame) (s : State) :
    OnlyChanges [.port, .inHand, .eventQueue, .windows] s (setWindow i w (answerHand f .done [] s))
      ∧ Answered s (setWindow i w (answerHand f .done [] s)) f .done [] []
      ∧ (setWindow i w (answerHand f .done [] s)).windows = s.windows.set i.val w i.isLt := by
  obtain ⟨honly, hanswered⟩ := done_then_change (by decide) (setWindow_onlyChanges i w (answerHand f .done [] s))
  have hsame : (answerHand f .done [] s).windows = s.windows := answerHand_onlyChanges f .done [] s .windows (by decide)
  exact ⟨honly, hanswered, by rw [setWindow_windows, hsame]⟩

theorem done_setTariff (i : Fin 8) (t : Option Tariff) (f : LinkFrame) (s : State) :
    OnlyChanges [.port, .inHand, .eventQueue, .tariffs] s (setTariff i t (answerHand f .done [] s))
      ∧ Answered s (setTariff i t (answerHand f .done [] s)) f .done [] []
      ∧ (setTariff i t (answerHand f .done [] s)).tariffs = s.tariffs.set i.val t i.isLt := by
  obtain ⟨honly, hanswered⟩ := done_then_change (by decide) (setTariff_onlyChanges i t (answerHand f .done [] s))
  have hsame : (answerHand f .done [] s).tariffs = s.tariffs := answerHand_onlyChanges f .done [] s .tariffs (by decide)
  exact ⟨honly, hanswered, by rw [setTariff_tariffs, hsame]⟩

/-! ### A management frame given to its owner (R165, R170, R172) -/

theorem completes_live {s t : State} {P : State → Prop} (hl : Live s) (h : P t) : Completes (live s t) P :=
  ⟨t, by rw [live, hl, if_neg Bool.false_ne_true], h⟩

theorem inHand?_of_inHandIs {s : State} {f : LinkFrame} {k : Byte} (h : InHandIs s f .manage) (hk : f.kind = k) :
    inHand? s k = some f := by
  rw [inHand?, h]; exact if_pos hk

section
variable {s : State} {f : LinkFrame} {t : Table} {index : Byte} {record : List Byte}
  {owner : Byte → List Byte → State → Except Result (State → State)}

theorem tableWrite_of_hands (h : Hands s f 0x21 (t.code :: index :: record)) :
    tableWrite t owner s = answered f (owner index record s) s := by
  obtain ⟨-, hhand, hkind, hpayload⟩ := h
  have hin : inHand? s kindTableWrite = some f := inHand?_of_inHandIs hhand hkind
  rw [tableWrite, hin]
  simp only [hpayload, if_true]

theorem tableWrite_refused {code : Result} (h : Hands s f 0x21 (t.code :: index :: record))
    (ho : owner index record s = .error code) :
    Completes (live s (tableWrite t owner s)) fun u => Refused s u f code :=
  completes_live h.1 (by rw [tableWrite_of_hands h, ho]; exact answerHand_refused f code s)

theorem tableWrite_done {change : State → State} {P : State → Prop} (h : Hands s f 0x21 (t.code :: index :: record))
    (ho : owner index record s = .ok change) (hP : P (change (answerHand f .done [] s))) :
    Completes (live s (tableWrite t owner s)) P :=
  completes_live h.1 (by rw [tableWrite_of_hands h, ho]; exact hP)

end

section
variable {s : State} {f : LinkFrame} {kind : Byte}
  {owner : LinkFrame → State → Except Result (List Byte × (State → State))}

theorem manageData_of_inHand (hi : InHandIs s f .manage) (hk : f.kind = kind) :
    manageData kind owner s = answeredData f (owner f s) s := by
  rw [manageData, inHand?_of_inHandIs hi hk]

theorem manageData_refused {code : Result} (hl : Live s) (hi : InHandIs s f .manage) (hk : f.kind = kind)
    (ho : owner f s = .error code) : Completes (live s (manageData kind owner s)) fun u => Refused s u f code :=
  completes_live hl (by rw [manageData_of_inHand hi hk, ho]; exact answerHand_refused f code s)

theorem manageData_done {data : List Byte} {change : State → State} {P : State → Prop} (hl : Live s)
    (hi : InHandIs s f .manage) (hk : f.kind = kind) (ho : owner f s = .ok (data, change))
    (hP : P (change (answerHand f .done data s))) : Completes (live s (manageData kind owner s)) P :=
  completes_live hl (by rw [manageData_of_inHand hi hk, ho]; exact hP)

end

/-! ### The Window Table's write rule (R89) -/

theorem exec_windowTableWrite (s : State) : exec .windowTableWrite s = live s (tableWrite .window writeWindow s) := rfl

theorem writeWindow_badIndex {index : Byte} (h : 8 ≤ index.toNat) (record : List Byte) (s : State) :
    writeWindow index record s = .error .badField := by
  rw [writeWindow, index?_eq_none h]

theorem writeWindow_empty (i : Fin 8) (s : State) : writeWindow (u8 i.val) [] s = .ok (setWindow i none) := by
  rw [writeWindow, index?_u8 (by decide)]; rfl

theorem writeWindow_badLength (i : Fin 8) {record : List Byte} (hne : record.length ≠ 0) (h8 : record.length ≠ 8) (s : State) :
    writeWindow (u8 i.val) record s = .error .badLength := by
  have hnil : record ≠ [] := fun h => hne (List.length_eq_zero_iff.mpr h)
  rw [writeWindow, index?_u8 (by decide)]
  simp only [if_neg hnil, parseWindow_eq_none h8]

section
variable (i : Fin 8) (b1 b2 b3 m1 m2 m3 c e : Byte) (s : State)

/-- A record of the right length is judged by the class and by base against mask alone. -/
theorem writeWindow_record : writeWindow (u8 i.val) [b1, b2, b3, m1, m2, m3, c, e] s =
    if h : c.toNat < 8 ∧ (b1 ++ b2 ++ b3 : BitVec 24) &&& ~~~(m1 ++ m2 ++ m3 : BitVec 24) = 0 then
      .ok (setWindow i (some ⟨b1 ++ b2 ++ b3, m1 ++ m2 ++ m3, ⟨c.toNat, h.1⟩, e != 0⟩))
    else .error .badField := by
  rw [writeWindow, index?_u8 (by decide)]
  simp only [List.cons_ne_nil, if_false, parseWindow]
  by_cases hc : c.toNat < 8
  · by_cases hb : (b1 ++ b2 ++ b3 : BitVec 24) &&& ~~~(m1 ++ m2 ++ m3 : BitVec 24) = 0
    · rw [dif_pos hc, if_pos hb, dif_pos ⟨hc, hb⟩]
    · rw [dif_pos hc, if_neg hb, dif_neg fun h => hb h.2]
  · rw [dif_neg hc, dif_neg fun h => hc h.1]

end

/-- Settles O21: the write rule's cases, each carried through TABLE_WRITE. -/
theorem windowWriteRule : Obligations.WindowWriteRule := by
  intro s f index record hands
  rw [exec_windowTableWrite]
  refine ⟨fun hi => tableWrite_refused hands (writeWindow_badIndex hi record s), ?_⟩
  rintro i rfl
  refine ⟨fun hne h8 => tableWrite_refused hands (writeWindow_badLength i hne h8 s), ?_, ?_⟩
  · rintro rfl
    exact tableWrite_done hands (writeWindow_empty i s) (done_setWindow i none f s)
  · rintro b1 b2 b3 m1 m2 m3 c e rfl
    have hrecord := writeWindow_record i b1 b2 b3 m1 m2 m3 c e s
    constructor
    · intro hbad
      rw [dif_neg fun h => hbad.elim (Nat.not_le.mpr h.1) fun hb => hb h.2] at hrecord
      exact tableWrite_refused hands hrecord
    · rintro k rfl hb
      have hk : (u8 k.val).toNat = k.val := by rw [toNat_u8]; omega
      rw [dif_pos ⟨Nat.lt_of_le_of_lt (Nat.le_of_eq hk) k.isLt, hb⟩] at hrecord
      simp only [hk] at hrecord
      exact tableWrite_done hands hrecord (done_setWindow i _ f s)

/-! ### The Tariff Table's write rule (R92) -/

theorem exec_tariffTableWrite (s : State) : exec .tariffTableWrite s = live s (tableWrite .tariff writeTariff s) := rfl

theorem tariffInUse_iff (s : State) (i : Fin 8) :
    tariffInUse s i = true ↔ ∃ j o, s.orders[(j : Fin 16)] = some o ∧ o.cls = i := by
  rw [tariffInUse, List.any_eq_true]
  constructor
  · rintro ⟨j, -, hj⟩
    split at hj
    · next o ho => exact ⟨j, o, ho, beq_iff_eq.mp hj⟩
    · cases hj
  · rintro ⟨j, o, ho, hcls⟩
    exact ⟨j, List.mem_finRange j, by rw [ho]; exact beq_iff_eq.mpr hcls⟩

theorem writeTariff_badIndex {index : Byte} (h : 8 ≤ index.toNat) (record : List Byte) (s : State) :
    writeTariff index record s = .error .badField := by
  rw [writeTariff, index?_eq_none h]

theorem writeTariff_empty (i : Fin 8) (s : State) :
    writeTariff (u8 i.val) [] s = if tariffInUse s i then .error .inUse else .ok (setTariff i none) := by
  rw [writeTariff, index?_u8 (by decide)]; rfl

theorem writeTariff_badLength (i : Fin 8) {record : List Byte} (hne : record.length ≠ 0) (h8 : record.length ≠ 8) (s : State) :
    writeTariff (u8 i.val) record s = .error .badLength := by
  have hnil : record ≠ [] := fun h => hne (List.length_eq_zero_iff.mpr h)
  rw [writeTariff, index?_u8 (by decide)]
  simp only [if_neg hnil, parseTariff_eq_none h8]

theorem writeTariff_record (i : Fin 8) {record : List Byte} {t : Tariff} (h : parseTariff record = some t) (s : State) :
    writeTariff (u8 i.val) record s = .ok (setTariff i (some t)) := by
  have hnil : record ≠ [] := by rintro rfl; cases h
  rw [writeTariff, index?_u8 (by decide)]
  simp only [if_neg hnil, h]

/-- Settles O22: the write rule's cases, each carried through TABLE_WRITE. -/
theorem tariffWriteRule : Obligations.TariffWriteRule := by
  intro s f index record hands
  rw [exec_tariffTableWrite]
  refine ⟨fun hi => tableWrite_refused hands (writeTariff_badIndex hi record s), ?_⟩
  rintro i rfl
  refine ⟨fun hne h8 => ?_, ?_, ?_, ?_⟩
  · exact tableWrite_refused hands (writeTariff_badLength i hne h8 s)
  · rintro rfl hheld
    exact tableWrite_refused hands (by rw [writeTariff_empty, if_pos ((tariffInUse_iff s i).mpr hheld)])
  · rintro rfl hfree
    have hunused : ¬ tariffInUse s i = true := fun h => by
      obtain ⟨j, o, ho, hcls⟩ := (tariffInUse_iff s i).mp h
      exact hfree j o ho hcls
    exact tableWrite_done hands (by rw [writeTariff_empty, if_neg hunused]) (done_setTariff i none f s)
  · rintro price fee share setup hp hf hh hs rfl
    have hmin : min share 256 = if 256 < share then 256 else share := by split <;> omega
    have hwrite := writeTariff_record i (parseTariff_be16 hp hf hh hs) s
    rw [hmin] at hwrite
    exact tableWrite_done hands hwrite (done_setTariff i _ f s)

/-! ### ACCOUNT_READ and ACCOUNT_CLEAR (R107, R108) -/

theorem exec_accountRead (s : State) : exec .accountRead s = live s (manageData kindAccountRead readAccount s) := rfl

theorem exec_accountClear (s : State) : exec .accountClear s = live s (manageData kindAccountClear clearAccount s) := rfl

theorem accountIdx_eq_none {s : State} {n : Nat} (h : ∀ j a, s.accounts[(j : Fin 32)] = some a → a.number ≠ n) :
    accountIdx s n = none := by
  rw [accountIdx, List.find?_eq_none]
  intro j _
  split
  · next a ha => simpa using h j a ha
  · exact Bool.false_ne_true

theorem namedAccount_badLength {payload : List Byte} (h : payload.length ≠ 4) (s : State) :
    namedAccount payload s = .error .badLength := by
  rw [namedAccount, parseAccountNumber_eq_none h]

section
variable {n : Nat} (h32 : n ≤ 4294967295) (s : State)
include h32

theorem namedAccount_badField (h : n = 0 ∨ 16777215 < n) : namedAccount (be32 n) s = .error .badField := by
  rw [namedAccount, parseAccountNumber_be32 h32]
  exact if_pos h

theorem namedAccount_noAccount (h0 : n ≠ 0) (h24 : n ≤ 16777215)
    (h : ∀ j a, s.accounts[(j : Fin 32)] = some a → a.number ≠ n) : namedAccount (be32 n) s = .error .noAccount := by
  rw [namedAccount, parseAccountNumber_be32 h32]
  simp only [if_neg (not_or.mpr ⟨h0, Nat.not_lt.mpr h24⟩), accountIdx_eq_none h]

end

theorem namedAccount_accountAt {s : State} {j : Fin 32} {a : Account} (h0 : a.number ≠ 0) (h24 : a.number ≤ 16777215)
    (h : AccountAt s j a) : namedAccount (be32 a.number) s = .ok (j, a) := by
  obtain ⟨hentry, hidx⟩ := h
  rw [namedAccount, parseAccountNumber_be32 (Nat.le_trans h24 (by decide))]
  simp only [if_neg (not_or.mpr ⟨h0, Nat.not_lt.mpr h24⟩), hidx, hentry]

/-- The refusals of R107, in order: what ACCOUNT_READ and ACCOUNT_CLEAR share. -/
def AccountRefusals (s : State) (f : LinkFrame) (o : Host.Outcome State Fault Refusal) : Prop :=
  (f.payload.length ≠ 4 → Completes o fun t => Refused s t f .badLength)
    ∧ ∀ n : Nat, n ≤ 4294967295 → f.payload = be32 n →
      (n = 0 ∨ 16777215 < n → Completes o fun t => Refused s t f .badField)
      ∧ (n ≠ 0 → n ≤ 16777215 → (∀ j a, s.accounts[(j : Fin 32)] = some a → a.number ≠ n) →
          Completes o fun t => Refused s t f .noAccount)

/-- An owner that refuses whatever `namedAccount` refuses has the refusals of R107. -/
theorem accountRefusals {s : State} {f : LinkFrame} {kind : Byte}
    {owner : LinkFrame → State → Except Result (List Byte × (State → State))} (hl : Live s) (hi : InHandIs s f .manage)
    (hk : f.kind = kind) (ho : ∀ code, namedAccount f.payload s = .error code → owner f s = .error code) :
    AccountRefusals s f (live s (manageData kind owner s)) := by
  refine ⟨fun hlen => manageData_refused hl hi hk (ho _ (namedAccount_badLength hlen s)), ?_⟩
  intro n h32 hp
  rw [hp] at ho
  exact ⟨fun hbad => manageData_refused hl hi hk (ho _ (namedAccount_badField h32 s hbad)),
    fun h0 h24 hnone => manageData_refused hl hi hk (ho _ (namedAccount_noAccount h32 s h0 h24 hnone))⟩

/-- Settles O31: the refusals are those of `namedAccount`; an accepted request is answered from the account it names. -/
theorem accountReadAndClearRules : Obligations.AccountReadAndClearRules := by
  constructor
  · intro s f hl hi hk
    rw [exec_accountRead]
    obtain ⟨hlength, hnamed⟩ :=
      accountRefusals (owner := readAccount) hl hi hk fun code h => by rw [readAccount, h]
    refine ⟨hlength, fun n h32 hp => ⟨(hnamed n h32 hp).1, (hnamed n h32 hp).2, ?_⟩⟩
    rintro j a h0 h24 hat rfl
    have hread : readAccount f s = .ok (accountRecord (some a) ++ [classByte (tariffClass s a.number)], id) := by
      rw [readAccount, hp, namedAccount_accountAt h0 h24 hat]
    exact manageData_done hl hi hk hread (answerHand_reported f _ s)
  · intro s f hl hi hk
    rw [exec_accountClear]
    obtain ⟨hlength, hnamed⟩ :=
      accountRefusals (owner := clearAccount) hl hi hk fun code h => by rw [clearAccount, h]
    refine ⟨hlength, fun n h32 hp => ⟨(hnamed n h32 hp).1, (hnamed n h32 hp).2, ?_⟩⟩
    rintro j a h0 h24 hat rfl
    have hclear : clearAccount f s = .ok (be32 a.spent, modAccount j fun a => { a with spent := 0 }) := by
      rw [clearAccount, hp, namedAccount_accountAt h0 h24 hat]
    have hsame : (answerHand f .done (be32 a.spent) s).accounts = s.accounts :=
      answerHand_onlyChanges f .done (be32 a.spent) s .accounts (by decide)
    obtain ⟨honly, hanswered⟩ := done_then_change (by decide)
      (modAccount_onlyChanges j (fun a => { a with spent := 0 }) (answerHand f .done (be32 a.spent) s))
    refine manageData_done hl hi hk hclear ⟨honly, hanswered, ?_⟩
    rw [modAccount_accounts_of_present (by rw [hsame]; exact hat.1), hsame]

/-! ### Hold amounts and the fit test (R99, R100) -/

theorem satAdd_eq {a b : Nat} (h : a + b ≤ 4294967295) : satAdd a b = a + b := Nat.min_eq_left h

/-- A saturating sum passes a test against a bound below saturation exactly when the true sum does. -/
theorem satAdd_le_iff {a b c : Nat} (h : c ≤ 4294967294) : satAdd a b ≤ c ↔ a + b ≤ c := by
  unfold satAdd top32; omega

/-- What saturates before a further sum fails every test against a bound below saturation, as the true sum does. -/
theorem satAdd_satAdd_le_iff {a b x c : Nat} (h : c ≤ 4294967294) : satAdd (satAdd a b) x ≤ c ↔ a + b + x ≤ c := by
  rw [satAdd_le_iff h]; unfold satAdd top32; omega

theorem offNominal_le {t : Tariff} (h : TariffLegal t) : t.framePrice * t.share ≤ 16776960 ∧ offNominal t ≤ 65535 := by
  obtain ⟨hprice, -, hshare, -⟩ := h
  have hprod : t.framePrice * t.share ≤ 65535 * 256 := Nat.mul_le_mul hprice hshare
  unfold offNominal; omega

theorem frameHold_le {t : Tariff} (h : TariffLegal t) (nominal : Bool) : frameHold t nominal ≤ 131070 := by
  obtain ⟨-, hoff⟩ := offNominal_le h
  obtain ⟨hprice, hfee, -, -⟩ := h
  unfold frameHold; split <;> omega

/-- The sum of holds from `h` on is exact while it stays below saturation. -/
theorem foldl_satAdd_hold (recs : List FrameRec) (h : Nat) (hb : h + (recs.map (·.hold)).sum ≤ 4294967295) :
    recs.foldl (fun h r => satAdd h r.hold) h = h + (recs.map (·.hold)).sum := by
  induction recs generalizing h with
  | nil => rfl
  | cons r rs ih =>
    rw [List.map_cons, List.sum_cons, ← Nat.add_assoc] at hb ⊢
    rw [List.foldl_cons, satAdd_eq (Nat.le_trans (Nat.le_add_right _ _) hb), ih _ hb]

theorem sum_hold_le {recs : List FrameRec} {b : Nat} (h : ∀ r ∈ recs, r.hold ≤ b) :
    (recs.map (·.hold)).sum ≤ recs.length * b := by
  induction recs with
  | nil => exact Nat.zero_le _
  | cons r rs ih =>
    have hr : r.hold ≤ b := h r List.mem_cons_self
    have hrs : (rs.map (·.hold)).sum ≤ rs.length * b := ih fun x hx => h x (List.mem_cons_of_mem r hx)
    rw [List.map_cons, List.sum_cons, List.length_cons, Nat.succ_mul]
    omega

theorem fits_of_ceiling {a : Account} {c : Nat} (x : Nat) (ha : a.ceiling = some c) (hc : c ≤ 4294967294) :
    fits a x = true ↔ a.spent + a.held + x ≤ c := by
  rw [fits, ha, decide_eq_true_iff, satAdd_satAdd_le_iff hc]

/-- Settles O52: the amounts of a legal tariff class, the sum of a set of at most 28 records, and the fit test. -/
theorem holdAmountsAndFitTest : Obligations.HoldAmountsAndFitTest := by
  refine ⟨fun t ht => ?_, fun recs hlen hhold => ?_, fun a x => ⟨fun ha => by rw [fits, ha], fun c ha hc => ?_⟩⟩
  · obtain ⟨hprod, -⟩ := offNominal_le ht
    refine ⟨rfl, by omega, rfl, rfl, frameHold_le ht, fun hs => ?_, fun hs => ?_⟩ <;> rw [offNominal, hs] <;> omega
  · have hsum : (recs.map (·.hold)).sum ≤ 3669960 :=
      Nat.le_trans (sum_hold_le hhold) (Nat.mul_le_mul_right 131070 hlen)
    have hexact : holdSum recs = (recs.map (·.hold)).sum :=
      (foldl_satAdd_hold recs 0 (by omega)).trans (Nat.zero_add _)
    exact ⟨hexact, hexact ▸ hsum⟩
  · exact fits_of_ceiling x ha hc

end Sys2Proof.Machine
end

section
/-! PROOFS. The print barrier (R132): what PRINT_BARRIER makes of its request in each of the four cases of the rule, and the
rule whole. -/

namespace Sys2Proof.Machine

/-! ### PRINT_BARRIER (R132) -/

theorem exec_printBarrier (s : State) : exec .printBarrier s = live s (barrierHand s) := rfl

theorem live_of_live {s : State} (h : Live s) (t : State) : live s t = .next t := by
  rw [live, h, if_neg Bool.false_ne_true]

section
variable {s : State} {f : LinkFrame} (hi : InHandIs s f .manage) (hk : f.kind = kindPrintBarrier)
include hi hk

theorem barrierHand_badLength (hp : f.payload ≠ []) : barrierHand s = answerHand f .badLength [] s := by
  rw [barrierHand, inHand?_of_inHandIs hi hk]
  exact if_pos hp

theorem barrierHand_wrongState (hp : f.payload = []) (hb : s.composer.barrierCount.isSome = true) :
    barrierHand s = answerHand f .wrongState [] s := by
  rw [barrierHand, inHand?_of_inHandIs hi hk]
  simp only [if_neg (not_not_intro hp), if_pos hb]

/-- With no strip to wait for, the barrier is answered in the command itself. -/
theorem barrierHand_noStrip (hp : f.payload = []) (hb : s.composer.barrierCount = none) (hs : s.composer.strips = []) :
    barrierHand s = answerHand f .done [] s := by
  have hfree : ¬ s.composer.barrierCount.isSome = true := Option.not_isSome_iff_eq_none.mpr hb
  have hempty : s.composer.strips.isEmpty = true := List.isEmpty_iff.mpr hs
  rw [barrierHand, inHand?_of_inHandIs hi hk]
  simp only [if_neg (not_not_intro hp), if_neg hfree, if_pos hempty]

/-- The pending barrier keeps its tag in the deferred-reply slot; its reserved place in the Event Queue stays. -/
theorem barrierHand_pending (hp : f.payload = []) (hb : s.composer.barrierCount = none) (hs : s.composer.strips ≠ []) :
    barrierHand s = { s with
      inHand := none, deferred := some f.tag
      composer := { s.composer with barrierCount := some s.composer.strips.length } } := by
  have hfree : ¬ s.composer.barrierCount.isSome = true := Option.not_isSome_iff_eq_none.mpr hb
  have hlisted : ¬ s.composer.strips.isEmpty = true := fun h => hs (List.isEmpty_iff.mp h)
  rw [barrierHand, inHand?_of_inHandIs hi hk]
  simp only [if_neg (not_not_intro hp), if_neg hfree, if_neg hlisted]
  rfl

end

/-- Settles O33: the four cases of R132, each the equation of `barrierHand` for it. -/
theorem printBarrierRule : Obligations.PrintBarrierRule := by
  intro s f hl hi hk
  rw [exec_printBarrier]
  refine ⟨fun hp => ?badLength, fun hp => ⟨fun hb => ?wrongState, fun hb hs => ?noStrip, fun hb hs => ?pending⟩⟩
  case badLength =>
    exact completes_live hl (barrierHand_badLength hi hk hp ▸ answerHand_refused f .badLength s)
  case wrongState =>
    exact completes_live hl (barrierHand_wrongState hi hk hp hb ▸ answerHand_refused f .wrongState s)
  case noStrip =>
    exact completes_live hl (barrierHand_noStrip hi hk hp hb hs ▸ answerHand_reported f [] s)
  case pending =>
    rw [live_of_live hl, barrierHand_pending hi hk hp hb hs]

end Sys2Proof.Machine
end

section
/-! PROOFS. The receive faults (R161): what `receive` answers for each cause, and that a faulty frame on an idle line leaves only
the receiver's own bytes and stage, which the next idle clears. -/

namespace Sys2Proof.Machine

/-! ### The causes of the receive faults (R161) -/

theorem receive_orphan {sync : Byte} (rest : List Byte) (h : sync ≠ 0xC5) : receive (sync :: rest) = .error .orphan :=
  if_pos h

theorem receive_long {len : Byte} (body : List Byte) (h : len.toNat < 4 ∨ 60 < len.toNat) :
    receive (0xC5 :: len :: body) = .error .long := by
  rw [receive, if_neg (not_not_intro rfl)]
  exact if_pos h

section
variable {len : Byte} (hmin : 4 ≤ len.toNat) (hmax : len.toNat ≤ 60)
include hmin hmax

theorem receive_short {body : List Byte} (h : body.length < len.toNat + 2) :
    receive (0xC5 :: len :: body) = .error .short := by
  have hlen : ¬ (len.toNat < 4 ∨ 60 < len.toNat) := by omega
  rw [receive, if_neg (not_not_intro rfl)]
  simp only [if_neg hlen, if_pos h]

/-- `fields` is what stands between the length byte and the CRC. -/
theorem receive_check {fields crc : List Byte} (hfields : fields.length = len.toNat) (hcrc : crc.length = 2)
    (hbad : crc ≠ be16 (crc16 (len :: fields)).toNat) : receive (0xC5 :: len :: (fields ++ crc)) = .error .check := by
  have hlen : ¬ (len.toNat < 4 ∨ 60 < len.toNat) := by omega
  have hlong : ¬ (fields ++ crc).length < len.toNat + 2 := by rw [List.length_append]; omega
  have htake : (fields ++ crc).take len.toNat = fields := List.take_left' hfields
  have hdrop : ((fields ++ crc).drop len.toNat).take 2 = crc := by
    rw [List.drop_left' hfields, ← hcrc, List.take_length]
  rw [receive, if_neg (not_not_intro rfl)]
  simp only [if_neg hlen, if_neg hlong, htake, hdrop, if_pos hbad]

end

/-- The length byte of a frame counts its four header bytes and its payload. -/
theorem toNat_lengthByte {f : LinkFrame} (h : f.payload.length ≤ 56) :
    (u8 (4 + f.payload.length)).toNat = 4 + f.payload.length := by
  rw [toNat_u8]; omega

theorem receive_covered_check {f : LinkFrame} {hi lo : Byte} (h : f.payload.length ≤ 56)
    (hbad : [hi, lo] ≠ be16 (crc16 f.covered).toNat) : receive (0xC5 :: (f.covered ++ [hi, lo])) = .error .check := by
  have hlen := toNat_lengthByte h
  have hfields : (f.dst :: f.src :: f.kind :: f.tag :: f.payload).length = (u8 (4 + f.payload.length)).toNat := by
    rw [hlen]; simp only [List.length_cons]; omega
  exact receive_check (by omega) (by omega) hfields rfl hbad

/-! ### A faulty frame changes nothing (R161, R162) -/

theorem exec_linkFrameReceived (bytes : List Byte) (idle : Bool) (s : State) :
    exec (.linkFrameReceived bytes idle) s = live s (receiveBytes bytes idle s) := rfl

@[simp] theorem lineIdle_setRx (bytes : List Byte) (stage : RxStage) (s : State) :
    lineIdle (setRx bytes stage s) = lineIdle s := rfl

theorem setRx_self {s : State} {bytes : List Byte} {stage : RxStage} (h : s.port.rx = ⟨bytes, stage⟩) :
    setRx bytes stage s = s := by
  rw [setRx, ← h]

/-- On a line that was idle, the bytes up to the next idle are the whole frame. -/
theorem receiveBytes_of_idle {s : State} (h : s.port.rx = ⟨[], .unclaimed⟩) (bytes : List Byte) :
    receiveBytes bytes true s = lineIdle (takeBytes bytes s) := by
  simp [receiveBytes, h]

theorem completeFrame_of_error {bytes : List Byte} {e : RxFault} (h : receive bytes = .error e) (stage : RxStage)
    (s : State) : completeFrame stage bytes s = setRx [] .skipping s := by
  rw [completeFrame, h]

/-- Only a complete frame without a fault leaves the receiver: whatever else the bytes are, no more than the receiver's own
bytes and stage change. -/
theorem takeBytes_of_error {bytes : List Byte} {e : RxFault} (h : receive bytes = .error e) (s : State) :
    takeBytes bytes s = s ∨ ∃ taken stage, takeBytes bytes s = setRx taken stage s := by
  match bytes with
  | [] => exact .inl rfl
  | [sync] =>
    by_cases hsync : sync ≠ 0xC5
    · exact .inr ⟨[], .skipping, if_pos hsync⟩
    · exact .inr ⟨[sync], s.port.rx.stage, if_neg hsync⟩
  | sync :: len :: body =>
    refine .inr ?_
    rw [takeBytes]
    split
    · exact ⟨_, _, rfl⟩
    split
    · exact ⟨_, _, rfl⟩
    split
    · exact ⟨_, _, rfl⟩
    split
    · exact ⟨_, _, rfl⟩
    · exact ⟨_, _, completeFrame_of_error h _ s⟩

theorem receiveBytes_of_error {bytes : List Byte} {e : RxFault} {s : State} (hidle : s.port.rx = ⟨[], .unclaimed⟩)
    (h : receive bytes = .error e) : receiveBytes bytes true s = s := by
  have hline : lineIdle s = s := setRx_self hidle
  rw [receiveBytes_of_idle hidle]
  obtain htake | ⟨taken, stage, htake⟩ := takeBytes_of_error h s
  · rw [htake, hline]
  · rw [htake, lineIdle_setRx, hline]

/-- Settles O9: each fault by the equation of `receive` for its cause; a faulty frame by `receiveBytes_of_error`. -/
theorem faultyFramesChangeNothing : Obligations.FaultyFramesChangeNothing := by
  refine ⟨fun _ rest => receive_orphan rest, rfl, fun _ rest => receive_long rest,
    fun _ _ hmin hmax => receive_short hmin hmax, fun _ _ _ => receive_covered_check, ?unchanged⟩
  case unchanged =>
    intro bytes e s hl hidle h
    rw [exec_linkFrameReceived, live_of_live hl, receiveBytes_of_error hidle h]

end Sys2Proof.Machine
end

section
/-! PROOFS. The ATTN output (R200): when it is asserted, that no grant of the Arbiter touches it, and that a pin reset and a
RESTART leave it deasserted. -/

namespace Sys2Proof.Machine

/-! ### The conditions of ATTN (R200) -/

theorem StationState.wantsAttention_iff (x : StationState) :
    x.wantsAttention = true ↔ x = .suspended ∨ x = .waitingFilm ∨ x = .waitingLabels := by
  cases x <;> decide

theorem attn_iff (s : State) : attn s = true ↔ Live s ∧
    ((∃ st : St, s.stations[st].state.wantsAttention = true) ∨ s.composer.attention = true
      ∨ s.capture.record.isSome = true) := by
  simp [attn, Live, or_assoc]

theorem attn_eq_false {s : State} (hst : ∀ st : St, s.stations[st].state.wantsAttention = false)
    (hprinter : s.composer.attention = false) (hfault : s.capture.record = none) : attn s = false := by
  rw [← Bool.not_eq_true, attn_iff]
  rintro ⟨-, ⟨st, h⟩ | h | h⟩
  · rw [hst] at h; cases h
  · rw [hprinter] at h; cases h
  · rw [hfault] at h; cases h

/-! ### What leaves ATTN as it is: the transmitter and the Arbiter (R149, R163, R177) -/

section
variable (s : State)

@[simp] theorem attn_startTransmit : attn (startTransmit s) = attn s := by
  obtain ⟨p, hp, -⟩ := startTransmit_port s
  rw [hp]; rfl

@[simp] theorem attn_answerForward (r : Record) : attn (answerForward r s) = attn s := attn_startTransmit _

@[simp] theorem attn_modDevice (i : Fin 16) (f : Device → Device) : attn (modDevice i f s) = attn s := rfl

@[simp] theorem attn_dropAsk (st : St) : attn (dropAsk st s) = attn s := rfl

@[simp] theorem attn_dropComposerAsk : attn (dropComposerAsk s) = attn s := rfl

@[simp] theorem attn_startOwn (r : Requester) (i : Fin 16) (kind : Byte) (payload : List Byte) (u : Purpose) :
    attn (startOwn r i kind payload u s) = attn s := by
  unfold startOwn
  split <;> rfl

/-- The PRINT that is counted changes the strips and their markers, not printer attention. -/
@[simp] theorem attn_countPrint (u : Purpose) : attn (countPrint u s) = attn s := by
  unfold countPrint
  split <;> rfl

theorem attn_grantForward : attn (grantForward s) = attn s := by
  unfold grantForward
  split
  · split
    · exact attn_answerForward ..
    · split
      · split
        · rfl
        · exact attn_answerForward ..
      · exact attn_answerForward ..
  · rfl
  · rfl

theorem attn_grantStation (st : St) : attn (grantStation st s) = attn s := by
  unfold grantStation
  split
  · split
    · rw [attn_startOwn, attn_dropAsk]
    · rfl
  · rfl

theorem attn_grantComposer : attn (grantComposer s) = attn s := by
  unfold grantComposer
  split
  · split
    · rw [attn_countPrint, attn_startOwn, attn_dropComposerAsk]
    · rfl
  · rfl

theorem attn_grantIdle : attn (grantIdle s) = attn s := by
  unfold grantIdle
  split
  · rfl
  split
  · rfl
  · dsimp only
    split <;> (rw [attn_startOwn, attn_modDevice]; rfl)

theorem attn_grantTo (r : Requester) : attn (grantTo r s) = attn s := by
  cases r with
  | forward => exact attn_grantForward _
  | station st => exact attn_grantStation _ st
  | composer => exact attn_grantComposer _
  | idlePoller => exact attn_grantIdle _

theorem attn_grantLoop (n : Nat) : attn (grantLoop n s) = attn s := by
  induction n generalizing s with
  | zero => rfl
  | succ n ih =>
    unfold grantLoop
    split
    · rfl
    split
    · rw [ih, attn_grantTo]
    · rfl

@[simp] theorem attn_arbitrate : attn (arbitrate s) = attn s := attn_grantLoop s 8

end

/-! ### A pin reset and a RESTART (R85, R175, R179, R199) -/

theorem exec_pinReset (a r b : Bool) (s : State) : exec (.pinReset a r b) s = execPinReset a r b s := rfl

theorem exec_restart (s : State) : exec .restart s = live s (restartHand s) := rfl

theorem restartHand_of_empty {s : State} {f : LinkFrame} (hi : InHandIs s f .manage) (hk : f.kind = kindRestart)
    (hp : f.payload = []) : restartHand s = arbitrate (startTransmit (restartBlocks f.tag s)) := by
  rw [restartHand, inHand?_of_inHandIs hi hk]
  exact if_pos hp

/-- After a RESTART a station is DISABLED or OFFLINE (R85). -/
theorem Station.restarted_wantsAttention (x : Station) : x.restarted.state.wantsAttention = false := by
  unfold Station.restarted
  split <;> rfl

theorem attn_restartBlocks (tag : Byte) (s : State) : attn (restartBlocks tag s) = false := by
  refine attn_eq_false (fun st => ?_) rfl rfl
  have hrestarted : (restartBlocks tag s).stations[st] = s.stations[st].restarted := by simp [restartBlocks]
  rw [hrestarted]
  exact Station.restarted_wantsAttention _

theorem execPinReset_attn (a r b : Bool) (s : State) : Completes (execPinReset a r b s) fun t => attn t = false := by
  refine ⟨_, rfl, attn_eq_false (fun st => ?_) rfl rfl⟩
  have hreset : State.reset.stations[st] = Station.reset := by simp [State.reset]
  exact congrArg (·.state.wantsAttention) hreset

/-- Settles O55: ATTN by its conditions, and the two resets by the state in which they leave every block. -/
theorem attnFollowsConditions : Obligations.AttnFollowsConditions := by
  refine ⟨fun s => ?conditions, fun a r b s => ?pinReset, fun s f h => ?restart⟩
  case conditions => simp only [attn_iff, StationState.wantsAttention_iff]
  case pinReset => rw [exec_pinReset]; exact execPinReset_attn a r b s
  case restart =>
    obtain ⟨hl, hi, hk, hp⟩ := h
    rw [exec_restart]
    refine completes_live hl ?_
    rw [restartHand_of_empty hi hk hp, attn_arbitrate, attn_startTransmit, attn_restartBlocks]

end Sys2Proof.Machine
end

section
/-! PROOFS. The whole machine: every command keeps what `Kept` says, but for the one change that is its own (`OwnChange`), and
each invariant (R2, R164, R170, R177, R162, R68, R197, and the ranges of the static tables) follows from that decomposition. -/

namespace Sys2Proof.Machine

/-! ### The change that is a command's own -/

/-- The one change that only the command makes. `s` is the state that the command finds, `u` and the last state those before and
after the change; what comes before and behind it is quiet. -/
inductive OwnChange (s u : State) : Instr → State → Prop where
  | pinReset (a r b : Bool) {v : State} (h : execPinReset a r b u = .next v) : OwnChange s u (.pinReset a r b) v
  | nresetLow : OwnChange s u .nresetLow { u with pins := { u.pins with nresetLow := true } }
  | holdLineAsserted (st : St) : OwnChange s u (.holdLineAsserted st) (setHold st true u)
  | holdLineReleased (st : St) : OwnChange s u (.holdLineReleased st) (setHold st false u)
  | linkFrameReceived (bytes : List Byte) (idle : Bool) (p : ConsolePort)
      (h : buffersInUse u ≤ 4 → buffersInUse { u with port := p } ≤ 4) :
      OwnChange s u (.linkFrameReceived bytes idle) { u with port := p }
  | stockTableWrite (i : Fin 8) (k : Option Stock) (h : ∀ x, k = some x → StockLegal x) :
      OwnChange s u .stockTableWrite (setStock i k u)
  | planTableWrite (i : Fin 8) (l : Option (List PlanStep)) (h : ∀ x, l = some x → PlanLegal x) :
      OwnChange s u .planTableWrite (setPlan i l u)
  | windowTableWrite (i : Fin 8) (w : Option Window) (h : ∀ x, w = some x → WindowLegal x) :
      OwnChange s u .windowTableWrite (setWindow i w u)
  | tariffTableWrite (i : Fin 8) (t : Option Tariff) (h : ∀ x, t = some x → TariffLegal x) :
      OwnChange s u .tariffTableWrite (setTariff i t u)
  | stationTableWrite (st : St) (b : Option Binding) (h : ∀ x, b = some x → BindingLegal x) :
      OwnChange s u .stationTableWrite (setBinding st b u)
  | accountTableWrite (i : Fin 32) (a : Option Account) : OwnChange s u .accountTableWrite (setAccount i a u)
  | templateTableWrite (i : Fin 4) (items : List Item) : OwnChange s u .templateTableWrite (setTemplate i items u)
  | standTextWrite (x : StandText) : OwnChange s u .standTextWrite (modComposer (fun c => { c with stand := x }) u)
  | enable (st : St) : OwnChange s u .enable (setEnabled st true u)
  | disable (st : St) : OwnChange s u .disable (setEnabled st false u)
  | expose (st : St) (q : Request) (h : u.stations[st].queue.length < 4) :
      OwnChange s u .expose (modStation st (fun x => { x with queue := x.queue ++ [q] }) u)
  | orderOpen (i : Fin 16) (o : Order) (h : s.orders[i] = none) :
      OwnChange s u .orderOpen { u with orders := u.orders.set i.val (some o) i.isLt }
  | faultRead : OwnChange s u .faultRead { u with capture := ⟨none, false, .none⟩ }
  | restart (tag : Byte) : OwnChange s u .restart (restartBlocks tag u)

/-- A command keeps everything, or everything but its own change. -/
def KeptButOwn (c : Instr) (s t : State) : Prop :=
  Kept s t ∨ ∃ u v, Kept s u ∧ OwnChange s u c v ∧ Kept v t

theorem KeptButOwn.of_live {c : Instr} {s t u : State} (h : live s u = .next t) (k : KeptButOwn c s u) :
    KeptButOwn c s t := by
  rcases live_eq h with rfl | rfl
  · exact .inl (.refl _)
  · exact k

/-! ### The frame in hand and its owner -/

theorem answerHand_kept {s : State} {f : LinkFrame} {c : Result} {data : List Byte} (hi : s.inHand.isSome = true) :
    Kept s (answerHand f c data s) := (answerHand_quiet hi (.refl s)).toKept

theorem answered_cases {s : State} {f : LinkFrame} {r : Except Result (State → State)} (hi : s.inHand.isSome = true) :
    Kept s (answered f r s)
      ∨ ∃ g, r = .ok g ∧ Kept s (answerHand f .done [] s) ∧ answered f r s = g (answerHand f .done [] s) := by
  cases r with
  | error code => exact .inl (answerHand_kept hi)
  | ok g => exact .inr ⟨g, rfl, answerHand_kept hi, rfl⟩

/-- A TABLE_WRITE keeps everything, or is accepted: answered DONE, and then the owner's change. -/
theorem tableWrite_cases (t : Table) (owner : Byte → List Byte → State → Except Result (State → State)) (s : State) :
    Kept s (tableWrite t owner s)
      ∨ ∃ f i rec g, owner i rec s = .ok g ∧ Kept s (answerHand f .done [] s)
        ∧ tableWrite t owner s = g (answerHand f .done [] s) := by
  unfold tableWrite
  split
  · exact .inl (.refl s)
  · next f hf =>
    have hi := inHand?_isSome hf
    split
    · next id i rec _ =>
      split
      · rcases answered_cases (f := f) (r := owner i rec s) hi with h | ⟨g, h⟩
        · exact .inl h
        · exact .inr ⟨f, i, rec, g, h⟩
      · split
        · exact .inl (.refl s)
        · exact .inl (answerHand_kept hi)
    · exact .inl (answerHand_kept hi)

theorem manage_cases (kind : Byte) (owner : LinkFrame → State → Except Result (State → State)) (s : State) :
    Kept s (manage kind owner s)
      ∨ ∃ f g, owner f s = .ok g ∧ Kept s (answerHand f .done [] s)
        ∧ manage kind owner s = g (answerHand f .done [] s) := by
  unfold manage
  split
  · next f hf =>
    rcases answered_cases (f := f) (r := owner f s) (inHand?_isSome hf) with h | ⟨g, h⟩
    · exact .inl h
    · exact .inr ⟨f, g, h⟩
  · exact .inl (.refl s)

theorem manageData_cases (kind : Byte) (owner : LinkFrame → State → Except Result (List Byte × (State → State)))
    (s : State) :
    Kept s (manageData kind owner s)
      ∨ ∃ f data g, owner f s = .ok (data, g) ∧ Kept s (answerHand f .done data s)
        ∧ manageData kind owner s = g (answerHand f .done data s) := by
  unfold manageData
  split
  · next f hf =>
    have hi := inHand?_isSome hf
    unfold answeredData
    split
    · exact .inl (answerHand_kept hi)
    · next data g he => exact .inr ⟨f, data, g, he, answerHand_kept hi, rfl⟩
  · exact .inl (.refl s)

theorem stationControl_cases (c : SubCommand) (owner : St → State → Except Result (State → State)) (s : State) :
    Kept s (stationControl c owner s)
      ∨ ∃ f st g, owner st s = .ok g ∧ Kept s (answerHand f .done [] s)
        ∧ stationControl c owner s = g (answerHand f .done [] s) := by
  unfold stationControl
  split
  · exact .inl (.refl s)
  · next f hf =>
    have hi := inHand?_isSome hf
    split
    · split
      · next st c' _ _ =>
        split
        · rcases answered_cases (f := f) (r := owner st s) hi with h | ⟨g, h⟩
          · exact .inl h
          · exact .inr ⟨f, st, g, h⟩
        · exact .inl (.refl s)
      · exact .inl (answerHand_kept hi)
    · exact .inl (answerHand_kept hi)

/-- A TABLE_READ only answers the frame in hand. -/
theorem tableRead_kept (t : Table) (record : Byte → Option (List Byte)) (s : State) : Kept s (tableRead t record s) := by
  unfold tableRead
  split
  · exact .refl s
  · next f hf =>
    have hi := inHand?_isSome hf
    split
    · split
      · split
        · exact answerHand_kept hi
        · split <;> exact answerHand_kept hi
      · split
        · exact .refl s
        · exact answerHand_kept hi
    · exact answerHand_kept hi

theorem statusRead_kept (b : Byte) (data : State → List Byte) (s : State) : Kept s (statusRead b data s) := by
  unfold statusRead
  split
  · exact .refl s
  · next f hf =>
    have hi := inHand?_isSome hf
    split
    · split
      · exact answerHand_kept hi
      · split
        · exact .refl s
        · exact answerHand_kept hi
    · exact answerHand_kept hi

/-! ### Accepted requests without a change of their own -/

theorem deviceTableWrite_kept (s : State) : Kept s (tableWrite .device writeDevice s) := by
  rcases tableWrite_cases .device writeDevice s with h | ⟨f, i, rec, g, hg, hk, e⟩
  · exact h
  · rw [e]
    have hq : ∀ u, Kept u (g u) := by
      intro u
      unfold writeDevice at hg
      repeat' split at hg
      all_goals cases hg
      all_goals first | exact .refl u | exact (replaceDevice_quiet (.refl u)).toKept
    exact hk.trans (hq _)

theorem orderTableWrite_kept (s : State) : Kept s (tableWrite .order writeOrder s) := by
  rcases tableWrite_cases .order writeOrder s with h | ⟨f, i, rec, g, hg, -⟩
  · exact h
  · cases hg

theorem orderClose_kept (s : State) : Kept s (manage kindOrderClose checkClose s) := by
  rcases manage_cases kindOrderClose checkClose s with h | ⟨f, g, hg, hk, e⟩
  · exact h
  · rw [e]
    refine hk.trans (Quiet.toKept ?_)
    unfold checkClose at hg
    split at hg
    · cases hg
    · split at hg
      · cases hg
      · cases hg
        exact tryFree_quiet (modOrder_quiet (fun _ => ⟨rfl, rfl⟩) (.refl _))

theorem orderCancel_kept (s : State) : Kept s (manage kindOrderCancel checkCancel s) := by
  rcases manage_cases kindOrderCancel checkCancel s with h | ⟨f, g, hg, hk, e⟩
  · exact h
  · rw [e]
    refine hk.trans (Quiet.toKept ?_)
    unfold checkCancel at hg
    split at hg
    · cases hg
    · split at hg
      · cases hg
      · obtain rfl := Except.ok.inj hg
        exact finish_quiet (tryFree_quiet (cancelAt_quiet (modOrder_quiet (fun _ => ⟨rfl, rfl⟩) (.refl _))))

theorem abort_kept (s : State) : Kept s (stationControl .abort checkAbort s) := by
  rcases stationControl_cases .abort checkAbort s with h | ⟨f, st, g, hg, hk, e⟩
  · exact h
  · rw [e]
    refine hk.trans (Quiet.toKept ?_)
    unfold checkAbort at hg
    split at hg
    · obtain rfl := Except.ok.inj hg; exact finish_quiet (applyAbort_quiet (.refl _))
    · cases hg

theorem unload_kept (s : State) : Kept s (stationControl .unload checkUnload s) := by
  rcases stationControl_cases .unload checkUnload s with h | ⟨f, st, g, hg, hk, e⟩
  · exact h
  · rw [e]
    refine hk.trans (Quiet.toKept ?_)
    unfold checkUnload at hg
    split at hg
    · split at hg
      · cases hg
      · obtain rfl := Except.ok.inj hg; exact finish_quiet (startUnload_quiet (modHead_quiet (.refl _)))
    · cases hg

theorem accountRead_kept (s : State) : Kept s (manageData kindAccountRead readAccount s) := by
  rcases manageData_cases kindAccountRead readAccount s with h | ⟨f, data, g, hg, hk, e⟩
  · exact h
  · rw [e]
    unfold readAccount at hg
    split at hg
    · cases hg
    · cases hg; exact hk

theorem accountClear_kept (s : State) : Kept s (manageData kindAccountClear clearAccount s) := by
  rcases manageData_cases kindAccountClear clearAccount s with h | ⟨f, data, g, hg, hk, e⟩
  · exact h
  · rw [e]
    refine hk.trans (Quiet.toKept ?_)
    unfold clearAccount at hg
    split at hg
    · cases hg
    · cases hg; exact modAccount_quiet (fun _ => ⟨rfl, rfl⟩) (.refl _)

/-- A barrier that is kept pending moves its owed place from the frame in hand to the deferred-reply slot (R132). -/
theorem printBarrier_kept (s : State) : Kept s (barrierHand s) := by
  unfold barrierHand
  split
  · exact .refl s
  · next f hf =>
    have hi := inHand?_isSome hf
    split
    · exact answerHand_kept hi
    · split
      · exact answerHand_kept hi
      · next hb =>
        split
        · exact answerHand_kept hi
        · have r := Kept.refl s
          refine ⟨r.statics, r.labels, r.accounts, r.orders, r.fault, r.queues, ?_, fun hp => ?_⟩
          · simp only [buffersInUse, modComposer_port]
            exact Nat.add_le_add_right (Nat.add_le_add_left (Nat.zero_le _) _) _
          · obtain ⟨howed, hplaces, hbarrier, hslot⟩ := hp
            have hd : s.deferred.isSome = false := by rw [hbarrier]; simpa using hb
            refine ⟨howed.trans ?_, hplaces, rfl, hslot⟩
            simp only [placesOwed, hi, hd, if_true, Option.isSome_none, Option.isSome_some, Bool.false_eq_true, if_false,
              Nat.add_comm 1, Nat.zero_add, Nat.add_zero]
            rfl

/-! ### The console side -/

/-- The transmitter has nothing more to send, and starts what comes next. -/
theorem restartTransmit_kept {s u : State} (h : Quiet s u) :
    Kept s (startTransmit { u with port := { u.port with sending := none } }) := by
  have h' : Quiet s { u with port := { u.port with sending := none } } := port_quiet ⟨rfl, rfl⟩ h
  exact (startTransmit_quiet h').toKept

theorem recordLeaves_quiet (s : State) : Quiet s (recordLeaves s) := by
  have h : Quiet s { s with port := { s.port with beforeBusy := s.port.beforeBusy - 1 } } := port_quiet ⟨rfl, rfl⟩ (.refl s)
  obtain ⟨hreserved, -, hplaces⟩ := servePlace_places { s.eq with records := s.eq.records.tail }
  refine eq_quiet (s := { s with port := { s.port with beforeBusy := s.port.beforeBusy - 1 } }) hreserved
    (fun hp => hplaces ?_) h
  have hp : s.eq.records.length + s.eq.reserved + s.eq.given.length ≤ 16 := hp
  simp only [List.length_tail]
  omega

theorem recordSent_kept (s : State) : Kept s (frameSent s) := by
  unfold frameSent
  split
  · exact .refl s
  · dsimp only
    split
    · exact restartTransmit_kept (recordLeaves_quiet s)
    · exact restartTransmit_kept (.refl s)

/-- A frame that is taken with a free place holds that place, in hand or as its answer (R164). -/
theorem takeFrame_kept {f : LinkFrame} {rest : List LinkFrame} {s : State} {q : EventQueue}
    (hpool : s.port.pool = f :: rest) (hn : s.inHand = none) (hres : q.reserved = s.eq.reserved)
    (hroom : PlacesKept s → q.records.length + q.reserved + q.given.length < 16) :
    Kept s (takeFrame f { s with eq := q }) := by
  have r := Kept.refl s
  unfold takeFrame
  dsimp only
  split
  · refine ⟨r.statics, r.labels, r.accounts, r.orders, r.fault, r.queues, ?_, fun hp => ?_⟩
    · simp [buffersInUse, hpool, hn]
    · have hroom := hroom hp
      obtain ⟨howed, -, hbarrier, hslot⟩ := hp
      refine ⟨?_, ?_, hbarrier, hslot⟩
      · have hempty : placesOwed s + 1 = placesOwed { s with inHand := some ⟨f, .held⟩ } := by
          simp [placesOwed, hn]; omega
        exact (congrArg (· + 1) (hres.trans howed)).trans hempty
      · show q.records.length + (q.reserved + 1) + q.given.length ≤ 16
        omega
  · next code _ =>
    have m : Kept s { s with
        port := { s.port with pool := s.port.pool.tail }
        eq := { q with reserved := q.reserved, records := q.records ++ [.result f.tag code []] } } := by
      refine ⟨r.statics, r.labels, r.accounts, r.orders, r.fault, r.queues, ?_, fun hp => ?_⟩
      · simp [buffersInUse, hpool, hn]
      · have hroom := hroom hp
        obtain ⟨howed, -, hbarrier, hslot⟩ := hp
        refine ⟨hres.trans howed, ?_, hbarrier, hslot⟩
        simp only [List.length_append, List.length_singleton, Config.queuePlaces]
        omega
    exact m.trans (startTransmit_quiet (.refl _)).toKept

theorem classify_kept (s : State) : Kept s (classify s) := by
  unfold classify
  split
  · next f rest hn hpool =>
    split
    · next hw =>
      refine takeFrame_kept hpool hn rfl fun hp => ?_
      obtain ⟨-, hplaces, -⟩ := hp
      have hgiven : s.eq.given ≠ [] := fun e => by rw [hasPlace, e] at hw; cases hw
      have hpos : 0 < s.eq.given.length := List.length_pos_iff.mpr hgiven
      simp only [List.length_tail, Config.queuePlaces] at hplaces ⊢
      omega
    · split
      · exact .refl s
      · split
        · next hp => exact takeFrame_kept hpool hn rfl fun _ => freePlaces_pos.mp hp
        · exact (addWaiter_quiet (.refl s)).toKept
  · exact .refl s

/-- The frame in hand enters the EMPTY slot with its owed place, or is answered in it (R168, R169). -/
theorem enterSlot_kept {s : State} {f : LinkFrame} {p : Path} (hi : s.inHand = some ⟨f, p⟩) (he : s.slot = .empty) :
    Kept s (enterSlot f { s with inHand := none }) := by
  have r := Kept.refl s
  have hbuffers : buffersInUse { s with inHand := none } ≤ buffersInUse s := by simp [buffersInUse, hi]
  have howes : placesOwed { s with inHand := none } + 1 = placesOwed s := by simp [placesOwed, hi, he]; omega
  have hidle : ∀ {q : Prop}, (∃ g, s.slot = .running g) → q := fun ⟨g, hg⟩ => by rw [he] at hg; cases hg
  unfold enterSlot
  split
  · refine ⟨r.statics, r.labels, r.accounts, r.orders, r.fault, r.queues, hbuffers, fun hp => ?_⟩
    obtain ⟨howed, hplaces, hbarrier, hslot⟩ := hp
    refine ⟨howed.trans ?_, hplaces, hbarrier, fun t ht hr hv => hidle (hslot t ht hr hv)⟩
    simp [placesOwed, hi, he]
  · have m : Kept s { s with
        inHand := none, slot := .empty
        eq := { s.eq with reserved := s.eq.reserved - 1, records := s.eq.records ++ [.result f.tag .deviceDown []] } } := by
      refine ⟨r.statics, r.labels, r.accounts, r.orders, r.fault, r.queues, hbuffers, fun hp => ?_⟩
      obtain ⟨howed, hplaces, hbarrier, hslot⟩ := hp
      refine ⟨?_, ?_, hbarrier, fun t ht hr hv => hidle (hslot t ht hr hv)⟩
      · show s.eq.reserved - 1 = placesOwed { s with inHand := none, slot := .empty }
        rw [show ({ s with inHand := none, slot := .empty } : State) = { s with inHand := none } by rw [← he]]
        omega
      · simp only [List.length_append, List.length_singleton, Config.queuePlaces] at hplaces ⊢
        omega
    exact m.trans (startTransmit_quiet (.refl _)).toKept

theorem hold_inHand_kept {s : State} {f : LinkFrame} {p q : Path} (hi : s.inHand = some ⟨f, p⟩) :
    Kept s { s with inHand := some ⟨f, q⟩ } := by
  have r := Kept.refl s
  refine ⟨r.statics, r.labels, r.accounts, r.orders, r.fault, r.queues, ?_, fun hp => ?_⟩
  · simp [buffersInUse, hi]
  · obtain ⟨howed, hplaces, hbarrier, hslot⟩ := hp
    exact ⟨howed.trans (by simp [placesOwed, hi]), hplaces, hbarrier, hslot⟩

theorem forwardHand_kept (s : State) : Kept s (forwardHand s) := by
  unfold forwardHand
  split
  · next f hi =>
    split
    · next he => exact (enterSlot_kept hi he).trans (finish_quiet (.refl _)).toKept
    · exact hold_inHand_kept hi
  · exact .refl s

theorem forwardHeld_kept (s : State) : Kept s (forwardHeld s) := by
  unfold forwardHeld
  split
  · next f hi =>
    split
    · next he => exact (enterSlot_kept hi he).trans (finish_quiet (.refl _)).toKept
    · exact .refl s
  · exact .refl s

/-! ### The receiver's buffers (R162) -/

/-- Only the Console Port changes, and no more than four buffers come into use. -/
def PortBounded (s t : State) : Prop := ∃ p, t = { s with port := p } ∧ (buffersInUse s ≤ 4 → buffersInUse t ≤ 4)

theorem PortBounded.trans {s t u : State} (h : PortBounded s t) (k : PortBounded t u) : PortBounded s u := by
  obtain ⟨p, rfl, hb⟩ := h
  obtain ⟨q, rfl, hc⟩ := k
  exact ⟨q, rfl, fun h => hc (hb h)⟩

theorem buffersInUse_eq (s : State) : buffersInUse s =
    s.port.pool.length + s.inHand.isSome.toNat + (decide (s.port.rx.stage = .buffered)).toNat := by
  unfold buffersInUse
  cases s.inHand.isSome <;> by_cases h : s.port.rx.stage = .buffered <;> simp [h]

/-- A stage that is no buffer's needs none. -/
theorem setRx_bounded {bytes : List Byte} {stage : RxStage} (s : State) (h : stage = .buffered → s.port.rx.stage = .buffered) :
    PortBounded s (setRx bytes stage s) := by
  refine ⟨_, rfl, fun hb => Nat.le_trans ?_ hb⟩
  unfold buffersInUse setRx
  by_cases hs : stage = .buffered
  · simp [hs, h hs]
  · simp [hs]

/-- A claimed buffer was claimed before, or was free. -/
theorem room_of_claimStage {s : State} (h : claimStage s = .buffered) (hb : buffersInUse s ≤ 4) :
    s.port.pool.length + s.inHand.isSome.toNat + 1 ≤ 4 := by
  rw [buffersInUse_eq] at hb
  unfold claimStage at h
  cases hs : s.port.rx.stage with
  | unclaimed =>
    simp only [hs] at h
    split at h
    · next hfree =>
      rw [buffersInUse_eq, hs] at hfree
      exact hfree
    · cases h
  | buffered => rwa [hs] at hb
  | holding => simp only [hs] at h; cases h
  | skipping => simp only [hs] at h; cases h

theorem setRx_claimStage_bounded (bytes : List Byte) (s : State) : PortBounded s (setRx bytes (claimStage s) s) := by
  by_cases h : claimStage s = .buffered
  · rw [h]
    refine ⟨_, rfl, fun hb => ?_⟩
    rw [buffersInUse_eq]
    exact room_of_claimStage (s := s) h hb
  · exact setRx_bounded s fun e => absurd e h

theorem startTransmit_bounded (s : State) : PortBounded s (startTransmit s) := by
  obtain ⟨p, hp, hrx, hpool, -⟩ := startTransmit_port s
  refine ⟨p, hp, fun hb => ?_⟩
  rw [hp]
  simpa [buffersInUse, hrx, hpool] using hb

theorem refuseBusy_bounded (f : LinkFrame) (s : State) : PortBounded s (refuseBusy f s) := by
  unfold refuseBusy
  split
  · exact ⟨s.port, rfl, id⟩
  · exact PortBounded.trans ⟨_, rfl, id⟩ (startTransmit_bounded _)

theorem completeFrame_bounded (bytes : List Byte) (s : State) : PortBounded s (completeFrame (claimStage s) bytes s) := by
  have hskip : ∀ u : State, PortBounded u (setRx [] .skipping u) := fun u => setRx_bounded u fun e => by cases e
  unfold completeFrame
  split
  · exact hskip s
  · split
    · next hclaim =>
      refine ⟨_, rfl, fun hb => ?_⟩
      have hroom := room_of_claimStage hclaim hb
      rw [buffersInUse_eq]
      simp only [setRx, List.length_append, List.length_singleton, reduceCtorEq, decide_false, Bool.toNat_false]
      omega
    · exact (hskip s).trans (refuseBusy_bounded _ _)

theorem takeBytes_bounded (bytes : List Byte) (s : State) : PortBounded s (takeBytes bytes s) := by
  have hskip : PortBounded s (setRx [] .skipping s) := setRx_bounded s fun e => by cases e
  have hstay : ∀ b, PortBounded s (setRx b s.port.rx.stage s) := fun b => setRx_bounded s id
  unfold takeBytes
  split
  · exact ⟨s.port, rfl, id⟩
  · split
    · exact hskip
    · split
      · exact hstay _
      · split
        · exact hskip
        · split
          · exact hstay _
          · split
            · exact setRx_claimStage_bounded _ s
            · exact completeFrame_bounded _ s

theorem receiveBytes_bounded (bytes : List Byte) (idle : Bool) (s : State) : PortBounded s (receiveBytes bytes idle s) := by
  have htake : PortBounded s (if s.port.rx.stage = .skipping then s else takeBytes (s.port.rx.bytes ++ bytes) s) := by
    split
    · exact ⟨s.port, rfl, id⟩
    · exact takeBytes_bounded _ s
  unfold receiveBytes
  dsimp only
  split
  · exact htake.trans (setRx_bounded _ fun e => by cases e)
  · exact htake

/-! ### The commands that have a change of their own -/

theorem parseStock_legal {bytes : List Byte} {k : Stock} (h : parseStock bytes = some (some k)) : StockLegal k := by
  unfold parseStock at h
  split at h
  · next code len t1 t2 br bg bb n1 n2 x1 x2 k1 k2 s1 s2 =>
    simp only [Option.some.injEq, Option.ite_none_right_eq_some] at h
    obtain ⟨hok, rfl⟩ := h
    simp only [Stock.ok, balanceOk, Bool.and_eq_true, decide_eq_true_eq] at hok
    obtain ⟨⟨⟨⟨⟨⟨⟨⟨⟨⟨⟨hcode, hlen⟩, hlen'⟩, htRef⟩, hr⟩, hg⟩, hb⟩, hmin⟩, hknee⟩, hmax⟩, hslope⟩, hslope'⟩ := hok
    have h16 : ∀ a b : Byte, rd16 a b ≤ 65535 := fun a b => by unfold rd16; omega
    exact ⟨hcode, by show code.toNat ≤ 255; omega, hlen, hlen', htRef, h16 _ _, hr, hg, hb, hmin, hknee, hmax, h16 _ _, hslope, hslope'⟩
  · cases h

theorem channelSet?_nonempty {b : Byte} {c : Rgb Bool} (h : channelSet? b = some c) : (c.r || c.g || c.b) = true := by
  revert c
  revert b
  decide

theorem planStep?_legal {p : Byte × Byte} {x : PlanStep} (h : planStep? p = some x) : StepLegal x := by
  unfold planStep? at h
  split at h
  · next hr =>
    rw [Option.map_eq_some_iff] at h
    obtain ⟨c, hc, rfl⟩ := h
    exact ⟨hr.1, hr.2, channelSet?_nonempty hc⟩
  · cases h

theorem parseSteps_length {bytes : List Byte} {l : List (Byte × Byte)} (h : parseSteps bytes = some l) :
    bytes.length = 2 * l.length := by
  induction bytes using parseSteps.induct generalizing l with
  | case1 => cases h; rfl
  | case2 o c rest ih =>
    rw [parseSteps, Option.map_eq_some_iff] at h
    obtain ⟨l', hl, rfl⟩ := h
    simp [ih hl]; omega
  | case3 => cases h

theorem mapM_cons_eq_some {α β : Type} {f : α → Option β} {a : α} {l : List α} {r : List β} :
    (a :: l).mapM f = some r ↔ ∃ b bs, f a = some b ∧ l.mapM f = some bs ∧ r = b :: bs := by
  rw [List.mapM_cons]
  simp only [bind, Option.bind_eq_some_iff, pure, Option.some.injEq]
  constructor
  · rintro ⟨b, hb, bs, hbs, rfl⟩; exact ⟨b, bs, hb, hbs, rfl⟩
  · rintro ⟨b, bs, hb, hbs, rfl⟩; exact ⟨b, hb, bs, hbs, rfl⟩

theorem mapM_length {α β : Type} {f : α → Option β} {l : List α} {r : List β} (h : l.mapM f = some r) :
    r.length = l.length := by
  induction l generalizing r with
  | nil => cases h; rfl
  | cons a l ih =>
    obtain ⟨b, bs, -, hbs, rfl⟩ := mapM_cons_eq_some.mp h
    rw [List.length_cons, List.length_cons, ih hbs]

theorem mem_of_mapM {α β : Type} {f : α → Option β} {l : List α} {r : List β} (h : l.mapM f = some r) {b : β} (hb : b ∈ r) :
    ∃ a, f a = some b := by
  induction l generalizing r with
  | nil => cases h; cases hb
  | cons a l ih =>
    obtain ⟨c, bs, hc, hbs, rfl⟩ := mapM_cons_eq_some.mp h
    rcases List.mem_cons.mp hb with rfl | hb
    · exact ⟨a, hc⟩
    · exact ih hbs hb

theorem parsePlan_legal {bytes : List Byte} {l : List PlanStep} (h : parsePlan bytes = some (some l)) : PlanLegal l := by
  unfold parsePlan at h
  split at h
  · next n rest =>
    split at h
    · next hn =>
      obtain ⟨hn1, hn7, hlen⟩ := hn
      rw [Option.map_eq_some_iff] at h
      obtain ⟨raw, hraw, h⟩ := h
      have hsteps := parseSteps_length hraw
      unfold planSteps? at h
      split at h
      · next steps hm =>
        simp only [Option.ite_none_right_eq_some, Option.some.injEq] at h
        obtain ⟨hnominal, rfl⟩ := h
        have hl := mapM_length hm
        refine ⟨by omega, by omega, fun x hx => ?_, hnominal⟩
        obtain ⟨r, hr⟩ := mem_of_mapM hm hx
        exact planStep?_legal hr
      · cases h
    · cases h
  · cases h

theorem parseWindow_legal {bytes : List Byte} {w : Window} (h : parseWindow bytes = some (some w)) : WindowLegal w := by
  unfold parseWindow at h
  split at h
  · rw [Option.some.injEq] at h
    split at h
    · split at h
      · next hbase => obtain rfl := Option.some.inj h; exact hbase
      · cases h
    · cases h
  · cases h

theorem rd16_le (a b : Byte) : rd16 a b ≤ 65535 := by unfold rd16; omega

theorem parseTariff_legal {bytes : List Byte} {t : Tariff} (h : parseTariff bytes = some t) : TariffLegal t := by
  unfold parseTariff at h
  split at h
  · obtain rfl := Option.some.inj h
    exact ⟨rd16_le _ _, rd16_le _ _, Nat.min_le_right _ _, rd16_le _ _⟩
  · cases h

theorem parseBinding_legal {bytes : List Byte} {b : Binding} (h : parseBinding bytes = some (some b)) : BindingLegal b := by
  unfold parseBinding at h
  split at h
  · simp only [Option.some.injEq, Option.ite_none_right_eq_some, Bool.and_eq_true, bne_iff_ne] at h
    obtain ⟨⟨⟨hc, hl⟩, hne⟩, rfl⟩ := h
    exact ⟨hc, hl, hne⟩
  · cases h

theorem none_legal {α : Type} {P : α → Prop} : ∀ x, (none : Option α) = some x → P x := fun _ h => nomatch h

theorem some_legal {α : Type} {P : α → Prop} {a : α} (h : P a) : ∀ x, some a = some x → P x := fun _ e =>
  Option.some.inj e ▸ h

theorem writeStock_ok {i : Byte} {rec : List Byte} {s : State} {g : State → State} (h : writeStock i rec s = .ok g) :
    ∃ j k, (∀ x, k = some x → StockLegal x) ∧ g = setStock j k := by
  unfold writeStock at h
  split at h
  · cases h
  · split at h
    · split at h
      · cases h
      · exact ⟨_, _, none_legal, (Except.ok.inj h).symm⟩
    · split at h
      · cases h
      · cases h
      · next hk =>
        split at h
        · cases h
        · split at h
          · cases h
          · exact ⟨_, _, some_legal (parseStock_legal hk), (Except.ok.inj h).symm⟩

theorem writePlan_ok {i : Byte} {rec : List Byte} {s : State} {g : State → State} (h : writePlan i rec s = .ok g) :
    ∃ j l, (∀ x, l = some x → PlanLegal x) ∧ g = setPlan j l := by
  unfold writePlan at h
  split at h
  · cases h
  · split at h
    · split at h
      · cases h
      · exact ⟨_, _, none_legal, (Except.ok.inj h).symm⟩
    · split at h
      · cases h
      · cases h
      · next hl =>
        split at h
        · cases h
        · exact ⟨_, _, some_legal (parsePlan_legal hl), (Except.ok.inj h).symm⟩

theorem writeWindow_ok {i : Byte} {rec : List Byte} {s : State} {g : State → State} (h : writeWindow i rec s = .ok g) :
    ∃ j w, (∀ x, w = some x → WindowLegal x) ∧ g = setWindow j w := by
  unfold writeWindow at h
  split at h
  · cases h
  · split at h
    · exact ⟨_, _, none_legal, (Except.ok.inj h).symm⟩
    · split at h
      · cases h
      · cases h
      · next hw => exact ⟨_, _, some_legal (parseWindow_legal hw), (Except.ok.inj h).symm⟩

theorem writeTariff_ok {i : Byte} {rec : List Byte} {s : State} {g : State → State} (h : writeTariff i rec s = .ok g) :
    ∃ j t, (∀ x, t = some x → TariffLegal x) ∧ g = setTariff j t := by
  unfold writeTariff at h
  split at h
  · cases h
  · split at h
    · split at h
      · cases h
      · exact ⟨_, _, none_legal, (Except.ok.inj h).symm⟩
    · split at h
      · cases h
      · next ht => exact ⟨_, _, some_legal (parseTariff_legal ht), (Except.ok.inj h).symm⟩

theorem writeStation_ok {i : Byte} {rec : List Byte} {s : State} {g : State → State} (h : writeStation i rec s = .ok g) :
    ∃ st b, (∀ x, b = some x → BindingLegal x) ∧ g = setBinding st b := by
  unfold writeStation at h
  split at h
  · cases h
  · split at h
    · split at h
      · cases h
      · exact ⟨_, _, none_legal, (Except.ok.inj h).symm⟩
    · split at h
      · cases h
      · next r hr =>
        split at h
        · cases h
        · split at h
          · cases h
          · split at h
            · cases h
            · exact ⟨_, _, some_legal (parseBinding_legal hr), (Except.ok.inj h).symm⟩

theorem writeAccount_ok {i : Byte} {rec : List Byte} {s : State} {g : State → State} (h : writeAccount i rec s = .ok g) :
    ∃ j a, g = setAccount j a := by
  unfold writeAccount at h
  repeat' split at h
  all_goals cases h
  all_goals exact ⟨_, _, rfl⟩

theorem writeTemplate_ok {i : Byte} {rec : List Byte} {s : State} {g : State → State} (h : writeTemplate i rec s = .ok g) :
    ∃ j items, g = setTemplate j items := by
  unfold writeTemplate at h
  repeat' split at h
  all_goals cases h
  exact ⟨_, _, rfl⟩

theorem writeStandText_ok {i : Byte} {rec : List Byte} {s : State} {g : State → State} (h : writeStandText i rec s = .ok g) :
    ∃ x, g = modComposer fun c => { c with stand := x } := by
  unfold writeStandText at h
  repeat' split at h
  all_goals cases h
  exact ⟨_, rfl⟩

/-- A TABLE_WRITE whose owner's changes are all its own. -/
theorem tableWrite_keptButOwn {c : Instr} {t : Table} {owner : Byte → List Byte → State → Except Result (State → State)}
    (ho : ∀ {i rec g s}, owner i rec s = .ok g → ∀ u, OwnChange s u c (g u)) (s : State) :
    KeptButOwn c s (tableWrite t owner s) := by
  rcases tableWrite_cases t owner s with h | ⟨f, i, rec, g, hg, hk, e⟩
  · exact .inl h
  · exact .inr ⟨_, _, hk, ho hg _, e ▸ .refl _⟩

theorem checkOpen_ok {payload : List Byte} {s : State} {g : State → State} (h : checkOpen payload s = .ok g) :
    ∃ i o, s.orders[(i : Fin 16)] = none ∧ g = placeOrder i o := by
  unfold checkOpen at h
  split at h
  · cases h
  · split at h
    · cases h
    · split at h
      · cases h
      · split at h
        · cases h
        · next i hi =>
          have hfree : s.orders[i] = none := by simpa using List.find?_some hi
          split at h
          · cases h
          · split at h
            · cases h
            · split at h
              · cases h
              · split at h
                · exact ⟨i, _, hfree, (Except.ok.inj h).symm⟩
                · cases h

theorem orderOpen_keptButOwn (s : State) :
    KeptButOwn .orderOpen s (manage kindOrderOpen (fun f s => checkOpen f.payload s) s) := by
  rcases manage_cases kindOrderOpen (fun f s => checkOpen f.payload s) s with h | ⟨f, g, hg, hk, e⟩
  · exact .inl h
  · obtain ⟨i, o, hfree, rfl⟩ := checkOpen_ok hg
    have hopen : Quiet (answerHand f .done [] s) (openAccount o.terms.account o.setupAmount (answerHand f .done [] s)) :=
      openAccount_quiet (.refl _)
    exact .inr ⟨_, _, hk.trans hopen.toKept, .orderOpen i o hfree, e ▸ .refl _⟩

theorem checkExpose_ok {f : LinkFrame} {s : State} {g : State → State} (h : checkExpose f s = .ok g) :
    ∃ st i q, s.stations[(st : St)].queue.length < 4 ∧ g = admitRequest st i q := by
  unfold checkExpose at h
  iterate 9 (split at h; · cases h)
  next hq => exact ⟨_, _, _, Nat.lt_of_not_le hq, (Except.ok.inj h).symm⟩

theorem expose_keptButOwn (s : State) : KeptButOwn .expose s (exposeHand s) := by
  unfold exposeHand
  split
  · next f hi =>
    have hi : s.inHand.isSome = true := by rw [hi]; rfl
    rcases answered_cases (f := f) (r := checkExpose f s) hi with h | ⟨g, hg, hk, e⟩
    · exact .inl h
    · obtain ⟨st, i, q, hq, rfl⟩ := checkExpose_ok hg
      refine .inr ⟨_, _, hk, .expose st q (Nat.lt_of_le_of_lt (hk.queues st) hq), e ▸ Quiet.toKept ?_⟩
      exact finish_quiet (modOrder_quiet (fun _ => ⟨rfl, rfl⟩) (.refl _))
  · exact .inl (.refl s)

theorem enable_keptButOwn (s : State) : KeptButOwn .enable s (stationControl .enable checkEnable s) := by
  rcases stationControl_cases .enable checkEnable s with h | ⟨f, st, g, hg, hk, e⟩
  · exact .inl h
  · have hg' : g = enableStation st := by
      unfold checkEnable at hg
      split at hg
      · cases hg
      · split at hg
        · cases hg
        · split at hg
          · split at hg
            · exact (Except.ok.inj hg).symm
            · cases hg
          · cases hg
    subst hg'
    refine .inr ⟨_, _, hk, .enable st, e ▸ Quiet.toKept ?_⟩
    refine finish_quiet ?_
    split
    · exact enterIdle_quiet (.refl _)
    · exact station_quiet (fun _ => rfl) (.refl _)

theorem disable_keptButOwn (s : State) : KeptButOwn .disable s (stationControl .disable checkDisable s) := by
  rcases stationControl_cases .disable checkDisable s with h | ⟨f, st, g, hg, hk, e⟩
  · exact .inl h
  · have hg' : g = disableStation st := by
      unfold checkDisable at hg
      split at hg
      · exact (Except.ok.inj hg).symm
      · cases hg
    subst hg'
    refine .inr ⟨_, _, hk, .disable st, e ▸ Quiet.toKept ?_⟩
    exact detach_quiet (dropAsk_quiet (station_quiet (fun _ => rfl) (.refl _)))

theorem faultRead_keptButOwn (s : State) : KeptButOwn .faultRead s (manageData kindFaultRead readFault s) := by
  rcases manageData_cases kindFaultRead readFault s with h | ⟨f, data, g, hg, hk, e⟩
  · exact .inl h
  · have hg' : g = emptyCapture := by
      unfold readFault at hg
      split at hg
      · exact (Prod.mk.inj (Except.ok.inj hg)).2.symm
      · cases hg
    subst hg'
    refine .inr ⟨_, _, hk, .faultRead, e ▸ Quiet.toKept ?_⟩
    unfold emptyCapture
    dsimp only
    split
    · exact withdrawWaiter_quiet (.refl _)
    · exact .refl _

theorem restart_keptButOwn (s : State) : KeptButOwn .restart s (restartHand s) := by
  unfold restartHand
  split
  · exact .inl (.refl s)
  · next f hf =>
    split
    · exact .inr ⟨s, _, .refl s, .restart f.tag, (arbitrate_quiet (startTransmit_quiet (.refl _))).toKept⟩
    · exact .inl (answerHand_kept (inHand?_isSome hf))

theorem holdReleased_quiet (st : St) (s : State) : Quiet s (holdReleased st s) := by
  unfold holdReleased
  dsimp only
  split
  · split
    · exact .refl s
    · exact finish_quiet (boundary_quiet (.refl s))
  · exact finish_quiet (station_quiet (fun _ => rfl) (.refl s))
  all_goals exact .refl s

theorem holdLineReleased_keptButOwn {st : St} {s t : State} (h : exec (.holdLineReleased st) s = .next t) :
    KeptButOwn (.holdLineReleased st) s t := by
  obtain rfl := Host.Outcome.next.inj h
  split
  · refine .inr ⟨s, _, .refl s, .holdLineReleased st, ?_⟩
    split
    · exact .refl _
    · exact (holdReleased_quiet st _).toKept
  · exact .inl (.refl s)

/-- Every command keeps everything, or everything but its own change. -/
theorem exec_keptButOwn {c : Instr} {s t : State} (h : exec c s = .next t) : KeptButOwn c s t := by
  cases c with
  | pinReset a r b => exact .inr ⟨s, t, .refl s, .pinReset a r b h, .refl t⟩
  | holdLineReleased st => exact holdLineReleased_keptButOwn h
  | holdLineAsserted st => exact .inr ⟨s, _, .refl s, .holdLineAsserted st, Host.Outcome.next.inj h ▸ .refl _⟩
  | nresetLow => exact .inr ⟨s, _, .refl s, .nresetLow, Host.Outcome.next.inj h ▸ .refl _⟩
  | linkFrameReceived bytes idle =>
    obtain ⟨p, hp, hb⟩ := receiveBytes_bounded bytes idle s
    exact .of_live h (.inr ⟨s, _, .refl s, .linkFrameReceived bytes idle p (hp ▸ hb), hp ▸ .refl _⟩)
  | recordSent => exact .of_live h (.inl (recordSent_kept s))
  | classifierTakesFrame => exact .of_live h (.inl (classify_kept s))
  | expose => exact .of_live h (expose_keptButOwn s)
  | forward => exact .of_live h (.inl (forwardHand_kept s))
  | forwardSlotEmptied => exact .of_live h (.inl (forwardHeld_kept s))
  | orderTableWrite => exact .of_live h (.inl (orderTableWrite_kept s))
  | deviceTableWrite => exact .of_live h (.inl (deviceTableWrite_kept s))
  | stationTableWrite =>
    refine .of_live h (tableWrite_keptButOwn (fun ho u => ?_) s)
    obtain ⟨st, b, hb, rfl⟩ := writeStation_ok ho
    exact .stationTableWrite st b hb
  | stockTableWrite =>
    refine .of_live h (tableWrite_keptButOwn (fun ho u => ?_) s)
    obtain ⟨i, k, hk, rfl⟩ := writeStock_ok ho
    exact .stockTableWrite i k hk
  | planTableWrite =>
    refine .of_live h (tableWrite_keptButOwn (fun ho u => ?_) s)
    obtain ⟨i, l, hl, rfl⟩ := writePlan_ok ho
    exact .planTableWrite i l hl
  | windowTableWrite =>
    refine .of_live h (tableWrite_keptButOwn (fun ho u => ?_) s)
    obtain ⟨i, w, hw, rfl⟩ := writeWindow_ok ho
    exact .windowTableWrite i w hw
  | tariffTableWrite =>
    refine .of_live h (tableWrite_keptButOwn (fun ho u => ?_) s)
    obtain ⟨i, x, hx, rfl⟩ := writeTariff_ok ho
    exact .tariffTableWrite i x hx
  | accountTableWrite =>
    refine .of_live h (tableWrite_keptButOwn (fun ho u => ?_) s)
    obtain ⟨i, a, rfl⟩ := writeAccount_ok ho
    exact .accountTableWrite i a
  | templateTableWrite =>
    refine .of_live h (tableWrite_keptButOwn (fun ho u => ?_) s)
    obtain ⟨i, items, rfl⟩ := writeTemplate_ok ho
    exact .templateTableWrite i items
  | standTextWrite =>
    refine .of_live h (tableWrite_keptButOwn (fun ho u => ?_) s)
    obtain ⟨x, rfl⟩ := writeStandText_ok ho
    exact .standTextWrite x
  | orderTableRead | deviceTableRead | stationTableRead | stockTableRead | planTableRead | windowTableRead
  | tariffTableRead | accountTableRead | templateTableRead | standTextRead =>
    exact .of_live h (.inl (tableRead_kept _ _ s))
  | orderOpen => exact .of_live h (orderOpen_keptButOwn s)
  | orderClose => exact .of_live h (.inl (orderClose_kept s))
  | orderCancel => exact .of_live h (.inl (orderCancel_kept s))
  | enable => exact .of_live h (enable_keptButOwn s)
  | disable => exact .of_live h (disable_keptButOwn s)
  | abort => exact .of_live h (.inl (abort_kept s))
  | unload => exact .of_live h (.inl (unload_kept s))
  | accountRead => exact .of_live h (.inl (accountRead_kept s))
  | accountClear => exact .of_live h (.inl (accountClear_kept s))
  | faultRead => exact .of_live h (faultRead_keptButOwn s)
  | printBarrier => exact .of_live h (.inl (printBarrier_kept s))
  | statusReadStand | statusReadDevicesLow | statusReadDevicesHigh => exact .of_live h (.inl (statusRead_kept _ _ s))
  | restart => exact .of_live h (restart_keptButOwn s)
  | readyReceived b => exact .inl (ring_kept (.inl ⟨b, by simp⟩) h)
  | ackReceived b => exact .inl (ring_kept (.inl ⟨b, by simp⟩) h)
  | waitReceived b => exact .inl (ring_kept (.inl ⟨b, by simp⟩) h)
  | nakReceived b => exact .inl (ring_kept (.inl ⟨b, by simp⟩) h)
  | statusReplyReceived b => exact .inl (ring_kept (.inl ⟨b, by simp⟩) h)
  | strayRingFrame b => exact .inl (ring_kept (.inl ⟨b, by simp⟩) h)
  | replyWindowExpired => exact .inl (ring_kept (.inr rfl) h)
  | waitGapExpired p => exact .inl (timer_quiet (.inl ⟨p, rfl⟩) h).toKept
  | idleTimerExpired i => exact .inl (timer_quiet (.inr (.inl ⟨i, by simp⟩)) h).toKept
  | wakeTimerExpired i => exact .inl (timer_quiet (.inr (.inl ⟨i, by simp⟩)) h).toKept
  | pollTimerExpired st => exact .inl (timer_quiet (.inr (.inr (.inl ⟨st, by simp⟩))) h).toKept
  | shotLimitExpired st => exact .inl (timer_quiet (.inr (.inr (.inl ⟨st, by simp⟩))) h).toKept
  | advanceLimitExpired st => exact .inl (timer_quiet (.inr (.inr (.inl ⟨st, by simp⟩))) h).toKept
  | rewindLimitExpired st => exact .inl (timer_quiet (.inr (.inr (.inl ⟨st, by simp⟩))) h).toKept
  | printPollTimerExpired => exact .inl (timer_quiet (by simp) h).toKept
  | printLimitExpired => exact .inl (timer_quiet (by simp) h).toKept
  | pendingPostQueued st => exact .inl (post_quiet (.inl ⟨st, by simp⟩) h).toKept
  | rollOpenQueued st => exact .inl (post_quiet (.inl ⟨st, by simp⟩) h).toKept
  | rollReportQueued st => exact .inl (post_quiet (.inl ⟨st, by simp⟩) h).toKept
  | orderSummaryQueued i => exact .inl (post_quiet (.inr (.inl ⟨i, rfl⟩)) h).toKept
  | stripPrintedQueued => exact .inl (post_quiet (by simp) h).toKept
  | deviceReportQueued => exact .inl (post_quiet (by simp) h).toKept
  | faultNoticeQueued => exact .inl (post_quiet (by simp) h).toKept

/-! ### The invariants -/

theorem Kept.tablesLegal {s t : State} (k : Kept s t) (h : TablesLegal s) : TablesLegal t := by
  obtain ⟨-, -, hstocks, hplans, hbindings, hwindows, htariffs⟩ := k.statics
  unfold TablesLegal
  rw [hstocks, hplans, hbindings, hwindows, htariffs]
  exact h

/-- A table with one entry set to a legal one is legal. -/
theorem set_legal {α : Type} {n : Nat} {P : α → Prop} {v : Vector (Option α) n} {i : Fin n} {x : Option α}
    (hx : ∀ a, x = some a → P a) (hv : ∀ (j : Fin n) a, v[j] = some a → P a) (j : Fin n) (a : α)
    (h : (v.set i.val x i.isLt)[j] = some a) : P a := by
  rw [set_get] at h
  split at h
  · exact hx a h
  · exact hv j a h

theorem upd_binding_legal {v : Vector StationEntry 4} {st : St} {f : StationEntry → StationEntry}
    (hf : ∀ e b, (f e).binding = some b → e.binding = some b ∨ BindingLegal b)
    (hv : ∀ (j : St) b, v[j].binding = some b → BindingLegal b) (j : St) (b : Binding)
    (h : (upd v st f)[j].binding = some b) : BindingLegal b := by
  rw [upd_get] at h
  split at h
  · exact (hf _ b h).elim (hv j b) id
  · exact hv j b h

theorem reset_tablesLegal : TablesLegal State.reset := by
  refine ⟨?_, ?_, ?_, ?_, ?_⟩ <;> intro i x hx <;> simp [State.reset] at hx

theorem OwnChange.tablesLegal {c : Instr} {s u v : State} (h : OwnChange s u c v) (hu : TablesLegal u) : TablesLegal v := by
  obtain ⟨hstocks, hplans, hwindows, htariffs, hbindings⟩ := id hu
  cases h with
  | pinReset a r b h => cases h; exact reset_tablesLegal
  | stockTableWrite i k h => exact ⟨set_legal h hstocks, hplans, hwindows, htariffs, hbindings⟩
  | planTableWrite i l h => exact ⟨hstocks, set_legal h hplans, hwindows, htariffs, hbindings⟩
  | windowTableWrite i w h => exact ⟨hstocks, hplans, set_legal h hwindows, htariffs, hbindings⟩
  | tariffTableWrite i t h => exact ⟨hstocks, hplans, hwindows, set_legal h htariffs, hbindings⟩
  | stationTableWrite st b h =>
    exact ⟨hstocks, hplans, hwindows, htariffs, upd_binding_legal (fun _ b hb => .inr (h b hb)) hbindings⟩
  | enable st | disable st =>
    exact ⟨hstocks, hplans, hwindows, htariffs, upd_binding_legal (fun _ b hb => .inl hb) hbindings⟩
  | _ => exact hu

/-- Settles O56: a write's record is legal where its owner accepts it, and nothing else touches the static tables. -/
theorem tablesStayLegal : Obligations.TablesStayLegal := by
  intro c s t hs h
  rcases exec_keptButOwn h with k | ⟨u, v, hsu, hown, hvt⟩
  · exact k.tablesLegal hs
  · exact hvt.tablesLegal (hown.tablesLegal (hsu.tablesLegal hs))

theorem reset_placesKept : PlacesKept State.reset := by
  refine ⟨rfl, by decide, rfl, fun t ht => by cases ht⟩

/-- A RESTART leaves no answer owed, and its own records alone in the Event Queue (R175, R176). -/
theorem restartBlocks_placesKept (tag : Byte) (s : State) : PlacesKept (restartBlocks tag s) := by
  refine ⟨rfl, ?_, rfl, fun t ht _ hv => ?_⟩
  · show (restartRecords s tag).length + 0 + 0 ≤ 16
    unfold restartRecords
    cases s.deferred <;> simp
  · change s.ring.engine.map (fun t => { t with void := true }) = some t at ht
    rw [Option.map_eq_some_iff] at ht
    obtain ⟨x, -, rfl⟩ := ht
    cases hv

theorem OwnChange.placesKept {c : Instr} {s u v : State} (h : OwnChange s u c v) (hu : PlacesKept u) : PlacesKept v := by
  cases h with
  | pinReset a r b h => cases h; exact reset_placesKept
  | restart tag => exact restartBlocks_placesKept tag u
  | _ => exact hu

/-- The end of a frame's sending keeps the requester and the void marker of its transaction. -/
theorem ringFrameSent_kept (s : State) : Kept s (ringFrameSent s) := by
  unfold ringFrameSent
  split
  · exact .refl s
  · exact (engineMap_quiet (f := Transaction.sent) (fun _ => ⟨rfl, rfl⟩) (.refl s)).toKept

/-- A step runs the front command on the queue's rest, or ends the sending of a ring frame. -/
theorem step_cases {s t : State} (h : step s = .next t) :
    Kept s t ∨ ∃ c rest, s.pending = c :: rest ∧ exec c { s with pending := rest } = .next t := by
  unfold step at h
  split at h
  · cases h; exact .inl (ringFrameSent_kept s)
  · next c rest hp => exact .inr ⟨c, rest, hp, h⟩

/-- Settles O57: what is quiet accounts for its places, and of the changes that commands have of their own only the two resets
touch the account, which they empty. -/
theorem placesStayAccounted : Obligations.PlacesStayAccounted := by
  intro s t hs h
  rcases step_cases h with k | ⟨c, rest, -, h⟩
  · exact k.places hs
  · have hs' : PlacesKept { s with pending := rest } := hs
    rcases exec_keptButOwn h with k | ⟨u, v, hsu, hown, hvt⟩
    · exact k.places hs'
    · exact hvt.places (hown.placesKept (hsu.places hs'))

theorem OwnChange.buffersKept {c : Instr} {s u v : State} (h : OwnChange s u c v) (hu : BuffersKept u) : BuffersKept v := by
  cases h with
  | pinReset a r b h => cases h; cases b <;> exact Nat.zero_le 4
  | linkFrameReceived bytes idle p h => exact h hu
  | restart tag =>
    refine Nat.le_trans ?_ hu
    rw [buffersInUse_eq, buffersInUse_eq]
    exact Nat.add_le_add_right (Nat.add_le_add_left (Nat.zero_le _) _) _
  | _ => exact hu

theorem reset_queuesKept : QueuesKept State.reset := by
  intro st
  have hreset : State.reset.stations[st] = Station.reset := by simp [State.reset]
  rw [hreset]
  decide

theorem OwnChange.queuesKept {c : Instr} {s u v : State} (h : OwnChange s u c v) (hu : QueuesKept u) : QueuesKept v := by
  cases h with
  | pinReset a r b h => cases h; exact reset_queuesKept
  | restart tag =>
    intro st
    have hrestarted : (restartBlocks tag u).stations[st] = u.stations[st].restarted := by simp [restartBlocks]
    rw [hrestarted]
    exact Nat.zero_le _
  | expose st q h =>
    intro j
    rw [modStation_stations, upd_get]
    split
    · next e =>
      subst e
      rw [List.length_append]
      exact h
    · exact hu j
  | _ => exact hu

/-- Settles O58: no quiet act takes a buffer or lengthens a queue; an arriving frame claims a free buffer alone, and an EXPOSE is
admitted to a queue of fewer than four. -/
theorem buffersAndQueuesStayBounded : Obligations.BuffersAndQueuesStayBounded := by
  intro s t h
  rcases step_cases h with k | ⟨c, rest, -, h⟩
  · exact ⟨Nat.le_trans k.buffers, fun hs st => Nat.le_trans (k.queues st) (hs st)⟩
  · rcases exec_keptButOwn h with k | ⟨u, v, hsu, hown, hvt⟩
    · exact ⟨Nat.le_trans k.buffers, fun hs st => Nat.le_trans (k.queues st) (hs st)⟩
    · exact ⟨fun hs => Nat.le_trans hvt.buffers (hown.buffersKept (Nat.le_trans hsu.buffers hs)),
        fun hs st => Nat.le_trans (hvt.queues st) (hown.queuesKept (fun j => Nat.le_trans (hsu.queues j) (hs j)) st)⟩

/-- Settles O59: every change that a command has of its own leaves the capture, but for those of the three excluded commands. -/
theorem firstFaultIsKept : Obligations.FirstFaultIsKept := by
  intro c s t x hx h hread hrestart hreset
  rcases exec_keptButOwn h with k | ⟨u, v, hsu, hown, hvt⟩
  · exact k.fault x hx
  · have hsame : v.capture = u.capture := by
      cases hown with
      | pinReset a r b _ => exact absurd rfl (hreset a r b)
      | faultRead => exact absurd rfl hread
      | restart tag => exact absurd rfl hrestart
      | _ => rfl
    obtain ⟨hu, hulost⟩ := hsu.fault x hx
    obtain ⟨ht, htlost⟩ := hvt.fault x (hsame ▸ hu)
    exact ⟨ht, fun hl => htlost (hsame ▸ hulost hl)⟩

theorem OwnChange.pending {c : Instr} {s u v : State} (h : OwnChange s u c v) : v.pending = u.pending := by
  cases h with
  | pinReset a r b h => cases h; rfl
  | _ => rfl

/-- Of the changes that commands have of their own, each static part is touched by its command's alone. -/
theorem OwnChange.statics {c : Instr} {s u v : State} (h : OwnChange s u c v) (hpin : ∀ a r b, c ≠ .pinReset a r b) :
    (v.pins.addrSel = u.pins.addrSel ∧ v.pins.consoleRate = u.pins.consoleRate)
      ∧ (c ≠ .stockTableWrite → v.stocks = u.stocks) ∧ (c ≠ .planTableWrite → v.plans = u.plans)
      ∧ (c ≠ .windowTableWrite → v.windows = u.windows) ∧ (c ≠ .tariffTableWrite → v.tariffs = u.tariffs)
      ∧ (c ≠ .stationTableWrite → c ≠ .enable → c ≠ .disable → v.bindings = u.bindings)
      ∧ (c ≠ .templateTableWrite → v.composer.templates = u.composer.templates)
      ∧ (c ≠ .standTextWrite → v.composer.stand = u.composer.stand) := by
  cases h with
  | pinReset a r b h => exact absurd rfl (hpin a r b)
  | stockTableWrite => exact ⟨⟨rfl, rfl⟩, fun k => absurd rfl k, fun _ => rfl, fun _ => rfl, fun _ => rfl, fun _ _ _ => rfl,
      fun _ => rfl, fun _ => rfl⟩
  | planTableWrite => exact ⟨⟨rfl, rfl⟩, fun _ => rfl, fun k => absurd rfl k, fun _ => rfl, fun _ => rfl, fun _ _ _ => rfl,
      fun _ => rfl, fun _ => rfl⟩
  | windowTableWrite => exact ⟨⟨rfl, rfl⟩, fun _ => rfl, fun _ => rfl, fun k => absurd rfl k, fun _ => rfl, fun _ _ _ => rfl,
      fun _ => rfl, fun _ => rfl⟩
  | tariffTableWrite => exact ⟨⟨rfl, rfl⟩, fun _ => rfl, fun _ => rfl, fun _ => rfl, fun k => absurd rfl k, fun _ _ _ => rfl,
      fun _ => rfl, fun _ => rfl⟩
  | stationTableWrite => exact ⟨⟨rfl, rfl⟩, fun _ => rfl, fun _ => rfl, fun _ => rfl, fun _ => rfl, fun k => absurd rfl k,
      fun _ => rfl, fun _ => rfl⟩
  | enable => exact ⟨⟨rfl, rfl⟩, fun _ => rfl, fun _ => rfl, fun _ => rfl, fun _ => rfl, fun _ k => absurd rfl k,
      fun _ => rfl, fun _ => rfl⟩
  | disable => exact ⟨⟨rfl, rfl⟩, fun _ => rfl, fun _ => rfl, fun _ => rfl, fun _ => rfl, fun _ _ k => absurd rfl k,
      fun _ => rfl, fun _ => rfl⟩
  | templateTableWrite => exact ⟨⟨rfl, rfl⟩, fun _ => rfl, fun _ => rfl, fun _ => rfl, fun _ => rfl, fun _ _ _ => rfl,
      fun k => absurd rfl k, fun _ => rfl⟩
  | standTextWrite => exact ⟨⟨rfl, rfl⟩, fun _ => rfl, fun _ => rfl, fun _ => rfl, fun _ => rfl, fun _ _ _ => rfl,
      fun _ => rfl, fun k => absurd rfl k⟩
  | _ => exact ⟨⟨rfl, rfl⟩, fun _ => rfl, fun _ => rfl, fun _ => rfl, fun _ => rfl, fun _ _ _ => rfl, fun _ => rfl, fun _ => rfl⟩

/-- A RESTART empties the holds and counts of the accounts, not their numbers and ceilings (R175). -/
theorem OwnChange.accounts {c : Instr} {s u v : State} (h : OwnChange s u c v) (hpin : ∀ a r b, c ≠ .pinReset a r b)
    (hacct : c ≠ .accountTableWrite) (j : Fin 32) :
    v.accounts[j].map (fun a => (a.number, a.ceiling)) = u.accounts[j].map fun a => (a.number, a.ceiling) := by
  cases h with
  | pinReset a r b h => exact absurd rfl (hpin a r b)
  | accountTableWrite => exact absurd rfl hacct
  | restart tag => simp [restartBlocks, Function.comp_def]
  | _ => rfl

/-- An order's entry is filled only where it was FREE, and else kept or freed. -/
theorem OwnChange.orders {c : Instr} {s u v : State} (h : OwnChange s u c v) (i : Fin 16) :
    v.orders[i] = none ∨ v.orders[i] = u.orders[i] ∨ s.orders[i] = none := by
  cases h with
  | pinReset a r b h => cases h; exact .inl (by simp [State.reset])
  | orderOpen k o h =>
    by_cases e : i = k
    · exact .inr (.inr (e ▸ h))
    · exact .inr (.inl (set_ne _ _ _ _ e))
  | restart tag => exact .inl (by simp [restartBlocks])
  | _ => exact .inr (.inl rfl)

theorem Kept.order_terms {s t : State} (k : Kept s t) (i : Fin 16) {o o' : Order} (ho : s.orders[i] = some o)
    (ho' : t.orders[i] = some o') : o'.terms = o.terms ∧ o'.cls = o.cls := by
  rcases k.orders i with hn | ⟨p, p', hp, hp', ht⟩
  · rw [hn] at ho'; cases ho'
  · cases hp.symm.trans ho; cases hp'.symm.trans ho'; exact ht

/-- Settles O60: quiet acts keep the static parts, and each change of a command's own touches its one part. -/
theorem staticStateIsKept : Obligations.StaticStateIsKept := by
  intro c s t h
  rcases exec_keptButOwn h with k | ⟨u, v, hsu, hown, hvt⟩
  · obtain ⟨hpins, hpending, hstocks, hplans, hbindings, hwindows, htariffs⟩ := k.statics
    exact ⟨hpending, fun _ => ⟨⟨congrArg Pins.addrSel hpins, congrArg Pins.consoleRate hpins⟩, fun _ => hstocks, fun _ => hplans,
      fun _ => hwindows, fun _ => htariffs, fun _ _ _ => hbindings, fun _ => k.labels.1, fun _ => k.labels.2,
      fun _ => k.accounts, fun i _ _ ho ho' => k.order_terms i ho ho'⟩⟩
  · obtain ⟨hpins, hpending, hstocks, hplans, hbindings, hwindows, htariffs⟩ := hsu.statics
    obtain ⟨hpins', hpending', hstocks', hplans', hbindings', hwindows', htariffs'⟩ := hvt.statics
    refine ⟨hpending'.trans (hown.pending.trans hpending), fun hpin => ?_⟩
    obtain ⟨⟨haddr, hrate⟩, hst, hpl, hwi, hta, hbi, htm, hsd⟩ := hown.statics hpin
    refine ⟨⟨?_, ?_⟩, fun n => hstocks'.trans ((hst n).trans hstocks), fun n => hplans'.trans ((hpl n).trans hplans),
      fun n => hwindows'.trans ((hwi n).trans hwindows), fun n => htariffs'.trans ((hta n).trans htariffs),
      fun a b d => hbindings'.trans ((hbi a b d).trans hbindings), fun n => hvt.labels.1.trans ((htm n).trans hsu.labels.1),
      fun n => hvt.labels.2.trans ((hsd n).trans hsu.labels.2),
      fun n j => (hvt.accounts j).trans ((hown.accounts hpin n j).trans (hsu.accounts j)), fun i o o' ho ho' => ?_⟩
    · rw [hpins', haddr, hpins]
    · rw [hpins', hrate, hpins]
    · rcases hvt.orders i with hn | ⟨p, p', hp, hp', ht, hc⟩
      · rw [hn] at ho'; cases ho'
      · cases hp'.symm.trans ho'
        rcases hown.orders i with hn | he | hn
        · rw [hn] at hp; cases hp
        · obtain ⟨ht', hc'⟩ := hsu.order_terms i ho (he.symm.trans hp)
          exact ⟨ht.trans ht', hc.trans hc'⟩
        · rw [hn] at ho; cases ho

end Sys2Proof.Machine
end

section
/-! PROOFS. Steps, resets and the console link: what a step and a pin reset leave (R144, R179, R180), the receiver as the inverse
of the wire layout (R160) that takes a frame in any pieces, the receive pool and the pending BUSY (R162, R163), and the
transmitter's next frame (R176, R177, R178). -/

namespace Sys2Proof.Machine

/-! ### Steps (R144) -/

theorem Transaction.sent_of_not_lt {t : Transaction} (h : ¬ t.opened < t.attempt) : t.sent = t := by
  rw [Transaction.sent, Nat.max_eq_left (Nat.le_of_not_lt h)]

theorem Transaction.sent_of_lt {t : Transaction} (h : t.opened < t.attempt) : t.sent = { t with opened := t.attempt } := by
  rw [Transaction.sent, Nat.max_eq_right (Nat.le_of_lt h)]

/-- What sends nothing on the ring has no sending to end. -/
theorem ringFrameSent_of_released {s : State} (h : rdir s = false) : ringFrameSent s = s := by
  have hnot : ¬ rdir s = true := by rw [h]; exact Bool.false_ne_true
  rw [rdir_iff] at hnot
  unfold ringFrameSent
  split
  · rfl
  · next hlive =>
    have hsent : s.ring.engine.map Transaction.sent = s.ring.engine := by
      cases he : s.ring.engine with
      | none => rfl
      | some t =>
        exact congrArg some (Transaction.sent_of_not_lt fun hlt => hnot ⟨Bool.eq_false_iff.mpr hlive, t, he, hlt⟩)
    rw [hsent]

theorem ringFrameSent_of_sending {s : State} {x : Transaction} (h : rdir s = true) (he : s.ring.engine = some x) :
    ringFrameSent s = { s with ring := { s.ring with engine := some { x with opened := x.attempt } } } := by
  obtain ⟨hlive, t, ht, hlt⟩ := (rdir_iff s).mp h
  cases ht.symm.trans he
  rw [ringFrameSent, hlive, if_neg Bool.false_ne_true, he, Option.map_some, Transaction.sent_of_lt hlt]

theorem step_of_empty {s : State} (h : s.pending = []) : step s = .next (ringFrameSent s) := by
  unfold step; split
  · rfl
  · next hc => rw [h] at hc; cases hc

/-- Settles O1. -/
theorem stepRunsFrontCommand : Obligations.StepRunsFrontCommand := by
  refine ⟨fun c rest s h => ?front, fun s h hr => ?idle, fun s x h hr he => ?sending⟩
  case front => rw [step, h]
  case idle => rw [step_of_empty h, ringFrameSent_of_released hr]
  case sending =>
    have hstep : step s = .next { s with ring := { s.ring with engine := some { x with opened := x.attempt } } } := by
      rw [step_of_empty h, ringFrameSent_of_sending hr he]
    refine ⟨hstep, _, hstep, ?_⟩
    simp [rdir, sendsOnRing, Transaction.isSending]

/-! ### Resets and nRESET (R179, R180) -/

theorem freeCount_of_all_free {c : Composer} (h : ∀ i : Fin 320, c.slots[i] = .free) : freeCount c = 320 := by
  have hall : freeSlots c = List.finRange 320 := List.filter_eq_self.mpr fun i _ => by rw [h i]; rfl
  rw [freeCount, hall, List.length_finRange]

/-- Settles O2. -/
theorem pinResetState : Obligations.PinResetState := by
  intro a r b s
  rw [exec_pinReset]
  obtain ⟨t, ht, hattn⟩ := execPinReset_attn a r b s
  refine ⟨t, ht, ?_⟩
  cases ht
  have hslots : ∀ i : Fin 320, State.reset.composer.slots[i] = .free := fun i => by simp [State.reset, Composer.reset]
  refine ⟨rfl, rfl, fun i => ?_, fun i => ?_, fun i => ?_, fun st => ?_, fun i => ?_, rfl, hslots, freeCount_of_all_free hslots,
    rfl, rfl, rfl, rfl, rfl, rfl, rfl, rfl, rfl, rfl, rfl, rfl, rfl, rfl, rfl, ?noAsk, rfl, rfl, rfl, rfl, rfl, rfl, rfl,
    rfl, rfl, rfl, rfl, rfl, rfl, hattn, rfl, rfl⟩
  case noAsk => exact ⟨nofun, fun st => by simp [State.reset, Ring.reset], rfl, fun i d hd => absurd hd (by simp [State.reset])⟩
  all_goals simp [State.reset, Station.reset, Suspension.clear, RollRec.reset, Composer.reset]

/-- Settles O3. -/
theorem resetMeetsInvariants : Obligations.ResetMeetsInvariants := by
  refine ⟨⟨rfl, reset_tablesLegal, reset_placesKept, Nat.zero_le 4, reset_queuesKept⟩, fun a r b s => ?_⟩
  refine ⟨_, rfl, rfl, reset_tablesLegal, reset_placesKept, ?_, reset_queuesKept⟩
  cases b <;> exact Nat.zero_le 4

/-- What is only live does nothing while nRESET is low. -/
theorem live_of_low {s : State} (h : s.pins.nresetLow = true) (t : State) : live s t = .next s := by rw [live, if_pos h]

theorem exec_nresetLow (s : State) : exec .nresetLow s = .next { s with pins := { s.pins with nresetLow := true } } := rfl

/-- Settles O4: the outputs are gated by the level, and every command but the pins' own runs under `live`. -/
theorem nresetLowTakesNothing : Obligations.NresetLowTakesNothing := by
  refine ⟨fun s => ⟨_, exec_nresetLow s, ?edge, rfl⟩, fun s h => ⟨?attn, ?ctx, ?rdir⟩, fun c s h hpin => ?takesNothing⟩
  case edge =>
    intro p hp
    cases p with
    | pins => exact absurd (List.mem_singleton_self _) hp
    | _ => rfl
  case attn => rw [attn, h]; rfl
  case ctx => rw [ctx, if_pos h]
  case rdir => rw [rdir, h]; rfl
  case takesNothing =>
    cases c with
    | pinReset a r b => cases hpin
    | nresetLow => cases hpin
    | holdLineAsserted st => cases hpin
    | holdLineReleased st => cases hpin
    | _ => exact live_of_low h _

/-! ### The receiver inverts the wire layout (R160) -/

/-- What stands between the length byte and the CRC, with its CRC, is taken as header and payload, whatever follows. -/
theorem receive_good {len dst src kind tag : Byte} {payload fields : List Byte} (hmin : 4 ≤ len.toNat) (hmax : len.toNat ≤ 60)
    (hfields : fields.length = len.toNat) (he : fields = dst :: src :: kind :: tag :: payload) (rest : List Byte) :
    receive (0xC5 :: len :: (fields ++ (be16 (crc16 (len :: fields)).toNat ++ rest))) = .ok ⟨dst, src, kind, tag, payload⟩ := by
  have hlen : ¬ (len.toNat < 4 ∨ 60 < len.toNat) := by omega
  have hlong : ¬ (fields ++ (be16 (crc16 (len :: fields)).toNat ++ rest)).length < len.toNat + 2 := by
    simp only [List.length_append, be16, List.length_cons, List.length_nil]; omega
  have htake : (fields ++ (be16 (crc16 (len :: fields)).toNat ++ rest)).take len.toNat = fields := List.take_left' hfields
  have hdrop : ((fields ++ (be16 (crc16 (len :: fields)).toNat ++ rest)).drop len.toNat).take 2
      = be16 (crc16 (len :: fields)).toNat := by
    rw [List.drop_left' hfields]; rfl
  rw [receive, if_neg (not_not_intro rfl)]
  simp only [if_neg hlen, if_neg hlong, htake, hdrop, not_true_eq_false, ne_eq, if_false]
  subst he; rfl

theorem receive_wire {f : LinkFrame} (h : f.payload.length ≤ 56) (rest : List Byte) : receive (f.wire ++ rest) = .ok f := by
  have hlen := toNat_lengthByte h
  have hfields : (f.dst :: f.src :: f.kind :: f.tag :: f.payload).length = (u8 (4 + f.payload.length)).toNat := by
    rw [hlen]; simp only [List.length_cons]; omega
  have hwire : f.wire ++ rest = 0xC5 :: u8 (4 + f.payload.length) :: ((f.dst :: f.src :: f.kind :: f.tag :: f.payload)
      ++ (be16 (crc16 (u8 (4 + f.payload.length) :: (f.dst :: f.src :: f.kind :: f.tag :: f.payload))).toNat ++ rest)) := by
    simp only [LinkFrame.wire, LinkFrame.covered, List.cons_append, List.nil_append, List.append_assoc]
  rw [hwire, receive_good (by omega) (by omega) hfields rfl]

/-- An accepted frame is complete: its length byte counts what stands up to the CRC. -/
theorem receive_ok {bytes : List Byte} {f : LinkFrame} (h : receive bytes = .ok f) :
    f.payload.length ≤ 56 ∧ ∃ rest, bytes = f.wire ++ rest := by
  unfold receive at h
  split at h
  · cases h
  · next sync tail =>
    split at h
    · cases h
    · next hsync =>
      split at h
      · cases h
      · next len body =>
        split at h
        · cases h
        · next hlen =>
          split at h
          · cases h
          · next hshort =>
            split at h
            · cases h
            · next hcrc =>
              split at h
              · next dst src kind tag payload hbody =>
                cases h
                have hcount : (body.take len.toNat).length = 4 + payload.length := by
                  rw [hbody]; simp only [List.length_cons]; omega
                rw [List.length_take] at hcount
                have hnum : len.toNat = 4 + payload.length := by omega
                refine ⟨by show payload.length ≤ 56; omega, (body.drop len.toNat).drop 2, ?_⟩
                have hbyte : len = u8 (4 + payload.length) := BitVec.eq_of_toNat_eq (by rw [toNat_u8]; omega)
                have hsplit : body = body.take len.toNat ++ ((body.drop len.toNat).take 2 ++ (body.drop len.toNat).drop 2) := by
                  rw [List.take_append_drop, List.take_append_drop]
                rw [Decidable.not_not] at hsync hcrc
                rw [hcrc, hbody] at hsplit
                rw [LinkFrame.wire, LinkFrame.covered, ← hbyte, hsync]
                simp only [List.cons_append, List.nil_append, List.append_assoc]
                exact congrArg (fun l => 0xC5 :: len :: l) (hsplit.trans (by simp only [List.cons_append]))
              · cases h

/-- Settles O7. -/
theorem receiveInvertsWire : Obligations.ReceiveInvertsWire := by
  refine fun bytes f => ⟨receive_ok, ?_⟩
  rintro ⟨h, rest, rfl⟩
  exact receive_wire h rest

theorem receive_append {len : Byte} {body : List Byte} (sync : Byte) (h : len.toNat + 2 ≤ body.length) (rest : List Byte) :
    receive (sync :: len :: (body ++ rest)) = receive (sync :: len :: body) := by
  have htake : (body ++ rest).take len.toNat = body.take len.toNat := List.take_append_of_le_length (by omega)
  have hdrop : ((body ++ rest).drop len.toNat).take 2 = (body.drop len.toNat).take 2 := by
    rw [List.drop_append_of_le_length (by omega), List.take_append_of_le_length (by rw [List.length_drop]; omega)]
  have hlong : ¬ (body ++ rest).length < len.toNat + 2 := by rw [List.length_append]; omega
  have hlong' : ¬ body.length < len.toNat + 2 := by omega
  simp only [receive, htake, hdrop, if_neg hlong, if_neg hlong']

/-! ### A frame in pieces (R160 to R163) -/

@[simp] theorem setRx_setRx (b b' : List Byte) (x x' : RxStage) (s : State) : setRx b x (setRx b' x' s) = setRx b x s := rfl

@[simp] theorem setRx_rx (b : List Byte) (x : RxStage) (s : State) : (setRx b x s).port.rx = ⟨b, x⟩ := rfl

/-- A stage that has claimed a buffer or the holding stage keeps what it claimed. -/
theorem claimStage_setRx_claimed (b : List Byte) (s : State) : claimStage (setRx b (claimStage s) s) = claimStage s := by
  cases h : s.port.rx.stage with
  | unclaimed =>
    by_cases hfree : buffersInUse s < Config.poolSize <;> simp [claimStage, h, hfree]
  | _ => simp [claimStage, h]

theorem claimStage_ne_skipping {s : State} (h : s.port.rx.stage ≠ .skipping) : claimStage s ≠ .skipping := by
  unfold claimStage
  split
  · split <;> decide
  · decide
  · decide
  · next hs => exact absurd hs h

/-- The receiver after the bytes `bytes`, whose own record of them is overwritten: what it makes of `bytes` needs the stage
alone. -/
theorem takeBytes_setRx {bytes : List Byte} (hne : bytes ≠ []) (b : List Byte) {x : RxStage} (s : State)
    (hx : x = s.port.rx.stage ∨ x = claimStage s ∧ 6 ≤ bytes.length) :
    takeBytes bytes (setRx b x s) = takeBytes bytes s := by
  have hclaim : claimStage (setRx b x s) = claimStage s := by
    rcases hx with rfl | ⟨rfl, -⟩
    · rfl
    · exact claimStage_setRx_claimed b s
  have hcomplete : ∀ y, completeFrame y bytes (setRx b x s) = completeFrame y bytes s := by
    intro y; unfold completeFrame; split <;> rfl
  match bytes, hne with
  | [sync], _ =>
    rcases hx with rfl | ⟨-, h6⟩
    · rfl
    · exact absurd h6 (Nat.not_succ_le_zero _ ∘ Nat.le_of_succ_le_succ)
  | sync :: len :: body, _ =>
    unfold takeBytes
    simp only [hclaim, hcomplete, setRx_setRx, setRx_rx]
    by_cases hshort : (sync :: len :: body).length < 6
    · rcases hx with rfl | ⟨-, h6⟩
      · rfl
      · omega
    · simp only [if_neg hshort]

theorem startTransmit_rx (s : State) : (startTransmit s).port.rx = s.port.rx := by
  obtain ⟨p, hp, hrx, -⟩ := startTransmit_port s
  rw [hp]; exact hrx

/-- A frame that was complete, faulty from its first bytes, or dropped leaves a receiver that discards up to the next idle. -/
theorem completeFrame_stage (y : RxStage) (bytes : List Byte) (s : State) :
    (completeFrame y bytes s).port.rx.stage = .skipping := by
  unfold completeFrame
  split
  · rfl
  · split
    · rfl
    · unfold refuseBusy
      split
      · rfl
      · rw [startTransmit_rx]; rfl

theorem completeFrame_append {len : Byte} {body : List Byte} (sync : Byte) (h : len.toNat + 2 ≤ body.length) (rest : List Byte)
    (y : RxStage) (s : State) :
    completeFrame y (sync :: len :: (body ++ rest)) s = completeFrame y (sync :: len :: body) s := by
  rw [completeFrame, receive_append sync h rest, completeFrame]

/-- The bytes of one piece, unless the receiver discards them. -/
def takePiece (x : List Byte) (s : State) : State := if s.port.rx.stage = .skipping then s else takeBytes (s.port.rx.bytes ++ x) s

theorem receiveBytes_eq (bytes : List Byte) (idle : Bool) (s : State) :
    receiveBytes bytes idle s = if idle then lineIdle (takePiece bytes s) else takePiece bytes s := rfl

theorem takePiece_of_skipping {s : State} (h : s.port.rx.stage = .skipping) (x : List Byte) : takePiece x s = s := if_pos h

theorem takePiece_of_taking {s : State} (h : s.port.rx.stage ≠ .skipping) (x : List Byte) :
    takePiece x s = takeBytes (s.port.rx.bytes ++ x) s := if_neg h

theorem takeBytes_wrongSync {sync : Byte} (h : sync ≠ 0xC5) (rest : List Byte) (s : State) :
    takeBytes (sync :: rest) s = setRx [] .skipping s := by
  unfold takeBytes; exact if_pos h

/-- The two ways in which the receiver goes on after a piece: it discards, and the longer sequence would have left it so too; or it
has recorded the bytes, with a stage that the longer sequence would find as well. -/
theorem takeBytes_cases (bytes : List Byte) (s : State) (hs : s.port.rx.stage ≠ .skipping) :
    ((takeBytes bytes s).port.rx.stage = .skipping ∧ ∀ rest, takeBytes (bytes ++ rest) s = takeBytes bytes s)
      ∨ bytes = [] ∨ bytes ≠ [] ∧ ∃ x, takeBytes bytes s = setRx bytes x s ∧ x ≠ .skipping
          ∧ (x = s.port.rx.stage ∨ x = claimStage s ∧ 6 ≤ bytes.length) := by
  match bytes with
  | [] => exact .inr (.inl rfl)
  | [sync] =>
    by_cases hsync : sync ≠ 0xC5
    · exact .inl ⟨by rw [takeBytes_wrongSync hsync]; rfl, fun rest => by
        rw [takeBytes_wrongSync hsync, List.cons_append, takeBytes_wrongSync hsync]⟩
    · exact .inr (.inr ⟨List.cons_ne_nil _ _, _, if_neg hsync, hs, .inl rfl⟩)
  | sync :: len :: body =>
    by_cases hsync : sync ≠ 0xC5
    · exact .inl ⟨by rw [takeBytes_wrongSync hsync]; rfl, fun rest => by
        rw [takeBytes_wrongSync hsync, List.cons_append, takeBytes_wrongSync hsync]⟩
    by_cases hlong : len.toNat < 4 ∨ 60 < len.toNat
    · exact .inl ⟨by rw [takeBytes, if_neg hsync]; simp only [if_pos hlong]; rfl, fun rest => by
        simp only [takeBytes, List.cons_append, if_neg hsync, if_pos hlong]⟩
    by_cases h6 : (sync :: len :: body).length < 6
    · exact .inr (.inr ⟨List.cons_ne_nil _ _, _, by rw [takeBytes, if_neg hsync]; simp only [if_neg hlong, if_pos h6], hs, .inl rfl⟩)
    by_cases hwhole : (sync :: len :: body).length < len.toNat + 4
    · exact .inr (.inr ⟨List.cons_ne_nil _ _, _, by rw [takeBytes, if_neg hsync]; simp only [if_neg hlong, if_neg h6, if_pos hwhole],
        claimStage_ne_skipping hs, .inr ⟨rfl, Nat.le_of_not_lt h6⟩⟩)
    have htaken : takeBytes (sync :: len :: body) s = completeFrame (claimStage s) (sync :: len :: body) s := by
      rw [takeBytes, if_neg hsync]; simp only [if_neg hlong, if_neg h6, if_neg hwhole]
    refine .inl ⟨by rw [htaken]; exact completeFrame_stage _ _ s, fun rest => ?_⟩
    have h6' : ¬ (sync :: len :: (body ++ rest)).length < 6 := by
      simp only [List.length_cons, List.length_append] at h6 ⊢; omega
    have hwhole' : ¬ (sync :: len :: (body ++ rest)).length < len.toNat + 4 := by
      simp only [List.length_cons, List.length_append] at hwhole ⊢; omega
    have hbody : len.toNat + 2 ≤ body.length := by simp only [List.length_cons] at hwhole; omega
    rw [htaken, List.cons_append, List.cons_append, takeBytes, if_neg hsync]
    simp only [if_neg hlong, if_neg h6', if_neg hwhole']
    exact completeFrame_append sync hbody rest _ s

theorem takePiece_takePiece (a b : List Byte) (s : State) : takePiece b (takePiece a s) = takePiece (a ++ b) s := by
  by_cases hs : s.port.rx.stage = .skipping
  · rw [takePiece_of_skipping hs, takePiece_of_skipping hs, takePiece_of_skipping hs]
  rw [takePiece_of_taking hs a, takePiece_of_taking hs (a ++ b), ← List.append_assoc]
  rcases takeBytes_cases (s.port.rx.bytes ++ a) s hs with ⟨hskip, hrest⟩ | hnil | ⟨hne, x, htaken, hx, hstage⟩
  · rw [takePiece_of_skipping hskip, hrest]
  · obtain ⟨hbytes, -⟩ := List.append_eq_nil_iff.mp hnil
    rw [hnil]
    show takePiece b s = _
    rw [takePiece_of_taking hs, hbytes]
  · rw [htaken, takePiece_of_taking (by exact hx), setRx_rx]
    refine takeBytes_setRx (List.append_ne_nil_of_left_ne_nil hne b) _ s (hstage.imp_right fun h => ⟨h.1, Nat.le_trans h.2 ?_⟩)
    rw [List.length_append (as := s.port.rx.bytes ++ a)]
    exact Nat.le_add_right _ _

theorem takePiece_live {s : State} (h : Live s) (x : List Byte) : Live (takePiece x s) := by
  have hport : PortBounded s (takePiece x s) := receiveBytes_bounded x false s
  obtain ⟨p, hp, -⟩ := hport
  rw [hp]; exact h

/-- Settles O10. -/
theorem framePiecesJoin : Obligations.FramePiecesJoin := by
  intro a b idle s hl
  refine ⟨takePiece a s, live_of_live hl _, ?_⟩
  have hb : exec (.linkFrameReceived b idle) (takePiece a s) = .next (receiveBytes b idle (takePiece a s)) :=
    live_of_live (takePiece_live hl a) _
  have hab : exec (.linkFrameReceived (a ++ b) idle) s = .next (receiveBytes (a ++ b) idle s) := live_of_live hl _
  exact hb.trans (Eq.trans (by rw [receiveBytes_eq, receiveBytes_eq, takePiece_takePiece]) hab.symm)

/-! ### The receive pool and the pending BUSY (R162, R163) -/

/-- A whole frame on a line that was idle is checked with the stage that its tag byte claims. -/
theorem receiveBytes_wire {f : LinkFrame} {s : State} (hidle : s.port.rx = ⟨[], .unclaimed⟩) (h : f.payload.length ≤ 56)
    (rest : List Byte) :
    receiveBytes (f.wire ++ rest) true s =
      lineIdle (if buffersInUse s < 4 then setRx [] .skipping { s with port := { s.port with pool := s.port.pool ++ [f] } }
        else refuseBusy f (setRx [] .skipping s)) := by
  have hlen := toNat_lengthByte h
  have hlong : ¬ ((u8 (4 + f.payload.length)).toNat < 4 ∨ 60 < (u8 (4 + f.payload.length)).toNat) := by omega
  have hbytes : (f.wire ++ rest).length = 8 + f.payload.length + rest.length := by
    simp only [LinkFrame.wire, LinkFrame.covered, be16, List.length_append, List.length_cons, List.length_nil]; omega
  have h6 : ¬ (f.wire ++ rest).length < 6 := by omega
  have hwhole : ¬ (f.wire ++ rest).length < (u8 (4 + f.payload.length)).toNat + 4 := by omega
  have hstage : claimStage s = if buffersInUse s < 4 then .buffered else .holding := by rw [claimStage, hidle]; rfl
  have htaken : takeBytes (f.wire ++ rest) s = completeFrame (claimStage s) (f.wire ++ rest) s := by
    have hwire : f.wire ++ rest = 0xC5 :: u8 (4 + f.payload.length) :: ((f.dst :: f.src :: f.kind :: f.tag :: f.payload)
        ++ be16 (crc16 f.covered).toNat ++ rest) := by
      simp only [LinkFrame.wire, LinkFrame.covered, List.cons_append, List.nil_append, List.append_assoc]
    rw [hwire] at h6 hwhole ⊢
    rw [takeBytes, if_neg (not_not_intro rfl)]
    simp only [if_neg hlong, if_neg h6, if_neg hwhole]
  rw [receiveBytes_of_idle hidle, htaken, completeFrame, receive_wire h]
  dsimp only
  rw [hstage]
  by_cases hfree : buffersInUse s < 4
  · simp only [if_pos hfree, if_true]
  · simp only [if_neg hfree, reduceCtorEq, if_false]

/-- A receiver that was idle is idle again. -/
theorem lineIdle_setRx_of_idle {s : State} (hidle : s.port.rx = ⟨[], .unclaimed⟩) (b : List Byte) (x : RxStage) :
    lineIdle (setRx b x s) = s := by
  rw [lineIdle_setRx]; exact setRx_self hidle

section
variable {s : State}

/-- An idle transmitter sends the pending BUSY, unless records that a RESTART left stand before it (R163, R176). -/
theorem startTransmit_busy {b : Byte × Byte} (hidle : s.port.sending = none) (hbusy : s.port.busy = some b)
    (h : s.port.beforeBusy = 0 ∨ s.eq.records = []) :
    startTransmit s = { s with port := { s.port with sending := some ⟨busyFrame s b, false⟩, busy := none } } := by
  rw [startTransmit, hidle, hbusy]; exact if_pos h

theorem startTransmit_beforeBusy {b : Byte × Byte} (hidle : s.port.sending = none) (hbusy : s.port.busy = some b)
    (h0 : s.port.beforeBusy ≠ 0) (hr : s.eq.records ≠ []) :
    startTransmit s = { s with port := { s.port with
      sending := s.eq.records.head?.map fun r => ⟨r.frame (ownAddress s.pins), true⟩ } } := by
  rw [startTransmit, hidle, hbusy]; exact if_neg (by simp [h0, hr])

theorem startTransmit_record (hidle : s.port.sending = none) (hbusy : s.port.busy = none) :
    startTransmit s = { s with port := { s.port with
      sending := s.eq.records.head?.map fun r => ⟨r.frame (ownAddress s.pins), true⟩ } } := by
  rw [startTransmit, hidle, hbusy]

theorem startTransmit_of_sending (h : s.port.sending.isSome = true) : startTransmit s = s := by
  obtain ⟨x, hx⟩ := Option.isSome_iff_exists.mp h
  rw [startTransmit, hx]

end

/-- Settles O8. -/
theorem frameReception : Obligations.FrameReception := by
  intro f rest s hl hidle h
  rw [exec_linkFrameReceived, live_of_live hl, receiveBytes_wire hidle h]
  refine ⟨fun hfree => ?_, fun hfull hbusy => ?_, fun hfull hbusy hsending => ?_, fun hfull hbusy hsending h0 => ?_⟩
  · rw [if_pos hfree]
    exact congrArg _ (lineIdle_setRx_of_idle (s := { s with port := { s.port with pool := s.port.pool ++ [f] } }) hidle _ _)
  all_goals
    rw [if_neg (Nat.not_lt.mpr hfull), refuseBusy, show (setRx [] .skipping s).port.busy = s.port.busy from rfl]
  · obtain ⟨b, hb⟩ := Option.isSome_iff_exists.mp hbusy
    rw [hb]
    exact congrArg _ (lineIdle_setRx_of_idle hidle _ _)
  · rw [hbusy]
    dsimp only
    rw [startTransmit_of_sending (by exact hsending)]
    exact congrArg _ (lineIdle_setRx_of_idle (s := { s with port := { s.port with busy := some (f.tag, f.kind) } }) hidle _ _)
  · rw [hbusy]
    dsimp only
    rw [startTransmit_busy (b := (f.tag, f.kind)) (by exact hsending) (by rfl) (.inl (by exact h0))]
    simp only [lineIdle, setRx, ← hidle, hbusy]
    rfl

/-! ### The transmitter's next frame (R163, R176, R177, R178) -/

theorem exec_recordSent (s : State) : exec .recordSent s = live s (frameSent s) := rfl

theorem servePlace_of_no_waiter {q : EventQueue} (h : q.waiters = []) : servePlace q = q := by rw [servePlace, h]

theorem servePlace_of_waiter {q : EventQueue} {w : Waiter} {ws : List Waiter} (h : q.waiters = w :: ws)
    (hfree : 0 < freePlaces q) : servePlace q = { q with given := q.given ++ [w], waiters := ws } := by
  rw [servePlace, h]; exact if_pos hfree

/-- The queue and the records that stand before a BUSY, once the frame being sent has been sent. -/
def sentFrame (x : Sending) (s : State) : State := if x.holdsPlace then recordLeaves s else s

/-- All that a finished frame changes before the next is chosen is the Event Queue and the count of records before a BUSY. -/
theorem sentFrame_eq (x : Sending) (s : State) : ∃ q, sentFrame x s = { s with
      eq := q, port := { s.port with beforeBusy := s.port.beforeBusy - if x.holdsPlace then 1 else 0 } }
    ∧ q.reserved = s.eq.reserved ∧ q.records = (if x.holdsPlace then s.eq.records.tail else s.eq.records)
    ∧ (x.holdsPlace = false → q = s.eq) ∧ (s.eq.waiters = [] → q.given = s.eq.given ∧ q.waiters = [])
    ∧ (x.holdsPlace = true → s.eq.records ≠ [] → s.eq.records.length + s.eq.reserved + s.eq.given.length ≤ 16 →
        ∀ w ws, s.eq.waiters = w :: ws → q.given = s.eq.given ++ [w] ∧ q.waiters = ws) := by
  cases hx : x.holdsPlace with
  | false => exact ⟨s.eq, by rw [sentFrame, hx]; rfl, rfl, rfl, fun _ => rfl, fun h => ⟨rfl, h⟩, nofun⟩
  | true =>
    obtain ⟨hreserved, hrecords, -⟩ := servePlace_places { s.eq with records := s.eq.records.tail }
    refine ⟨servePlace { s.eq with records := s.eq.records.tail }, by rw [sentFrame, hx]; rfl, hreserved, hrecords, nofun,
      fun h => ?_, fun _ hne hroom w ws h => ?_⟩
    · rw [servePlace_of_no_waiter (by exact h)]; exact ⟨rfl, h⟩
    · have hpos := List.length_pos_iff.mpr hne
      rw [servePlace_of_waiter (by exact h) (freePlaces_pos.mpr (by simp only [List.length_tail]; omega))]
      exact ⟨rfl, rfl⟩

theorem frameSent_eq {s : State} {x : Sending} (h : s.port.sending = some x) :
    frameSent s = startTransmit { sentFrame x s with port := { (sentFrame x s).port with sending := none } } := by
  rw [frameSent, h]; rfl

theorem startTransmit_onlyChanges (s : State) : OnlyChanges [.port] s (startTransmit s) := by
  obtain ⟨p, hp, -⟩ := startTransmit_port s
  rw [hp]
  intro q hq
  cases q with
  | port => exact absurd (List.mem_singleton_self _) hq
  | _ => rfl

/-- Settles O11. -/
theorem recordSentMovesQueue : Obligations.RecordSentMovesQueue := by
  intro s x hl hx
  rw [exec_recordSent]
  refine completes_live hl ?_
  obtain ⟨q, hq, hreserved, hrecords, hbusy, hnone, hserved⟩ := sentFrame_eq x s
  rw [frameSent_eq hx, hq]
  dsimp only
  obtain ⟨p, hp, hrx, hpool, -⟩ := startTransmit_port { s with
    eq := q
    port := { s.port with sending := none, beforeBusy := s.port.beforeBusy - if x.holdsPlace then 1 else 0 } }
  have hport : ∀ {u : ConsolePort}, startTransmit { s with
      eq := q
      port := { s.port with sending := none, beforeBusy := s.port.beforeBusy - if x.holdsPlace then 1 else 0 } }
      = { s with eq := q, port := u } → p = u := fun h => congrArg State.port (hp.symm.trans h)
  rw [hp]
  refine ⟨?_, hreserved, hrecords, hbusy, hnone, hserved, hrx, hpool, fun hb => ?_, fun tag kind hb h0 => ?_, fun hb h0 r rs hr => ?_⟩
  · intro r hr
    cases r with
    | port | eventQueue => exact absurd (by decide) hr
    | _ => rfl
  · have := hport (startTransmit_record (by rfl) (by exact hb))
    rw [this]; exact ⟨hb, rfl⟩
  · have hzero : s.port.beforeBusy - (if x.holdsPlace then 1 else 0) = 0 := Nat.sub_eq_zero_of_le h0
    have := hport (startTransmit_busy (b := (tag, kind)) (by rfl) (by exact hb) (.inl (by exact hzero)))
    rw [this]; exact ⟨rfl, rfl⟩
  · obtain ⟨b, hb⟩ := Option.isSome_iff_exists.mp hb
    have hr' : q.records = r :: rs := hr
    have := hport (startTransmit_beforeBusy (by rfl) (by exact hb) (by exact Nat.sub_ne_zero_of_lt h0)
      (by rw [hr']; exact List.cons_ne_nil _ _))
    rw [this]; exact ⟨rfl, by rw [hr']; rfl⟩

/-! ### The Frame Classifier (R164 to R167) -/

theorem exec_classifierTakesFrame (s : State) : exec .classifierTakesFrame s = live s (classify s) := rfl

theorem isRingAddress_iff (a : Byte) : isRingAddress a = true ↔ 1 ≤ a.toNat ∧ a.toNat ≤ 63 := by
  simp [isRingAddress]

theorem isRingAddress_ownAddress (p : Pins) : isRingAddress (ownAddress p) = false := by
  unfold ownAddress; split <;> decide

theorem isManagementKind_iff (k : Byte) : isManagementKind k = true ↔ 0x21 ≤ k.toNat ∧ k.toNat ≤ 0x2C := by
  simp [isManagementKind]

theorem isForwardableKind_iff (k : Byte) : isForwardableKind k = true
    ↔ 0x02 ≤ k.toNat ∧ k.toNat ≤ 0x07 ∨ 0x40 ≤ k.toNat ∧ k.toNat ≤ 0x5F := by
  simp only [isForwardableKind, isFreeKind, kindStatus, kindLampSet, kindShoot, kindAdvance, kindRewind, kindPrint,
    Bool.or_eq_true, beq_iff_eq, Bool.and_eq_true, decide_eq_true_eq, BitVec.toNat_eq, BitVec.ofNat_eq_ofNat, BitVec.toNat_ofNat]
  omega

section
variable {s : State} {f : LinkFrame}

theorem sortFrame_notConsole (h : f.src ≠ 0x40) : sortFrame s f = .error .badAddress := by rw [sortFrame]; exact if_pos h

variable (hsrc : f.src = 0x40)
include hsrc

theorem sortFrame_own (hdst : f.dst = ownAddress s.pins) :
    sortFrame s f = if isManagementKind f.kind then .ok .manage else .error .badKind := by
  have hring : isRingAddress f.dst = false := hdst ▸ isRingAddress_ownAddress s.pins
  have hconsole : ¬ f.src ≠ Config.consoleAddr := not_not_intro hsrc
  rw [sortFrame, if_neg hconsole, hring, if_neg Bool.false_ne_true, if_pos hdst]

theorem sortFrame_noAddress (hring : isRingAddress f.dst = false) (hdst : f.dst ≠ ownAddress s.pins) :
    sortFrame s f = .error .badAddress := by
  have hconsole : ¬ f.src ≠ Config.consoleAddr := not_not_intro hsrc
  rw [sortFrame, if_neg hconsole, hring, if_neg Bool.false_ne_true, if_neg hdst]

/-- A frame for a ring device is sorted by its kind, the tables that protect it and the device's link state (R166, R167). -/
theorem sortFrame_device (hring : isRingAddress f.dst = true) :
    sortFrame s f = if f.kind = 0x20 then .ok .intercept else if f.kind = 0x01 then .error .protectedDevice
      else if isForwardableKind f.kind then
        if isProtected s f then .error .protectedDevice else if isUp s f.dst then .ok .forward else .error .deviceDown
      else .error .badKind := by
  have hconsole : ¬ f.src ≠ Config.consoleAddr := not_not_intro hsrc
  rw [sortFrame, if_neg hconsole, hring, if_pos rfl]
  rfl

end

theorem isProtected_iff (s : State) (f : LinkFrame) : isProtected s f = true ↔ ControllerOnly s f := by
  simp only [isProtected, ControllerOnly, Bool.or_eq_true, Bool.and_eq_true, beq_iff_eq, or_assoc]
  refine or_congr (and_congr Iff.rfl ?_) (and_congr Iff.rfl ?_)
  · cases boundStation s f.dst <;> simp
  · cases hi : deviceIdx s f.dst with
    | none => simp
    | some i => cases hd : s.devices[i] <;> simp_all

section
variable {s : State} {f : LinkFrame} {rest : List LinkFrame}

/-- A Classifier that neither holds a given place nor waits for one takes the oldest frame with a free place, or waits. -/
theorem classify_eq (hn : s.inHand = none) (hpool : s.port.pool = f :: rest) (hgiven : Waiter.classifier ∉ s.eq.given)
    (hwait : Waiter.classifier ∉ s.eq.waiters) :
    classify s = if 0 < freePlaces s.eq then takeFrame f s else addWaiter .classifier s := by
  have hplace : ¬ hasPlace .classifier s = true := by
    intro h
    rw [hasPlace, beq_iff_eq] at h
    exact hgiven (List.mem_of_mem_head? h)
  have hlisted : ¬ (s.eq.given.contains .classifier || s.eq.waiters.contains .classifier) = true := by
    simp [hgiven, hwait]
  rw [classify, hn, hpool]
  simp only [if_neg hplace, if_neg hlisted]

theorem sortFrame_console (p : ConsolePort) (q : EventQueue) : sortFrame { s with port := p, eq := q } f = sortFrame s f := rfl

theorem takeFrame_ok {path : Path} (hpool : s.port.pool = f :: rest) (h : sortFrame s f = .ok path) :
    takeFrame f s = { s with
      inHand := some ⟨f, path⟩, port := { s.port with pool := rest }, eq := { s.eq with reserved := s.eq.reserved + 1 } } := by
  rw [takeFrame, hpool]
  dsimp only
  rw [sortFrame_console, h]
  rfl

theorem takeFrame_error {code : Result} (hpool : s.port.pool = f :: rest) (h : sortFrame s f = .error code) :
    takeFrame f s = startTransmit { s with
      port := { s.port with pool := rest }, eq := { s.eq with records := s.eq.records ++ [.result f.tag code []] } } := by
  rw [takeFrame, hpool]
  dsimp only
  rw [sortFrame_console, h]
  rfl

end

/-- Settles O12. -/
theorem classifierTakesInHand : Obligations.ClassifierTakesInHand := by
  intro s f rest hl hn hpool hgiven hwait hsrc
  rw [exec_classifierTakesFrame, live_of_live hl, classify_eq hn hpool hgiven hwait]
  refine ⟨fun hfull => ?_, fun path hfree hpath => ?_⟩
  · have hnot : ¬ 0 < freePlaces s.eq := by omega
    rw [if_neg hnot, addWaiter, if_neg hnot]
  · rw [if_pos hfree]
    refine congrArg _ (takeFrame_ok hpool ?_)
    rcases hpath with ⟨hdst, hlo, hhi, rfl⟩ | ⟨hlo, hhi, hk, rfl⟩ | ⟨hlo, hhi, hup, hprot, rfl, hk⟩
    · rw [sortFrame_own hsrc hdst, if_pos ((isManagementKind_iff _).mpr ⟨hlo, hhi⟩)]
    · rw [sortFrame_device hsrc ((isRingAddress_iff _).mpr ⟨hlo, hhi⟩), if_pos hk]
    · have hkind : f.kind ≠ 0x20 ∧ f.kind ≠ 0x01 := by
        constructor <;> intro e <;> rw [e] at hk <;> revert hk <;> decide
      rw [sortFrame_device hsrc ((isRingAddress_iff _).mpr ⟨hlo, hhi⟩), if_neg hkind.1, if_neg hkind.2,
        if_pos ((isForwardableKind_iff _).mpr hk), hprot, if_neg Bool.false_ne_true, hup, if_pos rfl]

/-- What the Classifier answers at once to a frame for a ring device: a WAKE, a kind that no device takes, a frame that is reserved
to the controller, and a frame for a device that is not UP. -/
theorem sortFrame_device_error {s : State} {f : LinkFrame} {code : Result} (hsrc : f.src = 0x40)
    (hring : isRingAddress f.dst = true)
    (h : f.kind = 0x01 ∧ code = .protectedDevice
      ∨ f.kind ≠ 0x20 ∧ f.kind ≠ 0x01 ∧ isForwardableKind f.kind = false ∧ code = .badKind
      ∨ isForwardableKind f.kind = true ∧ ControllerOnly s f ∧ code = .protectedDevice
      ∨ isForwardableKind f.kind = true ∧ ¬ ControllerOnly s f ∧ isUp s f.dst = false ∧ code = .deviceDown) :
    sortFrame s f = .error code := by
  have other : isForwardableKind f.kind = true → f.kind ≠ 0x20 ∧ f.kind ≠ 0x01 := by
    intro hk
    constructor <;> intro e <;> rw [e] at hk <;> revert hk <;> decide
  rw [sortFrame_device hsrc hring]
  rcases h with ⟨hk, rfl⟩ | ⟨h20, h01, hk, rfl⟩ | ⟨hk, hc, rfl⟩ | ⟨hk, hc, hdown, rfl⟩
  · rw [if_neg (by rw [hk]; decide), if_pos hk]
  · rw [if_neg h20, if_neg h01, hk, if_neg Bool.false_ne_true]
  · rw [if_neg (other hk).1, if_neg (other hk).2, if_pos hk, if_pos ((isProtected_iff s f).mpr hc)]
  · rw [if_neg (other hk).1, if_neg (other hk).2, if_pos hk, if_neg (mt (isProtected_iff s f).mp hc), hdown,
      if_neg Bool.false_ne_true]

/-- Settles O13: each refusal by the rule that gives its code. -/
theorem classifierRefuses : Obligations.ClassifierRefuses := by
  intro s f rest code hl hn hpool hgiven hwait hfree hcause
  have herror : sortFrame s f = .error code := by
    have notRing : ∀ {a : Byte}, a.toNat = 0 ∨ 0x3F < a.toNat → isRingAddress a = false := by
      intro a ha
      rw [Bool.eq_false_iff, ne_eq, isRingAddress_iff]; omega
    rcases hcause with ⟨hsrc, rfl⟩ | ⟨hsrc, ha, hdst, rfl⟩ | ⟨hsrc, hdst, hk, rfl⟩ | ⟨hsrc, ha, hcause⟩
    · exact sortFrame_notConsole hsrc
    · exact sortFrame_noAddress hsrc (notRing ha) hdst
    · rw [sortFrame_own hsrc hdst, if_neg]
      rw [isManagementKind_iff]; omega
    · refine sortFrame_device_error hsrc ((isRingAddress_iff _).mpr ha) ?_
      have op : f.kind = 0x03 ∨ f.kind = 0x04 ∨ f.kind = 0x05 ∨ f.kind = 0x06 → isForwardableKind f.kind = true := by
        rintro (h | h | h | h) <;> rw [h] <;> decide
      rcases hcause with ⟨hk, rfl⟩ | ⟨hk, rfl⟩ | ⟨⟨st, hk, hb, he⟩, rfl⟩ | ⟨⟨i, d, hk, hi, hd, hc⟩, rfl⟩ | ⟨hk, hdown, rfl⟩
      · exact .inl ⟨hk, rfl⟩
      · refine .inr (.inl ⟨?_, ?_, ?_, rfl⟩)
        · intro e; rw [e] at hk; revert hk; decide
        · intro e; rw [e] at hk; revert hk; decide
        · rw [Bool.eq_false_iff, ne_eq, isForwardableKind_iff]; omega
      · exact .inr (.inr (.inl ⟨op hk, .inl ⟨hk, st, hb, he⟩, rfl⟩))
      · exact .inr (.inr (.inl ⟨by rw [hk]; decide, .inr ⟨hk, i, d, hi, hd, hc⟩, rfl⟩))
      · refine .inr (.inr (.inr ⟨?_, ?_, hdown, rfl⟩))
        · rcases hk with hk | hk | ⟨hk, -⟩ | ⟨hk, -⟩
          · rw [hk]; decide
          · rw [isForwardableKind_iff]; omega
          · exact op hk
          · rw [hk]; decide
        · rintro (⟨hop, st, hb, he⟩ | ⟨hprint, i, d, hi, hd, hc⟩)
          · rcases hk with hk | hk | ⟨-, hdis⟩ | ⟨hk, -⟩
            · rw [hk] at hop; revert hop; decide
            · rcases hop with h | h | h | h <;> rw [h] at hk <;> revert hk <;> decide
            · rw [hdis st hb] at he; cases he
            · rw [hk] at hop; revert hop; decide
          · rcases hk with hk | hk | ⟨hk, -⟩ | ⟨-, hnot⟩
            · rw [hk] at hprint; revert hprint; decide
            · rw [hprint] at hk; revert hk; decide
            · rw [hprint] at hk; revert hk; decide
            · exact hnot i d hi hd hc
  rw [exec_classifierTakesFrame, classify_eq hn hpool hgiven hwait, if_pos hfree, takeFrame_error hpool herror]
  refine completes_live hl ?_
  obtain ⟨p, hp, hrx, hpool', -, hsending, -⟩ := startTransmit_port { s with
    port := { s.port with pool := rest }, eq := { s.eq with records := s.eq.records ++ [.result f.tag code []] } }
  rw [hp]
  refine ⟨?_, hpool', hrx, rfl, fun h => ?_⟩
  · intro r hr
    cases r with
    | port | eventQueue => exact absurd (by decide) hr
    | _ => rfl
  · have hsame := hsending h
    rw [hsame]; exact ⟨rfl, rfl⟩

end Sys2Proof.Machine
end

section
/-! PROOFS. The records of the tables (10.6): every legal entry's record is read back as that entry (R201, R202, R206). -/

namespace Sys2Proof.Machine

/-! ### Numeric and text fields (R201, R202) -/

theorem toNat_u8_of_lt {n : Nat} (h : n < 256) : (u8 n).toNat = n := by rw [toNat_u8]; omega

theorem rd24_u8 {n : Nat} (h : n ≤ 16777215) : rd24 (u8 (n / 65536)) (u8 (n / 256)) (u8 n) = n := by
  simp only [rd24, toNat_u8]; omega

theorem rdS8_s8 {z : Int} (h : -128 ≤ z) (h' : z ≤ 127) : rdS8 (s8 z) = z := by
  rw [rdS8, s8, BitVec.toInt_ofInt, Int.bmod_eq_of_le] <;> omega

theorem toNat_append {v w : Nat} (x : BitVec v) (y : BitVec w) : (x ++ y).toNat = x.toNat * 2 ^ w + y.toNat := by
  rw [BitVec.toNat_append, ← Nat.shiftLeft_add_eq_or_of_lt y.isLt, Nat.shiftLeft_eq]

/-- The three bytes of a 24-bit word, joined again. -/
theorem be24_join (w : BitVec 24) : u8 (w.toNat / 65536) ++ u8 (w.toNat / 256) ++ u8 w.toNat = w := by
  apply BitVec.eq_of_toNat_eq
  rw [toNat_append, toNat_append]
  simp only [toNat_u8]
  have := w.isLt
  omega

theorem takeText_textField {t : List Byte} (h : t.length ≤ 255) (rest : List Byte) :
    takeText (textField t ++ rest) = some (t, rest) := by
  have hlen : (u8 t.length).toNat = t.length := toNat_u8_of_lt (by omega)
  rw [textField, List.cons_append, takeText, hlen, if_pos (by simp), List.take_left, List.drop_left]

theorem storeText_of_legal {n : Nat} {t : List Byte} (h : TextLegal n t) : storeText n t = t := by
  obtain ⟨hlen, hall⟩ := h
  rw [storeText, List.take_of_length_le hlen]
  exact (List.map_congr_left hall).trans (List.map_id' t)

/-! ### Stocks, windows, tariffs and accounts -/

theorem parseStock_stockRecord {k : Stock} (h : StockLegal k) : parseStock (stockRecord (some k)) = some (some k) := by
  obtain ⟨hc, hc', hl, hl', ht, ht', ⟨hr, hr'⟩, ⟨hg, hg'⟩, ⟨hb, hb'⟩, hmin, hknee, hmax, hmax', hs, hs'⟩ := h
  have hok : k.ok = true := by
    simp only [Stock.ok, balanceOk, Bool.and_eq_true, decide_eq_true_eq]
    exact ⟨⟨⟨⟨⟨⟨⟨⟨⟨⟨⟨hc, hl⟩, hl'⟩, ht⟩, hr, hr'⟩, hg, hg'⟩, hb, hb'⟩, hmin⟩, hknee⟩, hmax⟩, hs⟩, hs'⟩
  have hread : (⟨(u8 k.code).toNat, (u8 k.length).toNat, rd16 (u8 (k.tRef / 256)) (u8 k.tRef),
      ⟨rdS8 (s8 k.balance.r), rdS8 (s8 k.balance.g), rdS8 (s8 k.balance.b)⟩, rd16 (u8 (k.tMin / 256)) (u8 k.tMin),
      rd16 (u8 (k.tMax / 256)) (u8 k.tMax), rd16 (u8 (k.knee / 256)) (u8 k.knee),
      rd16 (u8 (k.slope / 256)) (u8 k.slope)⟩ : Stock) = k := by
    rw [toNat_u8_of_lt (by omega), toNat_u8_of_lt (by omega), rd16_u8 (by omega), rd16_u8 (by omega), rd16_u8 (by omega),
      rd16_u8 (by omega), rd16_u8 (by omega), rdS8_s8 (by omega) (by omega), rdS8_s8 (by omega) (by omega),
      rdS8_s8 (by omega) (by omega)]
  show some (if Stock.ok ⟨_, _, _, _, _, _, _, _⟩ then some (⟨_, _, _, _, _, _, _, _⟩ : Stock) else none) = _
  rw [hread, if_pos hok]

theorem parseWindow_windowRecord {w : Window} (h : WindowLegal w) : parseWindow (windowRecord (some w)) = some (some w) := by
  have hcls : (u8 w.cls.val).toNat = w.cls.val := toNat_u8_of_lt (by omega)
  have hflag : (flag w.enabled != 0) = w.enabled := by cases w.enabled <;> rfl
  have hlt : (u8 w.cls.val).toNat < 8 := by omega
  simp only [windowRecord, be24, List.cons_append, List.nil_append, parseWindow, be24_join]
  rw [dif_pos hlt, if_pos (show w.base &&& ~~~w.mask = 0 from h)]
  simp only [hcls, hflag]

theorem parseTariff_tariffRecord {t : Tariff} (h : TariffLegal t) : parseTariff (tariffRecord (some t)) = some t := by
  obtain ⟨hp, hf, hs, hu⟩ := h
  rw [tariffRecord, parseTariff_be16 hp hf (by omega) hu, Nat.min_eq_left hs]

theorem parseAccount_record {n : Nat} {c : Option Nat} (h : AccountLegal n c) :
    parseAccount (be24 n ++ be32 (c.getD 4294967295)) = some (n, c) := by
  obtain ⟨-, hn, hc⟩ := h
  cases c with
  | none =>
    show some (_, if _ = noCeiling then none else some _) = _
    rw [Option.getD_none, rd24_u8 hn, rd32_u8 (by omega)]
    rfl
  | some c =>
    have hle := hc c rfl
    show some (_, if _ = noCeiling then none else some _) = _
    rw [Option.getD_some, rd24_u8 hn, rd32_u8 (by omega), if_neg (by unfold noCeiling; omega)]

/-! ### Plans -/

theorem channelSet?_channelByte {c : Rgb Bool} (h : (c.r || c.g || c.b) = true) : channelSet? (channelByte c) = some c := by
  obtain ⟨r, g, b⟩ := c
  revert r g b
  decide

theorem planStep?_record {p : PlanStep} (h : StepLegal p) : planStep? (s8 p.offset, channelByte p.channels) = some p := by
  obtain ⟨hlo, hhi, hne⟩ := h
  have hoffset : rdS8 (s8 p.offset) = p.offset := rdS8_s8 (by omega) (by omega)
  rw [planStep?, hoffset, if_pos ⟨hlo, hhi⟩, channelSet?_channelByte hne]
  rfl

theorem parseSteps_flatMap (l : List PlanStep) :
    parseSteps (l.flatMap fun p => [s8 p.offset, channelByte p.channels])
      = some (l.map fun p => (s8 p.offset, channelByte p.channels)) := by
  induction l with
  | nil => rfl
  | cons p l ih => rw [List.flatMap_cons, List.cons_append, List.cons_append, List.nil_append, parseSteps, ih]; rfl

/-- A list of records that each read back as their entry is read back as the list of entries. -/
theorem mapM_map_eq_some {α β : Type} {f : β → Option α} {g : α → β} {l : List α} (h : ∀ a ∈ l, f (g a) = some a) :
    (l.map g).mapM f = some l := by
  induction l with
  | nil => rfl
  | cons a l ih =>
    exact mapM_cons_eq_some.mpr
      ⟨a, l, h a (List.mem_cons_self ..), ih fun x hx => h x (List.mem_cons_of_mem _ hx), rfl⟩

theorem planSteps?_record {l : List PlanStep} (h : PlanLegal l) :
    planSteps? (l.map fun p => (s8 p.offset, channelByte p.channels)) = some l := by
  obtain ⟨-, -, hall, hnominal⟩ := h
  have hm : (l.map fun p => (s8 p.offset, channelByte p.channels)).mapM planStep? = some l :=
    mapM_map_eq_some fun p hp => planStep?_record (hall p hp)
  rw [planSteps?, hm]
  exact if_pos hnominal

theorem parsePlan_planRecord {l : List PlanStep} (h : PlanLegal l) : parsePlan (planRecord (some l)) = some (some l) := by
  have hsteps := planSteps?_record h
  obtain ⟨h1, h7, -⟩ := h
  have hlen : (u8 l.length).toNat = l.length := toNat_u8_of_lt (by omega)
  have hbytes : (l.flatMap fun p => [s8 p.offset, channelByte p.channels]).length = 2 * l.length := by
    rw [List.length_flatMap]
    simp only [List.length_cons, List.length_nil, List.map_const', List.sum_replicate_nat]
    omega
  rw [planRecord, parsePlan, hlen, if_pos ⟨h1, h7, hbytes⟩, parseSteps_flatMap, Option.map_some, hsteps]

/-! ### Templates and the Stand Text -/

/-- The item byte of a legal item carries its line in the high and its kind in the low four bits. -/
theorem toNat_itemByte {i : Item} (h : i.line = 1 ∨ i.line = 2) :
    (u8 (i.line * 16 + i.kind.code)).toNat = i.line * 16 + i.kind.code ∧ 1 ≤ i.kind.code ∧ i.kind.code ≤ 10 := by
  have hcode : 1 ≤ i.kind.code ∧ i.kind.code ≤ 10 := by cases i.kind <;> simp [ItemKind.code]
  exact ⟨toNat_u8_of_lt (by omega), hcode⟩

/-- The text that an item byte is followed by. -/
def ItemKind.text : ItemKind → List Byte
  | .literal t => t
  | _ => []

theorem itemKind?_code {k : ItemKind} (h : match k with | .literal t => TextLegal 8 t | _ => True) :
    itemKind? k.code k.text = some k := by
  cases k with
  | literal t => exact congrArg (fun x => some (ItemKind.literal x)) (storeText_of_legal h)
  | _ => rfl

theorem item?_record {i : Item} (h : ItemLegal i) : item? (u8 (i.line * 16 + i.kind.code), i.kind.text) = some i := by
  obtain ⟨hline, hkind⟩ := h
  obtain ⟨hbyte, h1, h10⟩ := toNat_itemByte hline
  have hdiv : (i.line * 16 + i.kind.code) / 16 = i.line := by omega
  have hmod : (i.line * 16 + i.kind.code) % 16 = i.kind.code := by omega
  simp only [item?, hbyte, hdiv, hmod]
  rw [if_pos hline, itemKind?_code hkind]
  rfl

theorem parseItems_flatMap {l : List Item} (h : ∀ x ∈ l, ItemLegal x) :
    parseItems l.length (l.flatMap itemBytes) = some (l.map fun i => (u8 (i.line * 16 + i.kind.code), i.kind.text)) := by
  induction l with
  | nil => rfl
  | cons i l ih =>
    obtain ⟨hline, hkind⟩ := h i (List.mem_cons_self ..)
    obtain ⟨hbyte, h1, h10⟩ := toNat_itemByte hline
    have hmod : (i.line * 16 + i.kind.code) % 16 = i.kind.code := by omega
    have ih := ih fun x hx => h x (List.mem_cons_of_mem _ hx)
    rw [List.flatMap_cons, itemBytes, List.cons_append, List.length_cons, parseItems, hbyte, hmod]
    cases hk : i.kind with
    | literal t =>
      rw [hk] at hkind
      have htext : t.length ≤ 255 := Nat.le_trans hkind.1 (by decide)
      simp only [ItemKind.code, if_true, takeText_textField htext, ih, Option.map_some, List.map_cons, hk, ItemKind.text]
    | _ => simp [ItemKind.code, ih, hk, ItemKind.text]

theorem parseTemplate_templateRecord {l : List Item} (h8 : l.length ≤ 8) (h : ∀ x ∈ l, ItemLegal x) :
    parseTemplate (templateRecord l) = some (some l) := by
  have hlen : (u8 l.length).toNat = l.length := toNat_u8_of_lt (by omega)
  have hitems : (l.map fun i => (u8 (i.line * 16 + i.kind.code), i.kind.text)).mapM item? = some l :=
    mapM_map_eq_some fun i hi => item?_record (h i hi)
  rw [templateRecord, parseTemplate, hlen, if_pos h8, parseItems_flatMap h, Option.map_some, hitems]

theorem parseStandText_standTextRecord {t : StandText} (hn : TextLegal 8 t.name) (hd : TextLegal 10 t.date) :
    parseStandText (standTextRecord t) = some t := by
  have hdate : takeText (textField t.date) = some (t.date, []) := by
    have := takeText_textField (t := t.date) (Nat.le_trans hd.1 (by decide)) []
    rwa [List.append_nil] at this
  rw [standTextRecord, parseStandText, takeText_textField (Nat.le_trans hn.1 (by decide))]
  simp only [hdate, storeText_of_legal hn, storeText_of_legal hd]

/-! ### The payload of an ORDER_OPEN (10.4) -/

/-- The fields that an ORDER_OPEN for given terms carries. -/
def openFields (t : OrderTerms) : OpenFields :=
  ⟨t.number, t.account, t.plan.val, t.template.val, stationNumber t.station, t.copies, t.trim, t.course, t.title⟩

theorem parseOpen_openPayload {t : OrderTerms} (h : TermsLegal t) : parseOpen (openPayload t) = some (openFields t) := by
  obtain ⟨-, hn, -, ha, -, hc, ⟨hr, hr'⟩, ⟨hg, hg'⟩, ⟨hb, hb'⟩, -, hcourse, htitle⟩ := h
  have hlast : takeText (textField t.title) = some (t.title, []) := by
    have := takeText_textField (t := t.title) (Nat.le_trans htitle.1 (by decide)) []
    rwa [List.append_nil] at this
  have hfirst := takeText_textField (t := t.course) (Nat.le_trans hcourse.1 (by decide)) (textField t.title)
  have hstation : (u8 (stationNumber t.station)).toNat = stationNumber t.station :=
    toNat_u8_of_lt (by unfold stationNumber; omega)
  simp only [openPayload, be16, be24, List.cons_append, List.nil_append, parseOpen, hfirst, hlast, openFields,
    rd16_u8 hn, rd24_u8 ha, hstation, toNat_u8_of_lt (Nat.lt_of_lt_of_le t.plan.isLt (by decide)),
    toNat_u8_of_lt (Nat.lt_of_lt_of_le t.template.isLt (by decide)), toNat_u8_of_lt (Nat.lt_of_le_of_lt hc (by decide)),
    rdS8_s8 (Int.le_trans (by decide) hr) (Int.le_trans hr' (by decide)),
    rdS8_s8 (Int.le_trans (by decide) hg) (Int.le_trans hg' (by decide)),
    rdS8_s8 (Int.le_trans (by decide) hb) (Int.le_trans hb' (by decide))]

theorem terms_openFields {t : OrderTerms} (h : TermsLegal t) : (openFields t).terms = some t := by
  obtain ⟨hn, -, ha, -, hc1, hc4, ⟨hr, hr'⟩, ⟨hg, hg'⟩, ⟨hb, hb'⟩, hne, hcourse, htitle⟩ := h
  have htrim : (trimOk t.trim.r && trimOk t.trim.g && trimOk t.trim.b) = true := by
    simp only [trimOk, Bool.and_eq_true, decide_eq_true_eq]
    exact ⟨⟨⟨hr, hr'⟩, hg, hg'⟩, hb, hb'⟩
  have hok : (openFields t).order ≠ 0 ∧ (openFields t).account ≠ 0 ∧ (openFields t).plan < 8 ∧ (openFields t).template < 4
      ∧ (1 ≤ (openFields t).station ∧ (openFields t).station - 1 < 4) ∧ (1 ≤ (openFields t).copies ∧ (openFields t).copies ≤ 4)
      ∧ (trimOk (openFields t).trim.r && trimOk (openFields t).trim.g && trimOk (openFields t).trim.b) = true
      ∧ (openFields t).course ≠ [] :=
    ⟨Nat.ne_of_gt hn, Nat.ne_of_gt ha, t.plan.isLt, t.template.isLt, ⟨Nat.le_add_left 1 _, t.station.isLt⟩, ⟨hc1, hc4⟩, htrim, hne⟩
  rw [OpenFields.terms, dif_pos hok]
  simp only [openFields, storeText_of_legal hcourse, storeText_of_legal htitle, stationNumber, Nat.add_sub_cancel]

/-- Settles O19. -/
theorem recordsReadBack : Obligations.RecordsReadBack :=
  ⟨fun _ => parseStock_stockRecord, fun _ => parsePlan_planRecord, fun _ => parseWindow_windowRecord,
    fun _ => parseTariff_tariffRecord, fun _ _ => parseAccount_record, fun _ => parseTemplate_templateRecord,
    fun _ => parseStandText_standTextRecord, fun t h => ⟨openFields t, parseOpen_openPayload h, terms_openFields h⟩⟩

/-! ### Refusals of a TABLE_WRITE (R18, R172) -/

theorem station?_eq_none {b : Byte} (h : b.toNat < 1 ∨ 4 < b.toNat) : station? b = none := by
  unfold station?
  split
  · split
    · rfl
    · omega
  · rfl

theorem station?_u8 (st : St) : station? (u8 (st.val + 1)) = some st := by
  have hbyte : (u8 (st.val + 1)).toNat = st.val + 1 := toNat_u8_of_lt (by omega)
  simp [station?, hbyte]

/-- Settles O24: each owner looks at the index first. -/
theorem tableWriteRefusals : Obligations.TableWriteRefusals := by
  refine ⟨fun s f index record hands => tableWrite_refused (t := .order) (owner := writeOrder) hands rfl, ?_⟩
  intro c id low high hrow s f index record hindex hands
  simp only [List.mem_cons, Prod.mk.injEq, List.not_mem_nil, or_false] at hrow
  rcases hrow with ⟨rfl, rfl, rfl, rfl⟩ | ⟨rfl, rfl, rfl, rfl⟩ | ⟨rfl, rfl, rfl, rfl⟩ | ⟨rfl, rfl, rfl, rfl⟩ | ⟨rfl, rfl, rfl, rfl⟩
    | ⟨rfl, rfl, rfl, rfl⟩ | ⟨rfl, rfl, rfl, rfl⟩ | ⟨rfl, rfl, rfl, rfl⟩ | ⟨rfl, rfl, rfl, rfl⟩
  · exact tableWrite_refused (t := .device) (owner := writeDevice) hands (by rw [writeDevice, index?_eq_none (by omega)])
  · exact tableWrite_refused (t := .station) (owner := writeStation) hands (by rw [writeStation, station?_eq_none hindex])
  · exact tableWrite_refused (t := .stock) (owner := writeStock) hands (by rw [writeStock, index?_eq_none (by omega)])
  · exact tableWrite_refused (t := .plan) (owner := writePlan) hands (by rw [writePlan, index?_eq_none (by omega)])
  · exact tableWrite_refused (t := .window) (owner := writeWindow) hands (writeWindow_badIndex (by omega) _ s)
  · exact tableWrite_refused (t := .tariff) (owner := writeTariff) hands (writeTariff_badIndex (by omega) _ s)
  · exact tableWrite_refused (t := .account) (owner := writeAccount) hands (by rw [writeAccount, index?_eq_none (by omega)])
  · exact tableWrite_refused (t := .template) (owner := writeTemplate) hands (by rw [writeTemplate, index?_eq_none (by omega)])
  · refine tableWrite_refused (t := .standText) (owner := writeStandText) hands (if_neg ?_)
    rintro rfl
    revert hindex
    decide

/-! ### TABLE_READ (R173) -/

theorem answerHand_completes_refused {s : State} (hl : Live s) (f : LinkFrame) (code : Result) :
    Completes (live s (answerHand f code [] s)) fun t => Refused s t f code :=
  completes_live hl (answerHand_refused f code s)

/-- Every row of TABLE_READ: length, index, part, and then the part's bytes. -/
theorem tableRead_rule (t : Table) (record : Byte → Option (List Byte)) {s : State} {f : LinkFrame} (hl : Live s)
    (hi : InHandIs s f .manage) (hk : f.kind = 0x22) :
    (f.payload.length ≠ 3 → Completes (live s (tableRead t record s)) fun u => Refused s u f .badLength)
    ∧ ∀ index part : Byte, f.payload = [t.code, index, part] →
      (record index = none → Completes (live s (tableRead t record s)) fun u => Refused s u f .badField)
      ∧ ∀ bytes, record index = some bytes →
        (max 1 ((bytes.length + 47) / 48) ≤ part.toNat →
          Completes (live s (tableRead t record s)) fun u => Refused s u f .badField)
        ∧ (part.toNat < max 1 ((bytes.length + 47) / 48) → Completes (live s (tableRead t record s)) fun u =>
            Reported s u f ([t.code, index, part, u8 (max 1 ((bytes.length + 47) / 48))]
              ++ (bytes.drop (48 * part.toNat)).take 48)) := by
  have hin : inHand? s kindTableRead = some f := inHand?_of_inHandIs hi hk
  refine ⟨fun hlen => ?_, fun index part hp => ?_⟩
  · have hread : tableRead t record s = answerHand f .badLength [] s := by
      rw [tableRead, hin]
      dsimp only
      split
      · next hp => rw [hp] at hlen; exact absurd rfl hlen
      · rfl
    rw [hread]; exact answerHand_completes_refused hl f _
  · have hread : tableRead t record s = match record index with
        | none => answerHand f .badField [] s
        | some bytes => match readData t.code index part bytes with
          | some data => answerHand f .done data s
          | none => answerHand f .badField [] s := by
      rw [tableRead, hin]
      simp only [hp, if_true] <;> rfl
    rw [hread]
    refine ⟨fun hnone => ?_, fun bytes hbytes => ⟨fun hpart => ?_, fun hpart => ?_⟩⟩
    · rw [hnone]; exact answerHand_completes_refused hl f _
    · have hdata : readData t.code index part bytes = none := if_neg (Nat.not_lt.mpr hpart)
      rw [hbytes]
      simp only [hdata]
      exact answerHand_completes_refused hl f _
    · have hdata : readData t.code index part bytes = some ([t.code, index, part, u8 (max 1 ((bytes.length + 47) / 48))]
          ++ (bytes.drop (48 * part.toNat)).take 48) := if_pos hpart
      rw [hbytes]
      simp only [hdata]
      exact completes_live hl (answerHand_reported f _ s)

/-- Settles O25: the ten rows by the rule they share, and the records field by field. -/
theorem tableReads : Obligations.TableReads := by
  refine ⟨?rows, ⟨rfl, rfl, rfl, rfl, rfl, fun _ => rfl⟩, ?order, ?device, fun b on => ?station, fun _ => rfl, fun _ => rfl, fun _ => rfl⟩
  case rows =>
    intro c id record hrow s f hl hi hk
    simp only [List.mem_cons, Prod.mk.injEq, List.not_mem_nil, or_false] at hrow
    rcases hrow with ⟨rfl, rfl, rfl⟩ | ⟨rfl, rfl, rfl⟩ | ⟨rfl, rfl, rfl⟩ | ⟨rfl, rfl, rfl⟩ | ⟨rfl, rfl, rfl⟩ | ⟨rfl, rfl, rfl⟩
      | ⟨rfl, rfl, rfl⟩ | ⟨rfl, rfl, rfl⟩ | ⟨rfl, rfl, rfl⟩ | ⟨rfl, rfl, rfl⟩
    · exact tableRead_rule .order _ hl hi hk
    · exact tableRead_rule .device _ hl hi hk
    · exact tableRead_rule .station _ hl hi hk
    · exact tableRead_rule .stock _ hl hi hk
    · exact tableRead_rule .plan _ hl hi hk
    · exact tableRead_rule .window _ hl hi hk
    · exact tableRead_rule .tariff _ hl hi hk
    · exact tableRead_rule .account _ hl hi hk
    · exact tableRead_rule .template _ hl hi hk
    · exact tableRead_rule .standText _ hl hi hk
  case order =>
    intro o hcourse htitle
    have hrecord : orderRecord (some o) = [if o.closing then 0x02 else 0x01,
          u8 ((if o.cancelling then 1 else 0) + (if o.summaryPending then 2 else 0) + (if o.settled then 4 else 0))]
        ++ be16 o.terms.number ++ be24 o.terms.account
        ++ [u8 o.cls.val, u8 o.terms.plan.val, u8 o.terms.template.val, u8 (o.terms.station.val + 1), u8 o.terms.copies,
          BitVec.ofInt 8 o.terms.trim.r, BitVec.ofInt 8 o.terms.trim.g, BitVec.ofInt 8 o.terms.trim.b]
        ++ be16 o.setupAmount ++ be32 o.reserved ++ be32 o.exposed ++ be32 o.spoiled ++ be32 o.charged
        ++ [u8 o.outstanding] ++ [u8 o.terms.course.length] ++ o.terms.course
        ++ List.replicate (8 - o.terms.course.length) 0 ++ [u8 o.terms.title.length] ++ o.terms.title
        ++ List.replicate (24 - o.terms.title.length) 0 := by
      simp [orderRecord, orderFlags, fixedField, stationNumber, s8, be16, be24, be32]
    refine ⟨?_, hrecord⟩
    rw [hrecord]
    simp only [be16, be24, be32, List.length_append, List.length_cons, List.length_nil, List.length_replicate]
    omega
  case device =>
    intro d
    cases hc : d.cls <;> cases hl : d.link <;> simp [deviceRecord, DevClass.code, LinkState.code, hc, hl]
  case station => rfl

/-! ### Writes of the Stock and Plan Tables (R22, R58) -/

theorem setStock_onlyChanges (i : Fin 8) (k : Option Stock) (s : State) : OnlyChanges [.stocks] s (setStock i k s) := by
  intro p hp
  cases p with
  | stocks => exact absurd (List.mem_singleton_self _) hp
  | _ => rfl

theorem setPlan_onlyChanges (i : Fin 8) (l : Option (List PlanStep)) (s : State) : OnlyChanges [.plans] s (setPlan i l s) := by
  intro p hp
  cases p with
  | plans => exact absurd (List.mem_singleton_self _) hp
  | _ => rfl

theorem setAccount_onlyChanges (i : Fin 32) (a : Option Account) (s : State) : OnlyChanges [.accounts] s (setAccount i a s) := by
  intro p hp
  cases p with
  | accounts => exact absurd (List.mem_singleton_self _) hp
  | _ => rfl

theorem modComposer_onlyChanges (g : Composer → Composer) (s : State) : OnlyChanges [.composer] s (modComposer g s) := by
  intro p hp
  cases p with
  | composer => exact absurd (List.mem_singleton_self _) hp
  | _ => rfl

theorem setBinding_onlyChanges (st : St) (b : Option Binding) (s : State) : OnlyChanges [.bindings] s (setBinding st b s) := by
  intro p hp
  cases p with
  | bindings => exact absurd (List.mem_singleton_self _) hp
  | _ => rfl

section
variable {s : State} (f : LinkFrame)

theorem done_setStock (i : Fin 8) (k : Option Stock) :
    OnlyChanges [.port, .inHand, .eventQueue, .stocks] s (setStock i k (answerHand f .done [] s))
      ∧ Answered s (setStock i k (answerHand f .done [] s)) f .done [] []
      ∧ (setStock i k (answerHand f .done [] s)).stocks = s.stocks.set i.val k i.isLt := by
  obtain ⟨honly, hanswered⟩ := done_then_change (by decide) (setStock_onlyChanges i k (answerHand f .done [] s))
  have hsame : (answerHand f .done [] s).stocks = s.stocks := answerHand_onlyChanges f .done [] s .stocks (by decide)
  exact ⟨honly, hanswered, by rw [setStock_stocks, hsame]⟩

theorem done_setPlan (i : Fin 8) (l : Option (List PlanStep)) :
    OnlyChanges [.port, .inHand, .eventQueue, .plans] s (setPlan i l (answerHand f .done [] s))
      ∧ Answered s (setPlan i l (answerHand f .done [] s)) f .done [] []
      ∧ (setPlan i l (answerHand f .done [] s)).plans = s.plans.set i.val l i.isLt := by
  obtain ⟨honly, hanswered⟩ := done_then_change (by decide) (setPlan_onlyChanges i l (answerHand f .done [] s))
  have hsame : (answerHand f .done [] s).plans = s.plans := answerHand_onlyChanges f .done [] s .plans (by decide)
  exact ⟨honly, hanswered, by rw [setPlan_plans, hsame]⟩

theorem done_setAccount (i : Fin 32) (a : Option Account) :
    OnlyChanges [.port, .inHand, .eventQueue, .accounts] s (setAccount i a (answerHand f .done [] s))
      ∧ Answered s (setAccount i a (answerHand f .done [] s)) f .done [] []
      ∧ (setAccount i a (answerHand f .done [] s)).accounts = s.accounts.set i.val a i.isLt := by
  obtain ⟨honly, hanswered⟩ := done_then_change (by decide) (setAccount_onlyChanges i a (answerHand f .done [] s))
  have hsame : (answerHand f .done [] s).accounts = s.accounts := answerHand_onlyChanges f .done [] s .accounts (by decide)
  exact ⟨honly, hanswered, by rw [setAccount_accounts, hsame]⟩

theorem done_modComposer (g : Composer → Composer) :
    OnlyChanges [.port, .inHand, .eventQueue, .composer] s (modComposer g (answerHand f .done [] s))
      ∧ Answered s (modComposer g (answerHand f .done [] s)) f .done [] []
      ∧ (modComposer g (answerHand f .done [] s)).composer = g s.composer := by
  obtain ⟨honly, hanswered⟩ := done_then_change (by decide) (modComposer_onlyChanges g (answerHand f .done [] s))
  have hsame : (answerHand f .done [] s).composer = s.composer := answerHand_onlyChanges f .done [] s .composer (by decide)
  exact ⟨honly, hanswered, by rw [modComposer_composer, hsame]⟩

end

theorem exec_stockTableWrite (s : State) : exec .stockTableWrite s = live s (tableWrite .stock writeStock s) := rfl

theorem exec_planTableWrite (s : State) : exec .planTableWrite s = live s (tableWrite .plan writePlan s) := rfl

theorem stockInUse_iff (s : State) (i : Fin 8) : stockInUse s i = true
    ↔ ∃ k st m, s.stocks[i] = some k ∧ s.rolls[(st : St)].map = some m ∧ m.stock = k.code := by
  unfold stockInUse
  cases hk : s.stocks[i] with
  | none => simp
  | some k =>
    rw [List.any_eq_true]
    constructor
    · rintro ⟨st, -, h⟩
      split at h
      · next m hm => exact ⟨k, st, m, rfl, hm, beq_iff_eq.mp h⟩
      · cases h
    · rintro ⟨k', st, m, hk', hm, h⟩
      cases hk'
      exact ⟨st, List.mem_finRange st, by rw [hm]; exact beq_iff_eq.mpr h⟩

theorem otherStock_eq_false {s : State} {i : Fin 8} {code : Nat}
    (h : ∀ j k, j ≠ i → s.stocks[(j : Fin 8)] = some k → k.code ≠ code) : otherStock s i code = false := by
  rw [otherStock, List.any_eq_false]
  intro j _
  rw [Bool.and_eq_true, bne_iff_ne]
  rintro ⟨hne, hk⟩
  split at hk
  · next k hk' => exact h j k hne hk' (beq_iff_eq.mp hk)
  · cases hk

theorem writeStock_empty (i : Fin 8) (s : State) :
    writeStock (u8 i.val) [] s = if stockInUse s i then .error .inUse else .ok (setStock i none) := by
  rw [writeStock, index?_u8 (by decide)]; rfl

theorem writeStock_record (i : Fin 8) {k : Stock} (h : StockLegal k) {s : State} (hother : otherStock s i k.code = false) :
    writeStock (u8 i.val) (stockRecord (some k)) s
      = if stockInUse s i then .error .inUse else .ok (setStock i (some k)) := by
  have hnil : stockRecord (some k) ≠ [] := List.cons_ne_nil _ _
  rw [writeStock, index?_u8 (by decide)]
  simp only [if_neg hnil, parseStock_stockRecord h, hother, Bool.false_eq_true, if_false]

theorem planInUse_iff (s : State) (i : Fin 8) :
    planInUse s i = true ↔ ∃ j o, s.orders[(j : Fin 16)] = some o ∧ o.terms.plan = i := by
  rw [planInUse, List.any_eq_true]
  constructor
  · rintro ⟨j, -, hj⟩
    split at hj
    · next o ho => exact ⟨j, o, ho, beq_iff_eq.mp hj⟩
    · cases hj
  · rintro ⟨j, o, ho, hplan⟩
    exact ⟨j, List.mem_finRange j, by rw [ho]; exact beq_iff_eq.mpr hplan⟩

theorem writePlan_empty (i : Fin 8) (s : State) :
    writePlan (u8 i.val) [] s = if planInUse s i then .error .inUse else .ok (setPlan i none) := by
  rw [writePlan, index?_u8 (by decide)]; rfl

theorem writePlan_record (i : Fin 8) {l : List PlanStep} (h : PlanLegal l) (s : State) :
    writePlan (u8 i.val) (planRecord (some l)) s = if planInUse s i then .error .inUse else .ok (setPlan i (some l)) := by
  have hnil : planRecord (some l) ≠ [] := List.cons_ne_nil _ _
  rw [writePlan, index?_u8 (by decide)]
  simp only [if_neg hnil, parsePlan_planRecord h]

/-! ### Writes of the Account Table (R95, R96) -/

theorem exec_accountTableWrite (s : State) : exec .accountTableWrite s = live s (tableWrite .account writeAccount s) := rfl

theorem otherAccount_iff (s : State) (i : Fin 32) (n : Nat) : otherAccount s i n = true
    ↔ ∃ j a, j ≠ i ∧ s.accounts[(j : Fin 32)] = some a ∧ a.number = n := by
  rw [otherAccount, List.any_eq_true]
  constructor
  · rintro ⟨j, -, hj⟩
    rw [Bool.and_eq_true, bne_iff_ne] at hj
    obtain ⟨hne, hj⟩ := hj
    split at hj
    · next a ha => exact ⟨j, a, hne, ha, beq_iff_eq.mp hj⟩
    · cases hj
  · rintro ⟨j, a, hne, ha, h⟩
    exact ⟨j, List.mem_finRange j, by rw [ha, Bool.and_eq_true, bne_iff_ne]; exact ⟨hne, beq_iff_eq.mpr h⟩⟩

theorem accountInUse_iff (a : Account) : accountInUse a = true ↔ a.held ≠ 0 ∨ a.openOrders ≠ 0 := by simp [accountInUse]

/-- The sum that the write compares saturates above every ceiling. -/
theorem belowUse_iff {a : Account} {c : Option Nat} (h : ∀ x, c = some x → x ≤ 4294967294) :
    belowUse a c = true ↔ ∃ x, c = some x ∧ x < a.spent + a.held := by
  cases c with
  | none => simp [belowUse]
  | some x =>
    have hx := h x rfl
    simp only [belowUse, decide_eq_true_eq, Option.some.injEq, exists_eq_left']
    rw [← Nat.not_le, satAdd_le_iff hx, Nat.not_le]

theorem writeAccount_empty (i : Fin 32) (s : State) :
    writeAccount (u8 i.val) [] s = match s.accounts[i] with
      | some a => if accountInUse a then .error .inUse else .ok (setAccount i none)
      | none => .ok (setAccount i none) := by
  rw [writeAccount, index?_u8 (by decide)]; rfl

theorem writeAccount_record (i : Fin 32) {n : Nat} {c : Option Nat} (h : AccountLegal n c) (s : State) :
    writeAccount (u8 i.val) (be24 n ++ be32 (c.getD 4294967295)) s =
      if otherAccount s i n = true then .error .badField
      else match s.accounts[i] with
        | none => .ok (setAccount i (some ⟨n, c, 0, 0, 0⟩))
        | some a =>
          if a.number = n then
            if belowUse a c then .error .belowUse else .ok (setAccount i (some { a with ceiling := c }))
          else if accountInUse a then .error .inUse else .ok (setAccount i (some ⟨n, c, 0, 0, 0⟩)) := by
  have hnil : be24 n ++ be32 (c.getD 4294967295) ≠ [] := List.cons_ne_nil _ _
  have hn : n ≠ 0 := Nat.ne_of_gt h.1
  rw [writeAccount, index?_u8 (by decide)]
  simp only [if_neg hnil, parseAccount_record h, hn, false_or] <;> rfl

/-! ### Writes of the Template Table and the Stand Text (R112, R113) -/

theorem exec_templateTableWrite (s : State) : exec .templateTableWrite s = live s (tableWrite .template writeTemplate s) := rfl

theorem exec_standTextWrite (s : State) : exec .standTextWrite s = live s (tableWrite .standText writeStandText s) := rfl

theorem writeTemplate_record (i : Fin 4) {l : List Item} (h8 : l.length ≤ 8) (h : ∀ x ∈ l, ItemLegal x) (s : State) :
    writeTemplate (u8 i.val) (templateRecord l) s = .ok (setTemplate i l) := by
  rw [writeTemplate, index?_u8 (by decide)]
  simp only [parseTemplate_templateRecord h8 h]

theorem writeStandText_record {x : StandText} (hn : TextLegal 8 x.name) (hd : TextLegal 10 x.date) (s : State) :
    writeStandText 0x00 (standTextRecord x) s = .ok (modComposer fun c => { c with stand := x }) := by
  rw [writeStandText, if_pos rfl, parseStandText_standTextRecord hn hd]

/-- Settles O20: each write by what its owner answers. -/
theorem stockPlanAndTextWrites : Obligations.StockPlanAndTextWrites := by
  refine ⟨⟨?stock, ?stockEmpty, ?plan, ?planEmpty⟩, ⟨?template, ?standText⟩, ?account, ?accountEmpty⟩
  case stock =>
    intro s f i k hk hands hdistinct
    rw [exec_stockTableWrite]
    have hwrite := writeStock_record i hk (otherStock_eq_false hdistinct)
    constructor
    · intro hfree
      rw [if_neg fun h => by obtain ⟨k', st, m, h1, h2, h3⟩ := (stockInUse_iff s i).mp h; exact hfree k' st m h1 h2 h3] at hwrite
      exact tableWrite_done hands hwrite (done_setStock f i _)
    · rintro ⟨k', st, m, h1, h2, -, h3⟩
      rw [if_pos ((stockInUse_iff s i).mpr ⟨k', st, m, h1, h2, h3⟩)] at hwrite
      exact tableWrite_refused hands hwrite
  case stockEmpty =>
    intro s f i hands
    rw [exec_stockTableWrite]
    have hwrite := writeStock_empty i s
    constructor
    · intro hfree
      rw [if_neg fun h => by obtain ⟨k', st, m, h1, h2, h3⟩ := (stockInUse_iff s i).mp h; exact hfree k' st m h1 h2 h3] at hwrite
      exact tableWrite_done hands hwrite (done_setStock f i _)
    · rintro ⟨k', st, m, h1, h2, -, h3⟩
      rw [if_pos ((stockInUse_iff s i).mpr ⟨k', st, m, h1, h2, h3⟩)] at hwrite
      exact tableWrite_refused hands hwrite
  case plan =>
    intro s f i l hl hands
    rw [exec_planTableWrite]
    have hwrite := writePlan_record i hl s
    constructor
    · intro hfree
      rw [if_neg fun h => by obtain ⟨j, o, h1, h2⟩ := (planInUse_iff s i).mp h; exact hfree j o h1 h2] at hwrite
      exact tableWrite_done hands hwrite (done_setPlan f i _)
    · intro hused
      rw [if_pos ((planInUse_iff s i).mpr hused)] at hwrite
      exact tableWrite_refused hands hwrite
  case planEmpty =>
    intro s f i hands
    rw [exec_planTableWrite]
    have hwrite := writePlan_empty i s
    constructor
    · intro hfree
      rw [if_neg fun h => by obtain ⟨j, o, h1, h2⟩ := (planInUse_iff s i).mp h; exact hfree j o h1 h2] at hwrite
      exact tableWrite_done hands hwrite (done_setPlan f i _)
    · intro hused
      rw [if_pos ((planInUse_iff s i).mpr hused)] at hwrite
      exact tableWrite_refused hands hwrite
  case template =>
    intro s f i items h8 hitems hands
    rw [exec_templateTableWrite]
    exact tableWrite_done hands (writeTemplate_record i h8 hitems s) (done_modComposer f _)
  case standText =>
    intro s f x hn hd hands
    rw [exec_standTextWrite]
    exact tableWrite_done hands (writeStandText_record hn hd s) (done_modComposer f _)
  case account =>
    intro s f i n c hc hands
    rw [exec_accountTableWrite]
    have hwrite := writeAccount_record i hc s
    refine ⟨fun hother => ?_, fun hdistinct => ?_⟩
    · rw [if_pos ((otherAccount_iff s i n).mpr hother)] at hwrite
      exact tableWrite_refused hands hwrite
    rw [if_neg fun h => by obtain ⟨j, a, h1, h2, h3⟩ := (otherAccount_iff s i n).mp h; exact hdistinct j a h1 h2 h3] at hwrite
    refine ⟨?fresh, fun a ha => ⟨fun hne hused => ?_, fun heq hceiling => ?_, fun heq hbelow => ?_⟩⟩
    case fresh =>
      rintro (hn | ⟨a, ha, hne, hheld, hopen⟩)
      · rw [hn] at hwrite
        exact tableWrite_done hands hwrite (done_setAccount f i _)
      · rw [ha] at hwrite
        simp only [if_neg hne, if_neg (mt (accountInUse_iff a).mp (by simp [hheld, hopen]))] at hwrite
        exact tableWrite_done hands hwrite (done_setAccount f i _)
    all_goals rw [ha] at hwrite
    · simp only [if_neg hne, if_pos ((accountInUse_iff a).mpr hused)] at hwrite
      exact tableWrite_refused hands hwrite
    · have hnot : ¬ belowUse a c = true := by
        rw [belowUse_iff hc.2.2]
        rintro ⟨x, hx, hlt⟩
        exact Nat.not_le.mpr hlt (hceiling x hx)
      simp only [if_pos heq, if_neg hnot] at hwrite
      exact tableWrite_done hands hwrite (done_setAccount f i _)
    · simp only [if_pos heq, if_pos ((belowUse_iff hc.2.2).mpr hbelow)] at hwrite
      exact tableWrite_refused hands hwrite
  case accountEmpty =>
    intro s f i hands
    rw [exec_accountTableWrite]
    have hwrite := writeAccount_empty i s
    constructor
    · rintro (hn | ⟨a, ha, hheld, hopen⟩)
      · rw [hn] at hwrite
        exact tableWrite_done hands hwrite (done_setAccount f i _)
      · rw [ha] at hwrite
        simp only [if_neg (mt (accountInUse_iff a).mp (by simp [hheld, hopen]))] at hwrite
        exact tableWrite_done hands hwrite (done_setAccount f i _)
    · intro a ha hused
      rw [ha] at hwrite
      simp only [if_pos ((accountInUse_iff a).mpr hused)] at hwrite
      exact tableWrite_refused hands hwrite

end Sys2Proof.Machine
end

section
/-! PROOFS. The ends of an act: the Arbiter's search of the circle and its grants (R143, R144, R148, R149, R152), and the stations'
resumes and tries (R69, R186). The lemmas say when `finish` changes nothing, and what it adds when one station asks. -/

namespace Sys2Proof.Machine

/-! ### What an operation leaves unchanged, operation by operation -/

theorem OnlyChanges.refl (ps : List Part) (s : State) : OnlyChanges ps s s := fun p _ => by cases p <;> rfl

/-- A further operation that changes listed parts alone. -/
theorem OnlyChanges.andThen {ps qs : List Part} {s t u : State} (h : OnlyChanges ps s t) (k : OnlyChanges qs t u)
    (hsub : ∀ p ∈ qs, p ∈ ps := by decide) : OnlyChanges ps s u := fun p hp =>
  Part.same_trans (h p hp) (k p fun hm => hp (hsub p hm))

theorem OnlyChanges.widen {ps qs : List Part} {s t : State} (h : OnlyChanges qs s t)
    (hsub : ∀ p ∈ qs, p ∈ ps := by decide) : OnlyChanges ps s t := fun p hp => h p fun hm => hp (hsub p hm)

theorem devices_onlyChanges (v : Vector (Option Device) 16) (s : State) : OnlyChanges [.devices] s { s with devices := v } := by
  intro p hp
  cases p with
  | devices => exact absurd (List.mem_singleton_self _) hp
  | _ => rfl

theorem ring_onlyChanges (r : Ring) (s : State) : OnlyChanges [.ring] s { s with ring := r } := by
  intro p hp
  cases p with
  | ring => exact absurd (List.mem_singleton_self _) hp
  | _ => rfl

theorem modStation_onlyChanges (st : St) (f : Station → Station) (s : State) : OnlyChanges [.stations] s (modStation st f s) := by
  intro p hp
  cases p with
  | stations => exact absurd (List.mem_singleton_self _) hp
  | _ => rfl

theorem modRoll_onlyChanges (st : St) (f : RollRec → RollRec) (s : State) : OnlyChanges [.rolls] s (modRoll st f s) := by
  intro p hp
  cases p with
  | rolls => exact absurd (List.mem_singleton_self _) hp
  | _ => rfl

/-! ### The circle of requesters (R149) -/

theorem circleAfter_getElem (last r : Requester) :
    (circleAfter last)[(r.place + 6 - last.place) % 7]? = some r := by
  cases last with
  | station st => cases r with
    | station st' => revert st st'; decide
    | _ => revert st; decide
  | _ => cases r with
    | station st' => revert st'; decide
    | _ => decide

theorem circleAfter_nodup (last : Requester) : (circleAfter last).Nodup := by
  cases last with
  | station st => revert st; decide
  | _ => decide

theorem mem_circleAfter (last r : Requester) : r ∈ circleAfter last := List.mem_of_getElem? (circleAfter_getElem last r)

/-- What is granted asks, and nothing between the last granted and it does. -/
theorem nextGranted_some {s : State} {r : Requester} (h : nextGranted s = some r) : hasAsk s r = true
    ∧ ∀ r' : Requester, (r'.place + 6 - s.ring.lastGranted.place) % 7 < (r.place + 6 - s.ring.lastGranted.place) % 7 →
        hasAsk s r' = false := by
  obtain ⟨hask, i, hi, hr, hbefore⟩ := List.find?_eq_some_iff_getElem.mp h
  refine ⟨hask, fun r' hlt => ?_⟩
  have hplace : i = (r.place + 6 - s.ring.lastGranted.place) % 7 := by
    have hget := circleAfter_getElem s.ring.lastGranted r
    rw [List.getElem?_eq_some_iff] at hget
    obtain ⟨hj, hget⟩ := hget
    exact (List.getElem_inj (circleAfter_nodup _)).mp (hr.trans hget.symm)
  have hget := circleAfter_getElem s.ring.lastGranted r'
  rw [List.getElem?_eq_some_iff] at hget
  obtain ⟨hj, hget⟩ := hget
  have hnot := hbefore _ (hplace ▸ hlt)
  rw [hget] at hnot
  simpa using hnot

theorem nextGranted_isSome {s : State} {r : Requester} (h : hasAsk s r = true) : (nextGranted s).isSome = true := by
  rw [nextGranted, List.find?_isSome]
  exact ⟨r, mem_circleAfter _ r, h⟩

theorem nextGranted_eq_none {s : State} (h : ∀ r, hasAsk s r = false) : nextGranted s = none := by
  rw [nextGranted, List.find?_eq_none]
  intro r _
  rw [h r]; exact Bool.false_ne_true

/-- A requester that alone asks is granted. -/
theorem nextGranted_of_only {s : State} {r : Requester} (h : hasAsk s r = true) (ho : ∀ r', r' ≠ r → hasAsk s r' = false) :
    nextGranted s = some r := by
  obtain ⟨r', hr'⟩ := Option.isSome_iff_exists.mp (nextGranted_isSome h)
  by_cases e : r' = r
  · rw [hr', e]
  · have hask := (nextGranted_some hr').1
    rw [ho r' e] at hask
    cases hask

theorem nextServed_eq_none {s : State} (h : ∀ (i : Fin 16) d, s.devices[i] = some d → d.dueWake = false ∧ d.duePoll = false) :
    nextServed s = none := by
  rw [nextServed, List.find?_eq_none]
  intro i _
  unfold servable
  split
  · exact Bool.false_ne_true
  · next d hd =>
    obtain ⟨hw, hp⟩ := h i d hd
    rw [hw, hp]
    simp

theorem NoAsk.hasAsk {s : State} (h : NoAsk s) (r : Requester) : hasAsk s r = false := by
  obtain ⟨hslot, hasks, hcomposer, hdue⟩ := h
  cases r with
  | forward =>
    show (match s.slot with | .asking _ => true | .empty | .running _ => false) = false
    split
    · next f hf => exact absurd hf (hslot f)
    · rfl
    · rfl
  | station st => show (s.ring.asks[st]).isSome = false; rw [hasks st]; rfl
  | composer => show s.ring.composerAsk.isSome = false; rw [hcomposer]; rfl
  | idlePoller => show (nextServed s).isSome = false; rw [nextServed_eq_none hdue]; rfl

/-! ### When the Arbiter grants, and what (R144, R149) -/

theorem arbitrate_of_busy {s : State} (h : s.ring.engine.isSome = true) : arbitrate s = s := by
  obtain ⟨t, ht⟩ := Option.isSome_iff_exists.mp h
  rw [arbitrate, grantLoop, ht]

theorem arbitrate_of_none {s : State} (h : nextGranted s = none) : arbitrate s = s := by
  rw [arbitrate, grantLoop, h]
  split <;> rfl

theorem arbitrate_of_noAsk {s : State} (h : NoAsk s) : arbitrate s = s := arbitrate_of_none (nextGranted_eq_none h.hasAsk)

/-- A grant that starts a transaction is the only one. -/
theorem arbitrate_of_granted {s : State} {r : Requester} (he : s.ring.engine = none) (hr : nextGranted s = some r)
    (hb : (grantTo r s).ring.engine.isSome = true) : arbitrate s = grantTo r s := by
  obtain ⟨t, ht⟩ := Option.isSome_iff_exists.mp hb
  rw [arbitrate, grantLoop, he]
  simp only [hr]
  rw [grantLoop, ht]

/-- A grant that starts nothing is followed by the next at once (R169). -/
theorem arbitrate_of_answered {s : State} {r : Requester} (he : s.ring.engine = none) (hr : nextGranted s = some r)
    (hn : nextGranted (grantTo r s) = none) : arbitrate s = grantTo r s := by
  rw [arbitrate, grantLoop, he]
  simp only [hr]
  rw [grantLoop, hn]
  split <;> rfl

theorem startOwn_eq {s : State} {i : Fin 16} {d : Device} (h : s.devices[i] = some d) (r : Requester) (kind : Byte)
    (payload : List Byte) (p : Purpose) :
    startOwn r i kind payload p s = { s with
      devices := s.devices.set i.val (some { d with tag := d.tag + 1 }) i.isLt
      ring := { s.ring with engine := some (granted s r i d p kind payload) } } := by
  simp only [startOwn, h, modDevice, upd, Option.map_some]
  rfl

theorem deviceIdx_get {s : State} {a : Byte} {i : Fin 16} (h : deviceIdx s a = some i) :
    ∃ d, s.devices[i] = some d ∧ d.addr = a := by
  have := List.find?_some h
  split at this
  · next d hd => exact ⟨d, hd, beq_iff_eq.mp this⟩
  · cases this

theorem grantTo_station {s : State} {st : St} {a : Ask} {i : Fin 16} {d : Device} (ha : s.ring.asks[st] = some a)
    (hd : DeviceAt s i d) (hda : d.addr = a.address) :
    grantTo (.station st) s = { s with
      devices := s.devices.set i.val (some { d with tag := d.tag + 1 }) i.isLt
      ring := { s.ring with
        asks := s.ring.asks.set st.val none st.isLt, lastGranted := .station st
        engine := some (granted s (.station st) i d a.purpose a.kind a.payload) } } := by
  obtain ⟨hdev, hidx⟩ := hd
  have hidx' : deviceIdx { s with ring := { s.ring with lastGranted := .station st } } a.address = some i := hda ▸ hidx
  show grantStation st { s with ring := { s.ring with lastGranted := .station st } } = _
  rw [grantStation]
  dsimp only
  rw [ha]
  dsimp only
  rw [hidx']
  dsimp only
  rw [startOwn_eq (by exact hdev)]
  rfl

theorem countPrint_of_ne {p : Purpose} (h : p ≠ .print) (s : State) : countPrint p s = s := if_neg h

theorem grantComposer_eq {s : State} {a : Ask} {i : Fin 16} {d : Device} (ha : s.ring.composerAsk = some a)
    (hi : deviceIdx s a.address = some i) (hd : s.devices[i] = some d) :
    grantComposer s = countPrint a.purpose { s with
      devices := s.devices.set i.val (some { d with tag := d.tag + 1 }) i.isLt
      ring := { s.ring with
        composerAsk := none, engine := some (granted s .composer i d a.purpose a.kind a.payload) } } := by
  have hstart := startOwn_eq (s := dropComposerAsk s) (by exact hd) .composer a.kind a.payload a.purpose
  simp only [grantComposer, ha, hi, hstart]
  rfl

theorem grantTo_composer {s : State} {a : Ask} {i : Fin 16} {d : Device} (ha : s.ring.composerAsk = some a)
    (hd : DeviceAt s i d) (hda : d.addr = a.address) :
    grantTo .composer s = countPrint a.purpose { s with
      devices := s.devices.set i.val (some { d with tag := d.tag + 1 }) i.isLt
      ring := { s.ring with
        composerAsk := none, lastGranted := .composer
        engine := some (granted s .composer i d a.purpose a.kind a.payload) } } := by
  obtain ⟨hdev, hidx⟩ := hd
  have hidx' : deviceIdx { s with ring := { s.ring with lastGranted := .composer } } a.address = some i := hda ▸ hidx
  exact grantComposer_eq ha hidx' hdev

theorem grantForward_free {s : State} {f : LinkFrame} {i : Fin 16} {d : Device} (hs : s.slot = .asking f)
    (hp : isProtected s f = false) (hi : deviceIdx s f.dst = some i) (hd : s.devices[i] = some d) :
    grantForward s = { s with
      slot := .running f
      ring := { s.ring with engine := some ⟨.forward, i, d.cls, .forwarded, f, 1, false, false, false, 0⟩ } } := by
  simp only [grantForward, hs, hp, Bool.false_eq_true, if_false, hi, hd]

theorem grantForward_protected {s : State} {f : LinkFrame} (hs : s.slot = .asking f) (hp : isProtected s f = true) :
    grantForward s = answerForward (.result f.tag .protectedDevice []) s := by
  simp only [grantForward, hs, hp, if_true]

theorem grantTo_forward {s : State} {f : LinkFrame} {i : Fin 16} {d : Device} (hs : s.slot = .asking f)
    (hp : ¬ ControllerOnly s f) (hd : DeviceAt s i d) (hda : d.addr = f.dst) :
    grantTo .forward s = { s with
      slot := .running f
      ring := { s.ring with
        lastGranted := .forward
        engine := some ⟨.forward, i, d.cls, .forwarded, f, 1, false, false, false, 0⟩ } } := by
  obtain ⟨hdev, hidx⟩ := hd
  have hidx' : deviceIdx { s with ring := { s.ring with lastGranted := .forward } } f.dst = some i := hda ▸ hidx
  have hp' : isProtected { s with ring := { s.ring with lastGranted := .forward } } f = false :=
    Bool.eq_false_iff.mpr (mt (isProtected_iff s f).mp hp)
  exact grantForward_free hs hp' hidx' hdev

theorem grantTo_forward_protected {s : State} {f : LinkFrame} (hs : s.slot = .asking f) (hp : ControllerOnly s f) :
    grantTo .forward s = answerForward (.result f.tag .protectedDevice [])
      { s with ring := { s.ring with lastGranted := .forward } } := by
  have hp' : isProtected { s with ring := { s.ring with lastGranted := .forward } } f = true := (isProtected_iff s f).mpr hp
  exact grantForward_protected hs hp'

theorem grantTo_poll {s : State} {i : Fin 16} {d : Device} (hn : nextServed s = some i) (hd : s.devices[i] = some d)
    (hup : d.link = .up) :
    grantTo .idlePoller s = { s with
      devices := s.devices.set i.val (some { d with tag := d.tag + 1, duePoll := false }) i.isLt
      ring := { s.ring with
        lastGranted := .idlePoller, lastServed := i
        engine := some (granted s .idlePoller i d .idlePoll 0x02 []) } } := by
  have hn' : nextServed { s with ring := { s.ring with lastGranted := .idlePoller } } = some i := hn
  show grantIdle { s with ring := { s.ring with lastGranted := .idlePoller } } = _
  rw [grantIdle, hn']
  dsimp only
  rw [hd]
  dsimp only
  rw [if_pos hup, startOwn_eq (d := { d with duePoll := false }) (by simp [modDevice, upd, hd])]
  simp [modDevice, upd, hd, granted]
  rfl

theorem grantTo_wake {s : State} {i : Fin 16} {d : Device} (hn : nextServed s = some i) (hd : s.devices[i] = some d)
    (hup : d.link ≠ .up) :
    grantTo .idlePoller s = { s with
      devices := s.devices.set i.val
        (some { d with tag := d.tag + 1, dueWake := false, link := .waking (d.link == .lost) }) i.isLt
      ring := { s.ring with
        lastGranted := .idlePoller, lastServed := i
        engine := some (granted s .idlePoller i d .wake 0x01 []) } } := by
  have hn' : nextServed { s with ring := { s.ring with lastGranted := .idlePoller } } = some i := hn
  show grantIdle { s with ring := { s.ring with lastGranted := .idlePoller } } = _
  rw [grantIdle, hn']
  dsimp only
  rw [hd]
  dsimp only
  rw [if_neg hup, startOwn_eq (d := { d with dueWake := false, link := .waking (d.link == .lost) }) (by simp [modDevice, upd, hd])]
  simp [modDevice, upd, hd, granted]
  rfl

/-! ### The engine after a grant: idle, or sending (R144) -/

/-- Only the link's own parts, the transmitter and the Composer's count change with a grant. -/
def grantParts : List Part := [.port, .eventQueue, .composer, .devices, .ring, .slot]

theorem startOwn_onlyChanges (r : Requester) (i : Fin 16) (kind : Byte) (payload : List Byte) (p : Purpose) (s : State) :
    OnlyChanges [.devices, .ring] s (startOwn r i kind payload p s) := by
  cases hd : s.devices[i] with
  | none => rw [startOwn, hd]; exact .refl _ s
  | some d =>
    rw [startOwn_eq hd]
    intro q hq
    cases q with
    | devices | ring => exact absurd (by decide) hq
    | _ => rfl

theorem eventQueue_onlyChanges (q : EventQueue) (s : State) : OnlyChanges [.eventQueue] s { s with eq := q } := by
  intro p hp
  cases p with
  | eventQueue => exact absurd (List.mem_singleton_self _) hp
  | _ => rfl

theorem slot_onlyChanges (x : ForwardSlot) (s : State) : OnlyChanges [.slot] s { s with slot := x } := by
  intro p hp
  cases p with
  | slot => exact absurd (List.mem_singleton_self _) hp
  | _ => rfl

theorem joinTail_onlyChanges (r : Record) (s : State) : OnlyChanges [.port, .eventQueue] s (joinTail r s) :=
  ((eventQueue_onlyChanges _ s).widen).andThen (startTransmit_onlyChanges _)

theorem answerWith_onlyChanges (r : Record) (s : State) : OnlyChanges [.port, .eventQueue] s (answerWith r s) :=
  ((eventQueue_onlyChanges _ s).widen).andThen (joinTail_onlyChanges r _)

theorem answerForward_onlyChanges (r : Record) (s : State) : OnlyChanges [.port, .eventQueue, .slot] s (answerForward r s) :=
  ((slot_onlyChanges _ s).widen).andThen (answerWith_onlyChanges r _)

theorem countPrint_onlyChanges (p : Purpose) (s : State) : OnlyChanges [.composer] s (countPrint p s) := by
  unfold countPrint
  split
  · exact modComposer_onlyChanges _ s
  · exact .refl _ s

theorem grantForward_onlyChanges (s : State) : OnlyChanges grantParts s (grantForward s) := by
  unfold grantForward
  split
  · next f _ =>
    split
    · exact (answerForward_onlyChanges _ s).widen
    split
    · split
      · intro p hp
        cases p with
        | slot | ring => exact absurd (by decide) hp
        | _ => rfl
      · exact (answerForward_onlyChanges _ s).widen
    · exact (answerForward_onlyChanges _ s).widen
  · exact .refl _ s
  · exact .refl _ s

theorem grantStation_onlyChanges (st : St) (s : State) : OnlyChanges grantParts s (grantStation st s) := by
  have hdrop : OnlyChanges grantParts s (dropAsk st s) := (ring_onlyChanges _ s).widen
  unfold grantStation
  split
  · split
    · exact hdrop.andThen (startOwn_onlyChanges _ _ _ _ _ _)
    · exact hdrop
  · exact .refl _ s

theorem grantComposer_onlyChanges (s : State) : OnlyChanges grantParts s (grantComposer s) := by
  have hdrop : OnlyChanges grantParts s (dropComposerAsk s) := (ring_onlyChanges _ s).widen
  unfold grantComposer
  split
  · split
    · exact (hdrop.andThen (startOwn_onlyChanges _ _ _ _ _ _)).andThen (countPrint_onlyChanges _ _)
    · exact hdrop
  · exact .refl _ s

theorem modDevice_onlyChanges (i : Fin 16) (f : Device → Device) (s : State) : OnlyChanges [.devices] s (modDevice i f s) :=
  devices_onlyChanges _ s

theorem grantIdle_onlyChanges (s : State) : OnlyChanges grantParts s (grantIdle s) := by
  unfold grantIdle
  split
  · exact .refl _ s
  split
  · exact .refl _ s
  · next i _ _ d _ =>
    have hserved : OnlyChanges grantParts s { s with ring := { s.ring with lastServed := i } } := (ring_onlyChanges _ s).widen
    dsimp only
    split <;> exact (hserved.andThen (modDevice_onlyChanges _ _ _)).andThen (startOwn_onlyChanges _ _ _ _ _ _)

theorem grantTo_onlyChanges (r : Requester) (s : State) : OnlyChanges grantParts s (grantTo r s) := by
  have hlast : OnlyChanges grantParts s { s with ring := { s.ring with lastGranted := r } } := (ring_onlyChanges _ s).widen
  cases r with
  | forward => exact hlast.andThen (grantForward_onlyChanges _)
  | station st => exact hlast.andThen (grantStation_onlyChanges st _)
  | composer => exact hlast.andThen (grantComposer_onlyChanges _)
  | idlePoller => exact hlast.andThen (grantIdle_onlyChanges _)

theorem grantLoop_onlyChanges (n : Nat) (s : State) : OnlyChanges grantParts s (grantLoop n s) := by
  induction n generalizing s with
  | zero => exact .refl _ s
  | succ n ih =>
    unfold grantLoop
    split
    · exact .refl _ s
    split
    · exact (grantTo_onlyChanges _ s).andThen (ih _)
    · exact .refl _ s

theorem arbitrate_onlyChanges (s : State) : OnlyChanges grantParts s (arbitrate s) := grantLoop_onlyChanges 8 s

/-- The engine is idle, or it sends the frame of its attempt. -/
def IdleOrSending (r : Ring) : Prop := ∀ t, r.engine = some t → t.opened < t.attempt

theorem IdleOrSending.of_idle {r : Ring} (h : r.engine = none) : IdleOrSending r := by
  intro t ht
  rw [h] at ht
  cases ht

theorem IdleOrSending.of_started {r : Ring} {t : Transaction} (h : r.engine = some t) (ht : t.opened < t.attempt) : IdleOrSending r := by
  intro t' ht'
  rw [h] at ht'
  cases ht'
  exact ht

theorem startOwn_sending (r : Requester) (i : Fin 16) (kind : Byte) (payload : List Byte) (p : Purpose) {s : State}
    (h : IdleOrSending s.ring) : IdleOrSending (startOwn r i kind payload p s).ring := by
  cases hd : s.devices[i] with
  | none => rw [startOwn, hd]; exact h
  | some d => rw [startOwn_eq hd]; exact .of_started rfl Nat.zero_lt_one

theorem grantForward_sending {s : State} (h : IdleOrSending s.ring) : IdleOrSending (grantForward s).ring := by
  have hanswered (r : Record) : IdleOrSending (answerForward r s).ring :=
    (answerForward_onlyChanges r s .ring (by decide)).symm ▸ h
  unfold grantForward
  split
  · split
    · exact hanswered _
    split
    · split
      · exact .of_started rfl Nat.zero_lt_one
      · exact hanswered _
    · exact hanswered _
  · exact h
  · exact h

theorem countPrint_sending {p : Purpose} {s : State} (h : IdleOrSending s.ring) : IdleOrSending (countPrint p s).ring :=
  (countPrint_onlyChanges p s .ring (by decide)).symm ▸ h

theorem grantTo_sending (r : Requester) {s : State} (h : IdleOrSending s.ring) : IdleOrSending (grantTo r s).ring := by
  cases r with
  | forward => exact grantForward_sending h
  | station st =>
    show IdleOrSending (grantStation st _).ring
    unfold grantStation
    split
    · split
      · exact startOwn_sending _ _ _ _ _ h
      · exact h
    · exact h
  | composer =>
    show IdleOrSending (grantComposer _).ring
    unfold grantComposer
    split
    · split
      · exact countPrint_sending (startOwn_sending _ _ _ _ _ h)
      · exact h
    · exact h
  | idlePoller =>
    show IdleOrSending (grantIdle _).ring
    unfold grantIdle
    split
    · exact h
    split
    · exact h
    · dsimp only
      split <;> exact startOwn_sending _ _ _ _ _ h

theorem grantLoop_sending (n : Nat) {s : State} (h : IdleOrSending s.ring) : IdleOrSending (grantLoop n s).ring := by
  induction n generalizing s with
  | zero => exact h
  | succ n ih =>
    unfold grantLoop
    split
    · exact h
    split
    · exact ih (grantTo_sending _ h)
    · exact h

/-- RDIR is asserted from a grant on: the granted frame is being sent. -/
theorem rdir_arbitrate {s : State} (hl : Live s) (he : s.ring.engine = none) (hg : (arbitrate s).ring.engine.isSome = true) :
    rdir (arbitrate s) = true := by
  obtain ⟨t, ht⟩ := Option.isSome_iff_exists.mp hg
  have hpins : (arbitrate s).pins = s.pins := arbitrate_onlyChanges s .pins (by decide)
  exact (rdir_iff _).mpr ⟨by rw [hpins]; exact hl, t, ht, grantLoop_sending 8 (.of_idle he) t ht⟩

/-- Settles O45. -/
theorem arbiterSearchesCircle : Obligations.ArbiterSearchesCircle := by
  refine ⟨fun s r => nextGranted_some, fun s r => nextGranted_isSome, fun s h => h.elim arbitrate_of_busy arbitrate_of_none,
    fun s => rdir_arbitrate, fun s he => ⟨?_, ?_, ?_, ?_⟩⟩
  · intro st a i d hg ha hd hda
    have hto := grantTo_station ha hd hda
    rw [arbitrate_of_granted he hg (by rw [hto]; rfl), hto]
  · intro a i d hg ha hp hd hda
    have hto := (grantTo_composer ha hd hda).trans (countPrint_of_ne hp _)
    rw [arbitrate_of_granted he hg (by rw [hto]; rfl), hto]
  · intro f i d hg hs hp hd hda
    have hto := grantTo_forward hs hp hd hda
    rw [arbitrate_of_granted he hg (by rw [hto]; rfl), hto]
  · intro i d hg hn hd
    refine ⟨fun hup => ?_, fun hdown => ?_⟩
    · have hto := grantTo_poll hn hd hup
      rw [arbitrate_of_granted he hg (by rw [hto]; rfl), hto]
    · have hto := grantTo_wake hn hd (by rintro h; rw [h] at hdown; exact hdown.elim nofun nofun)
      rw [arbitrate_of_granted he hg (by rw [hto]; rfl), hto]

end Sys2Proof.Machine
end

section
/-! PROOFS. When an act ends where its command left it (R69, R149, R186): what a device keeps while its busy marker, timers or tag
change, when the stations' resumes and tries are settled, and the forms of the operations that the commands are made of. -/

namespace Sys2Proof.Machine

/-! ### Devices that keep their links (R63, R137) -/

/-- What a busy marker, a timer or a tag leaves of an entry: address, class and link state; and nothing has become due. -/
def DeviceKept (d e : Device) : Prop :=
  e.addr = d.addr ∧ e.cls = d.cls ∧ e.link = d.link ∧ (e.dueWake = true → d.dueWake = true)
    ∧ (e.duePoll = true → d.duePoll = true)

/-- Every entry of the Device Table is kept so. -/
def DevicesKept (v w : Vector (Option Device) 16) : Prop := ∀ i : Fin 16, Option.Rel DeviceKept v[i] w[i]

theorem DeviceKept.refl (d : Device) : DeviceKept d d := ⟨rfl, rfl, rfl, id, id⟩

theorem DeviceKept.trans {d e f : Device} (h : DeviceKept d e) (k : DeviceKept e f) : DeviceKept d f := by
  obtain ⟨haddr, hcls, hlink, hwake, hpoll⟩ := h
  obtain ⟨kaddr, kcls, klink, kwake, kpoll⟩ := k
  exact ⟨kaddr.trans haddr, kcls.trans hcls, klink.trans hlink, hwake ∘ kwake, hpoll ∘ kpoll⟩

theorem optionRel_refl {α : Type} {r : α → α → Prop} (h : ∀ a, r a a) : ∀ x : Option α, Option.Rel r x x
  | none => .none
  | some a => .some (h a)

theorem DevicesKept.refl (v : Vector (Option Device) 16) : DevicesKept v v := fun i => optionRel_refl DeviceKept.refl v[i]

theorem DevicesKept.trans {u v w : Vector (Option Device) 16} (h : DevicesKept u v) (k : DevicesKept v w) : DevicesKept u w := by
  intro i
  have hi := h i
  have ki := k i
  revert hi ki
  generalize u[i] = x
  generalize v[i] = y
  generalize w[i] = z
  intro hi ki
  cases hi with
  | none => exact ki
  | some hd => cases ki with
    | some he => exact .some (hd.trans he)

theorem devicesKept_upd {f : Device → Device} (hf : ∀ d, DeviceKept d (f d)) (i : Fin 16) (v : Vector (Option Device) 16) :
    DevicesKept v (upd v i (Option.map f)) := by
  intro j
  rw [upd_get]
  split
  · cases hd : v[j] with
    | none => exact .none
    | some d => exact .some (hf d)
  · exact optionRel_refl DeviceKept.refl _

theorem devicesKept_set {v : Vector (Option Device) 16} {i : Fin 16} {d e : Device} (hd : v[i] = some d) (h : DeviceKept d e) :
    DevicesKept v (v.set i.val (some e) i.isLt) := by
  intro j
  rw [set_get]
  split
  · next hj => rw [hj, hd]; exact .some h
  · exact optionRel_refl DeviceKept.refl _

theorem DevicesKept.addr_eq {v w : Vector (Option Device) 16} (h : DevicesKept v w) (i : Fin 16) (a : Byte) :
    (match w[i] with | some d => d.addr == a | none => false) = (match v[i] with | some d => d.addr == a | none => false) := by
  have hi := h i
  revert hi
  generalize v[i] = x
  generalize w[i] = y
  intro hi
  cases hi with
  | none => rfl
  | some hd => simp only [hd.1]

theorem deviceIdx_kept {s t : State} (h : DevicesKept s.devices t.devices) (a : Byte) : deviceIdx t a = deviceIdx s a := by
  unfold deviceIdx
  congr 1
  funext i
  exact h.addr_eq i a

theorem isUp_kept {s t : State} (h : DevicesKept s.devices t.devices) (a : Byte) : isUp t a = isUp s a := by
  unfold isUp
  rw [deviceIdx_kept h]
  split
  · next i hi =>
    have hi := h i
    revert hi
    generalize s.devices[i] = x
    generalize t.devices[i] = y
    intro hi
    cases hi with
    | none => rfl
    | some hd => simp only [hd.2.2.1]
  · rfl

/-- The facts that a station's resume and try turn on, besides its own entry (R63, R69, R186). -/
theorem bothUp_kept {s t : State} {st : St} (hb : t.bindings[st].binding = s.bindings[st].binding)
    (hd : DevicesKept s.devices t.devices) : bothUp t st = bothUp s st := by
  unfold bothUp cameraOf lampOf
  rw [hb, isUp_kept hd, isUp_kept hd]

theorem isUp_of_deviceAt {s : State} {i : Fin 16} {d : Device} (h : DeviceAt s i d) : isUp s d.addr = (d.link == .up) := by
  obtain ⟨hdev, hidx⟩ := h
  simp only [isUp, hidx, hdev]

theorem BoundUp.camera {s : State} {st : St} {b : Binding} (h : BoundUp s st b) : cameraOf s st = b.camera := by
  rw [cameraOf, h.1]; rfl

theorem BoundUp.lamp {s : State} {st : St} {b : Binding} (h : BoundUp s st b) : lampOf s st = b.lamp := by
  rw [lampOf, h.1]; rfl

theorem bothUp_iff {s : State} {st : St} : bothUp s st = true
    ↔ s.bindings[st].binding.isSome = true ∧ isUp s (cameraOf s st) = true ∧ isUp s (lampOf s st) = true := by
  simp [bothUp, and_assoc]

theorem BoundUp.cameraUp {s : State} {st : St} {b : Binding} (h : BoundUp s st b) : isUp s (cameraOf s st) = true :=
  (bothUp_iff.mp h.2).2.1

theorem BoundUp.lampUp {s : State} {st : St} {b : Binding} (h : BoundUp s st b) : isUp s (lampOf s st) = true :=
  (bothUp_iff.mp h.2).2.2

/-! ### A device that leaves UP (R146, R157) -/

/-- An entry that is UP no more than before, and no more due. -/
def DeviceLess (d e : Device) : Prop :=
  e.addr = d.addr ∧ (e.link = .up → d.link = .up) ∧ (e.dueWake = true → d.dueWake = true) ∧ (e.duePoll = true → d.duePoll = true)

def DevicesLess (v w : Vector (Option Device) 16) : Prop := ∀ i : Fin 16, Option.Rel DeviceLess v[i] w[i]

theorem DeviceLess.refl (d : Device) : DeviceLess d d := ⟨rfl, id, id, id⟩

theorem DeviceKept.less {d e : Device} (h : DeviceKept d e) : DeviceLess d e := by
  obtain ⟨haddr, -, hlink, hwake, hpoll⟩ := h
  exact ⟨haddr, fun h => hlink ▸ h, hwake, hpoll⟩

theorem DeviceLess.trans {d e f : Device} (h : DeviceLess d e) (k : DeviceLess e f) : DeviceLess d f := by
  obtain ⟨haddr, hlink, hwake, hpoll⟩ := h
  obtain ⟨kaddr, klink, kwake, kpoll⟩ := k
  exact ⟨kaddr.trans haddr, hlink ∘ klink, hwake ∘ kwake, hpoll ∘ kpoll⟩

theorem optionRel_trans {α : Type} {r q p : α → α → Prop} (h : ∀ a b c, r a b → q b c → p a c) {x y z : Option α}
    (hxy : Option.Rel r x y) (hyz : Option.Rel q y z) : Option.Rel p x z := by
  cases hxy with
  | none => cases hyz; exact .none
  | some hab => cases hyz with
    | some hbc => exact .some (h _ _ _ hab hbc)

theorem DevicesLess.refl (v : Vector (Option Device) 16) : DevicesLess v v := fun i => optionRel_refl DeviceLess.refl v[i]

theorem DevicesLess.kept {u v w : Vector (Option Device) 16} (h : DevicesLess u v) (k : DevicesKept v w) : DevicesLess u w :=
  fun i => optionRel_trans (fun _ _ _ hd he => hd.trans he.less) (h i) (k i)

theorem devicesLess_set {v : Vector (Option Device) 16} {i : Fin 16} {d e : Device} (hd : v[i] = some d) (h : DeviceLess d e) :
    DevicesLess v (v.set i.val (some e) i.isLt) := by
  intro j
  rw [set_get]
  split
  · next hj => rw [hj, hd]; exact .some h
  · exact optionRel_refl DeviceLess.refl _

theorem deviceIdx_less {s t : State} (h : DevicesLess s.devices t.devices) (a : Byte) : deviceIdx t a = deviceIdx s a := by
  unfold deviceIdx
  congr 1
  funext i
  have hi := h i
  revert hi
  generalize s.devices[i] = x
  generalize t.devices[i] = y
  intro hi
  cases hi with
  | none => rfl
  | some hd => simp only [hd.1]

theorem isUp_less {s t : State} (h : DevicesLess s.devices t.devices) {a : Byte} (hup : isUp t a = true) : isUp s a = true := by
  unfold isUp at hup ⊢
  rw [deviceIdx_less h] at hup
  revert hup
  split
  · next i hi =>
    have hi := h i
    revert hi
    generalize s.devices[i] = x
    generalize t.devices[i] = y
    intro hi
    cases hi with
    | none => exact id
    | some hd => simp only [beq_iff_eq]; exact hd.2.1
  · exact id

theorem bothUp_less {s t : State} {st : St} (hb : t.bindings[st].binding = s.bindings[st].binding)
    (h : DevicesLess s.devices t.devices) (hup : bothUp t st = true) : bothUp s st = true := by
  have hcamera : cameraOf t st = cameraOf s st := by rw [cameraOf, cameraOf, hb]
  have hlamp : lampOf t st = lampOf s st := by rw [lampOf, lampOf, hb]
  rw [bothUp_iff, hcamera, hlamp, hb] at hup
  exact bothUp_iff.mpr ⟨hup.1, isUp_less h hup.2.1, isUp_less h hup.2.2⟩

/-! ### Settled stations (R69, R186) -/

/-- A station has neither a resume to begin nor a head to try. -/
def AtRest (s : State) (st : St) : Prop := resumable s st = false ∧ tryable s st = false

/-- A station's own entries, and the links of its devices, are the same. -/
theorem atRest_congr {s t : State} {st : St} (hs : t.stations[st] = s.stations[st]) (hr : t.rolls[st].map = s.rolls[st].map)
    (hb : bothUp t st = bothUp s st) (h : AtRest s st) : AtRest t st := by
  unfold AtRest resumable tryable closeUnderWay at h ⊢
  rw [hs, hr, hb]
  exact h

theorem resumable_iff {s : State} {st : St} : resumable s st = true
    ↔ s.stations[st].state = .suspended ∧ bothUp s st = true ∧ s.stations[st].susp.releaseOwed = false
      ∧ s.stations[st].pendingPost = none ∧ s.stations[st].susp.step = .awaiting ∧ s.rolls[st].map.isSome = true
      ∧ closeUnderWay s st = false := by
  simp [resumable, and_assoc]

theorem tryable_iff {s : State} {st : St} : tryable s st = true
    ↔ s.stations[st].state = .ready ∧ s.stations[st].rollCheck = false ∧ s.stations[st].pendingPost = none
      ∧ s.rolls[st].map.isSome = true ∧ closeUnderWay s st = false ∧ s.stations[st].queue ≠ [] := by
  simp [tryable, and_assoc]

theorem atRest_iff {s : State} {st : St} : AtRest s st ↔
    (s.stations[st].state = .suspended → bothUp s st = true → s.stations[st].susp.releaseOwed = false →
      s.stations[st].pendingPost = none → s.stations[st].susp.step = .awaiting → s.rolls[st].map.isSome = true →
      closeUnderWay s st = true)
    ∧ (s.stations[st].state = .ready → s.stations[st].rollCheck = false → s.stations[st].pendingPost = none →
      s.rolls[st].map.isSome = true → closeUnderWay s st = false → s.stations[st].queue = []) := by
  unfold AtRest
  rw [Bool.eq_false_iff, Bool.eq_false_iff, ne_eq, ne_eq, resumable_iff, tryable_iff]
  simp

theorem atRest_of_state {s : State} {st : St} (hsusp : s.stations[st].state ≠ .suspended) (hready : s.stations[st].state ≠ .ready) :
    AtRest s st := atRest_iff.mpr ⟨fun h => absurd h hsusp, fun h => absurd h hready⟩

theorem atRest_of_owed {s : State} {st : St} (hsusp : s.stations[st].state = .suspended)
    (howed : s.stations[st].susp.releaseOwed = true) : AtRest s st :=
  atRest_iff.mpr ⟨fun _ _ h => absurd (howed.symm.trans h) nofun, fun h => absurd (hsusp.symm.trans h) nofun⟩

theorem atRest_of_down {s : State} {st : St} (hsusp : s.stations[st].state = .suspended) (hdown : bothUp s st = false) :
    AtRest s st :=
  atRest_iff.mpr ⟨fun _ h => absurd (hdown.symm.trans h) nofun, fun h => absurd (hsusp.symm.trans h) nofun⟩

theorem atRest_of_post {s : State} {st : St} (hpost : s.stations[st].pendingPost.isSome = true) : AtRest s st := by
  have hne : s.stations[st].pendingPost ≠ none := Option.isSome_iff_ne_none.mp hpost
  exact atRest_iff.mpr ⟨fun _ _ _ h => absurd h hne, fun _ _ h => absurd h hne⟩

theorem atRest_of_step {s : State} {st : St} (hsusp : s.stations[st].state = .suspended)
    (hstep : s.stations[st].susp.step ≠ .awaiting) : AtRest s st :=
  atRest_iff.mpr ⟨fun _ _ _ _ h => absurd h hstep, fun h => absurd (hsusp.symm.trans h) nofun⟩

theorem atRest_of_empty {s : State} {st : St} (hsusp : s.stations[st].state ≠ .suspended) (hq : s.stations[st].queue = []) :
    AtRest s st := atRest_iff.mpr ⟨fun h => absurd h hsusp, fun _ _ _ _ _ => hq⟩

theorem atRest_of_check {s : State} {st : St} (hsusp : s.stations[st].state ≠ .suspended)
    (hcheck : s.stations[st].rollCheck = true) : AtRest s st :=
  atRest_iff.mpr ⟨fun h => absurd h hsusp, fun _ h => absurd (hcheck.symm.trans h) nofun⟩

/-- One station alone has been touched. -/
theorem settled_of_others {s t : State} {st : St} (h : Settled s) (hs : OthersSame st s.stations t.stations)
    (hr : OthersSame st s.rolls t.rolls) (hb : t.bindings = s.bindings) (hd : DevicesKept s.devices t.devices)
    (hst : AtRest t st) : Settled t := by
  intro st'
  by_cases e : st' = st
  · exact e ▸ hst
  · exact atRest_congr (hs st' e) (congrArg RollRec.map (hr st' e)) (bothUp_kept (by rw [hb]) hd) (h st')

/-- No station has been touched. -/
theorem settled_of_same {s t : State} (h : Settled s) (hs : t.stations = s.stations) (hr : t.rolls = s.rolls)
    (hb : t.bindings = s.bindings) (hd : DevicesKept s.devices t.devices) : Settled t := fun st =>
  atRest_congr (by rw [hs]) (by rw [hr]) (bothUp_kept (by rw [hb]) hd) (h st)

theorem atRest_mono {s t : State} {st : St} (hs : t.stations[st] = s.stations[st]) (hr : t.rolls[st].map = s.rolls[st].map)
    (hb : bothUp t st = true → bothUp s st = true) (h : AtRest s st) : AtRest t st := by
  have hclose : closeUnderWay t st = closeUnderWay s st := by unfold closeUnderWay; rw [hr]
  rw [atRest_iff] at h ⊢
  rw [hs, hr, hclose]
  exact ⟨fun hsusp hup => h.1 hsusp (hb hup), h.2⟩

theorem settled_of_fewer {s t : State} (h : Settled s) (hs : t.stations = s.stations) (hr : t.rolls = s.rolls)
    (hb : ∀ st, bothUp t st = true → bothUp s st = true) : Settled t := fun st =>
  atRest_mono (by rw [hs]) (by rw [hr]) (hb st) (h st)

theorem settled_of_less {s t : State} {st : St} (h : Settled s) (hs : OthersSame st s.stations t.stations)
    (hr : OthersSame st s.rolls t.rolls) (hb : t.bindings = s.bindings) (hd : DevicesLess s.devices t.devices)
    (hst : AtRest t st) : Settled t := by
  intro st'
  by_cases e : st' = st
  · exact e ▸ hst
  · exact atRest_mono (hs st' e) (congrArg RollRec.map (hr st' e)) (bothUp_less (by rw [hb]) hd) (h st')

theorem settleStation_of_atRest {n : Nat} {st : St} {s : State} (h : AtRest s st) : settleStation n st s = s := by
  cases n with
  | zero => rfl
  | succ n => rw [settleStation, if_neg (by rw [h.1]; decide), if_neg (by rw [h.2]; decide)]

/-- The stations' part of a settle, over a list of stations. -/
def settleAll (l : List St) (s : State) : State :=
  l.foldl (fun s st => settleStation (s.stations[st].queue.length + 2) st s) s

theorem settle_eq (s : State) : settle s = settleAll (List.finRange 4) s := rfl

theorem settleAll_of_atRest {l : List St} {s : State} (h : ∀ st ∈ l, AtRest s st) : settleAll l s = s := by
  induction l with
  | nil => rfl
  | cons st l ih =>
    show settleAll l (settleStation _ st s) = s
    rw [settleStation_of_atRest (h st List.mem_cons_self)]
    exact ih fun st' hm => h st' (List.mem_cons_of_mem _ hm)

theorem settle_of_settled {s : State} (h : Settled s) : settle s = s := settleAll_of_atRest fun st _ => h st

theorem settleAll_append (l₁ l₂ : List St) (s : State) : settleAll (l₁ ++ l₂) s = settleAll l₂ (settleAll l₁ s) :=
  List.foldl_append

/-- One station alone has a resume or a try to make, and what it leaves is settled. -/
theorem settle_of_one {s u : State} {st : St} (hothers : ∀ st', st' ≠ st → AtRest s st')
    (hu : settleStation (s.stations[st].queue.length + 2) st s = u) (hsettled : Settled u) : settle s = u := by
  obtain ⟨l₁, l₂, hl⟩ := List.append_of_mem (List.mem_finRange st)
  have hnodup : (l₁ ++ st :: l₂).Nodup := hl ▸ List.nodup_finRange 4
  have hnotin : st ∉ l₁ := fun hm => (List.nodup_append.mp hnodup).2.2 st hm st List.mem_cons_self rfl
  rw [settle_eq, hl, settleAll_append, settleAll_of_atRest fun st' hm => hothers st' fun e => hnotin (e ▸ hm)]
  show settleAll l₂ (settleStation _ st s) = u
  rw [hu]
  exact settleAll_of_atRest fun st' _ => hsettled st'

theorem settleStation_resumes {s : State} {st : St} (n : Nat) (h : resumable s st = true) (hrest : AtRest (beginCheck st s) st) :
    settleStation (n + 2) st s = beginCheck st s := by
  rw [settleStation, if_pos h, settleStation_of_atRest hrest]

theorem settleStation_tries {s : State} {st : St} (n : Nat) (hr : resumable s st = false) (h : tryable s st = true)
    (hrest : AtRest (tryHead st s) st) : settleStation (n + 2) st s = tryHead st s := by
  rw [settleStation, if_neg (by rw [hr]; decide), if_pos h, settleStation_of_atRest hrest]

/-! ### The end of an act that adds nothing (R144, R149) -/

theorem finish_of_busy {s : State} (h : Settled s) (hb : EngineBusy s) : finish s = s := by
  rw [finish, settle_of_settled h, arbitrate_of_busy hb]

theorem finish_of_noAsk {s : State} (h : Settled s) (hn : NoAsk s) : finish s = s := by
  rw [finish, settle_of_settled h, arbitrate_of_noAsk hn]

/-- No ask stands in a state whose asks, slot and due entries go back to one without. -/
theorem NoAsk.less {s t : State} (h : NoAsk s) (hslot : t.slot = s.slot) (hasks : ∀ st : St, t.ring.asks[st] = none)
    (hcomposer : t.ring.composerAsk = none) (hd : DevicesLess s.devices t.devices) : NoAsk t := by
  obtain ⟨kslot, -, -, kdue⟩ := h
  refine ⟨fun f => by rw [hslot]; exact kslot f, hasks, hcomposer, fun i e he => ?_⟩
  have hi := hd i
  rw [he] at hi
  revert hi
  generalize hx : s.devices[i] = x
  intro hi
  cases hi with
  | some hk =>
    obtain ⟨hwake, hpoll⟩ := kdue i _ hx
    refine ⟨?_, ?_⟩
    · exact Bool.eq_false_iff.mpr fun hc => Bool.false_ne_true (hwake.symm.trans (hk.2.2.1 hc))
    · exact Bool.eq_false_iff.mpr fun hc => Bool.false_ne_true (hpoll.symm.trans (hk.2.2.2 hc))

theorem DevicesKept.less {v w : Vector (Option Device) 16} (h : DevicesKept v w) : DevicesLess v w :=
  (DevicesLess.refl v).kept h

theorem NoAsk.kept {s t : State} (h : NoAsk s) (hslot : t.slot = s.slot) (hasks : ∀ st : St, t.ring.asks[st] = none)
    (hcomposer : t.ring.composerAsk = none) (hd : DevicesKept s.devices t.devices) : NoAsk t := h.less hslot hasks hcomposer hd.less

/-! ### The forms of the shared operations -/

theorem canPost_of_room {s : State} (h : Room s 1) : canPost s.eq = true := by
  obtain ⟨hgiven, hplaces⟩ := h
  simp only [canPost, freePlaces, hgiven, List.isEmpty_nil, Bool.and_true, decide_eq_true_eq, List.length_nil]
  omega

theorem not_canPost_of_full {s : State} (h : freePlaces s.eq = 0) : canPost s.eq = false := by simp [canPost, h]

/-- A record joins the tail, and the transmitter starts or goes on (R177). -/
theorem joinTail_eq (r : Record) (s : State) : ∃ p, joinTail r s = { s with
    port := p, eq := { s.eq with records := s.eq.records ++ [r] } } ∧ Transmits s { s with port := p } := by
  obtain ⟨p, hp, hrx, hpool, hbefore, hsame, hstarts⟩ := startTransmit_port { s with
    eq := { s.eq with records := s.eq.records ++ [r] } }
  exact ⟨p, hp, hrx, hpool, hbefore, hstarts (List.append_ne_nil_of_right_ne_nil _ (List.cons_ne_nil _ _)), hsame⟩

/-- The first fault is captured, and with room for it its notice is posted (R197). -/
theorem offerFault_captures {s : State} (hc : s.capture.record = none) (hr : Room s 1) (x : FaultRecord) : ∃ p,
    offerFault x s = { s with
      port := p, eq := { s.eq with records := s.eq.records ++ [.event 0 (.faultNotice x)] }
      capture := ⟨some x, s.capture.lost, .posted⟩ } ∧ Transmits s { s with port := p } := by
  obtain ⟨p, hp, htransmits⟩ := joinTail_eq (.event 0 (.faultNotice x)) { s with
    capture := ⟨some x, s.capture.lost, .posted⟩ }
  refine ⟨p, ?_, htransmits⟩
  unfold offerFault
  split
  · next y hy => rw [hc] at hy; cases hy
  · rw [if_pos (canPost_of_room hr)]; exact hp

/-- A busy marker, timer or tag changed: only the Device Table, whose links are kept. -/
def DeviceChange (s t : State) : Prop := ∃ v, DevicesKept s.devices v ∧ t = { s with devices := v }

theorem DeviceChange.refl (s : State) : DeviceChange s s := ⟨s.devices, .refl _, rfl⟩

theorem DeviceChange.trans {s t u : State} (h : DeviceChange s t) (k : DeviceChange t u) : DeviceChange s u := by
  obtain ⟨v, hv, rfl⟩ := h
  obtain ⟨w, hw, rfl⟩ := k
  exact ⟨w, hv.trans hw, rfl⟩

theorem modDevice_change {f : Device → Device} (hf : ∀ d, DeviceKept d (f d)) (i : Fin 16) (s : State) :
    DeviceChange s (modDevice i f s) := ⟨_, devicesKept_upd hf i s.devices, rfl⟩

theorem modDeviceAt_change {f : Device → Device} (hf : ∀ d, DeviceKept d (f d)) (a : Byte) (s : State) :
    DeviceChange s (modDeviceAt a f s) := by
  unfold modDeviceAt
  split
  · exact modDevice_change hf _ s
  · exact .refl s

theorem setBusy_kept (d : Device) : DeviceKept d d.setBusy := ⟨rfl, rfl, rfl, id, nofun⟩

theorem clearBusy_kept (d : Device) : DeviceKept d d.clearBusy := by
  unfold Device.clearBusy
  split
  · exact ⟨rfl, rfl, rfl, id, id⟩
  · exact .refl d

theorem replied_kept (d : Device) : DeviceKept d d.replied := by
  unfold Device.replied
  split
  · exact ⟨rfl, rfl, rfl, id, id⟩
  · exact .refl d

theorem setBusyAt_change (a : Byte) (s : State) : DeviceChange s (setBusyAt a s) := modDeviceAt_change setBusy_kept a s

theorem clearBusyAt_change (a : Byte) (s : State) : DeviceChange s (clearBusyAt a s) := modDeviceAt_change clearBusy_kept a s

theorem setBusyStation_change (st : St) (s : State) : DeviceChange s (setBusyStation st s) :=
  (setBusyAt_change _ s).trans (setBusyAt_change _ _)

theorem clearBusyStation_change (st : St) (s : State) : DeviceChange s (clearBusyStation st s) :=
  (clearBusyAt_change _ s).trans (clearBusyAt_change _ _)

theorem replied_of_busy {s : State} {i : Fin 16} {d : Device} (hd : s.devices[i] = some d) (hb : d.busy = true) :
    modDevice i Device.replied s = s := by
  have hsame : upd s.devices i (Option.map Device.replied) = s.devices := by
    refine upd_same _ _ _ ?_
    rw [hd, Option.map_some, Device.replied, if_neg (by rw [hb]; nofun)]
  rw [modDevice, hsame]

/-- An ask to a device that is UP stands (R148). -/
theorem placeAsk_of_up {s : State} {a : Byte} (h : isUp s a = true) (st : St) (kind : Byte) (payload : List Byte) (p : Purpose) :
    placeAsk st a kind payload p s = { s with
      ring := { s.ring with asks := s.ring.asks.set st.val (some ⟨a, kind, payload, p⟩) st.isLt } } := if_pos h

theorem placeAsk_onlyChanges (st : St) (a kind : Byte) (payload : List Byte) (p : Purpose) (s : State) :
    OnlyChanges [.ring] s (placeAsk st a kind payload p s) := by
  unfold placeAsk
  split
  · exact ring_onlyChanges _ s
  · exact .refl _ s

/-- Entry to SUSPENDED: the station's own entry, its ask and its transaction, and its devices' busy markers (R184). -/
theorem enterSuspended_eq (st : St) (ph : SuspendedPhase) (held owed : Bool) (s : State) : ∃ v, DevicesKept s.devices v ∧
    enterSuspended st ph held owed s = { s with
      stations := upd s.stations st fun x => { x.quiet with
        state := .suspended, susp := ⟨ph, held, owed, none, .awaiting⟩
        queue := if held then x.queue.modifyHead fun q => { q with state := .suspended } else x.queue }
      devices := v
      ring := { s.ring with
        asks := s.ring.asks.set st.val none st.isLt
        engine := s.ring.engine.map fun t => if t.requester = .station st then { t with detached := true } else t } } := by
  obtain ⟨v, hv, he⟩ := clearBusyStation_change st (modStation st (fun x => { x.quiet with
    state := .suspended, susp := ⟨ph, held, owed, none, .awaiting⟩
    queue := if held then x.queue.modifyHead fun q => { q with state := .suspended } else x.queue }) s)
  refine ⟨v, hv, ?_⟩
  rw [enterSuspended, he]
  rfl

/-! ### The reply to the engine's transaction (R144, R145, R147) -/

theorem exec_readyReceived (bytes : List Byte) (s : State) :
    exec (.readyReceived bytes) s = live s (replyOf (· == kindReady) bytes s) := rfl

theorem exec_ackReceived (bytes : List Byte) (s : State) :
    exec (.ackReceived bytes) s = live s (replyOf (· == kindAck) bytes s) := rfl

theorem exec_waitReceived (bytes : List Byte) (s : State) :
    exec (.waitReceived bytes) s = live s (replyOf (· == kindWait) bytes s) := rfl

theorem exec_nakReceived (bytes : List Byte) (s : State) :
    exec (.nakReceived bytes) s = live s (replyOf (· == kindNak) bytes s) := rfl

theorem exec_statusReplyReceived (bytes : List Byte) (s : State) :
    exec (.statusReplyReceived bytes) s = live s (replyOf isStatusRow bytes s) := rfl

theorem isStatusRow_iff {k : Byte} : isStatusRow k = true ↔ k ≠ 0x10 ∧ k ≠ 0x11 ∧ k ≠ 0x12 ∧ k ≠ 0x13 := by
  unfold isStatusRow hasOwnReplyRow
  rw [Bool.not_eq_true', Bool.or_eq_false_iff, Bool.or_eq_false_iff, Bool.or_eq_false_iff]
  simp only [beq_eq_false_iff_ne, and_assoc]

theorem received?_wire {f : LinkFrame} (h : f.payload.length ≤ 56) : received? f.wire = some f := by
  have hw := receive_wire h []
  rw [List.append_nil] at hw
  rw [received?, hw]

theorem replyAccepted_of_answers {t : Transaction} {f : LinkFrame} (ha : Answers t f) (hopen : t.attempt ≤ t.opened)
    (hk : kindAccepted t f = true) : replyAccepted t f = true := by
  obtain ⟨hsrc, hdst, htag, -⟩ := ha
  simp [replyAccepted, Transaction.isSending, hsrc, hdst, htag, hk, hopen]

theorem replyOf_of_answers {s : State} {t : Transaction} {f : LinkFrame} (he : s.ring.engine = some t) (ha : Answers t f)
    (hopen : t.attempt ≤ t.opened) (hk : kindAccepted t f = true) {kinds : Byte → Bool} (hrow : kinds f.kind = true) :
    replyOf kinds f.wire s = finish (takeReply t f s) := by
  have hreply : reply? s f.wire = some (t, f) := by
    simp only [reply?, he, received?_wire ha.2.2.2, replyAccepted_of_answers ha hopen hk, if_true]
  simp only [replyOf, hreply, hrow, if_true]

/-- The row that brings a reply takes it, and the act ends (R145, R147). -/
theorem exec_of_reply {s : State} {t : Transaction} {f : LinkFrame} {c : Instr} (hl : Live s) (hr : Runs s t)
    (ha : Answers t f) (hk : kindAccepted t f = true) (hb : Brings c f) : exec c s = .next (finish (takeReply t f s)) := by
  obtain ⟨he, -, -, -, hopen⟩ := hr
  have hrow {kinds : Byte → Bool} (h : kinds f.kind = true) := replyOf_of_answers he ha hopen hk h
  rcases hb with ⟨rfl, hkind⟩ | ⟨rfl, hkind⟩ | ⟨rfl, hkind⟩ | ⟨rfl, hkind⟩ | ⟨rfl, h10, h11, h12, h13⟩
  · rw [exec_readyReceived, live_of_live hl, hrow (by rw [hkind]; rfl)]
  · rw [exec_ackReceived, live_of_live hl, hrow (by rw [hkind]; rfl)]
  · rw [exec_waitReceived, live_of_live hl, hrow (by rw [hkind]; rfl)]
  · rw [exec_nakReceived, live_of_live hl, hrow (by rw [hkind]; rfl)]
  · rw [exec_statusReplyReceived, live_of_live hl,
      hrow (isStatusRow_iff.mpr ⟨h10, h11, h12, h13⟩)]

theorem routeReply_of_other {f : LinkFrame} (h : f.kind ≠ kindStatusReply) (t : Transaction)
    (route : Device → Status → State → State) (s : State) : routeReply t f route s = s := by
  unfold routeReply
  rw [if_neg h]
  split
  · next hx => cases hx
  · rfl

theorem takeReply_own {s : State} {t : Transaction} (hr : Runs s t) (hreq : (∃ st, t.requester = .station st) ∨ t.requester = .composer)
    (f : LinkFrame) : takeReply t f s = takeOwn t f (modDevice t.entry Device.replied s) := by
  obtain ⟨-, hvoid, horphan, -⟩ := hr
  rcases hreq with ⟨st, hreq⟩ | hreq <;> simp only [takeReply, hvoid, horphan, hreq, Bool.false_eq_true, if_false]

theorem takeReply_forward {s : State} {t : Transaction} (hr : Runs s t) (hreq : t.requester = .forward) (f : LinkFrame) :
    takeReply t f s = takeForwarded t f (modDevice t.entry Device.replied s) := by
  obtain ⟨-, hvoid, horphan, -⟩ := hr
  simp only [takeReply, hvoid, horphan, hreq, Bool.false_eq_true, if_false]

theorem takeReply_wake {s : State} {t : Transaction} (hr : Runs s t) (hreq : t.requester = .idlePoller) (hp : t.purpose = .wake)
    (f : LinkFrame) : takeReply t f s = endGrant (takeWake t.entry f (modDevice t.entry Device.replied s)) := by
  obtain ⟨-, hvoid, horphan, -⟩ := hr
  simp only [takeReply, hvoid, horphan, hreq, hp, Bool.false_eq_true, if_false, if_true]

theorem takeReply_poll {s : State} {t : Transaction} (hr : Runs s t) (hreq : t.requester = .idlePoller) (hp : t.purpose ≠ .wake)
    (f : LinkFrame) : takeReply t f s = endGrant (routeReply t f routeReport (modDevice t.entry Device.replied s)) := by
  obtain ⟨-, hvoid, horphan, -⟩ := hr
  simp only [takeReply, hvoid, horphan, hreq, hp, Bool.false_eq_true, if_false]

/-- The transaction in progress is the engine's while its ending is still acted on. -/
theorem stillAttached_of_runs {s u : State} {t : Transaction} (hr : Runs s t) (he : u.ring.engine = s.ring.engine) :
    stillAttached u = true := by
  obtain ⟨hs, -, -, hdet, -⟩ := hr
  simp only [stillAttached, he, hs, hdet, Bool.not_false]

/-- An ACK, WAIT or NAK to a station's own request is handed to it, and nothing is routed (R147, R154). -/
theorem takeReply_station {s : State} {t : Transaction} {st : St} {f : LinkFrame} (hr : Runs s t)
    (hreq : t.requester = .station st) (hf : f.kind ≠ kindStatusReply) :
    takeReply t f s = stationEnding st t.purpose (endingOf f) (endGrant (modDevice t.entry Device.replied s)) := by
  have hattached : stillAttached (modDevice t.entry Device.replied s) = true := stillAttached_of_runs hr rfl
  rw [takeReply_own hr (.inl ⟨st, hreq⟩)]
  simp only [takeOwn, routeReply_of_other hf, hreq, hattached, if_true]

end Sys2Proof.Machine
end

section
/-! PROOFS. The endings of a station's own transactions (R73, R75 to R79, R182 to R184), its timers and limits (R78, R80, R39), and
the hold lines (R82, R185). -/

namespace Sys2Proof.Machine

/-! ### The end of an act at one station -/

/-- The parts that a station's act turns on are kept, but for the station's own entry and ask, and it is at rest. -/
structure EndsAt (st : St) (s u : State) : Prop where
  stations : OthersSame st s.stations u.stations
  rolls : OthersSame st s.rolls u.rolls
  bindings : u.bindings = s.bindings
  devices : DevicesKept s.devices u.devices
  rest : AtRest u st

theorem EndsAt.settled {st : St} {s u : State} (h : EndsAt st s u) (hs : Settled s) : Settled u :=
  settled_of_others hs h.stations h.rolls h.bindings h.devices h.rest

theorem EndsAt.finish_busy {st : St} {s u : State} (h : EndsAt st s u) (hs : Settled s) (hb : EngineBusy u) : finish u = u :=
  finish_of_busy (h.settled hs) hb

/-- With nothing else asked, an act at one station that asks for nothing is finished where it stands. -/
theorem EndsAt.finish_idle {st : St} {s u : State} (h : EndsAt st s u) (hs : Settled s) (hn : NoAsk s) (hslot : u.slot = s.slot)
    (hasks : ∀ st', u.ring.asks[(st' : St)] = none) (hcomposer : u.ring.composerAsk = none) : finish u = u :=
  finish_of_noAsk (h.settled hs) (hn.kept hslot hasks hcomposer h.devices)

/-- A station's ask stands (R148). -/
def standAsk (st : St) (a : Ask) (s : State) : State :=
  { s with ring := { s.ring with asks := s.ring.asks.set st.val (some a) st.isLt } }

theorem placeAsk_eq_standAsk {s : State} {a : Byte} (h : isUp s a = true) (st : St) (kind : Byte) (payload : List Byte)
    (p : Purpose) : placeAsk st a kind payload p s = standAsk st ⟨a, kind, payload, p⟩ s := placeAsk_of_up h st kind payload p

theorem standAsk_asks (st : St) (a : Ask) (s : State) : (standAsk st a s).ring.asks[st] = some a := set_self _ _ _

theorem hasAsk_standAsk {s : State} {st : St} (a : Ask) : hasAsk (standAsk st a s) (.station st) = true := by
  show ((standAsk st a s).ring.asks[st]).isSome = true
  rw [standAsk_asks]; rfl

theorem hasAsk_standAsk_other {s : State} (hn : NoAsk s) (st : St) (a : Ask) (r : Requester) (hr : r ≠ .station st) :
    hasAsk (standAsk st a s) r = false := by
  cases r with
  | station st' =>
    have hne : st' ≠ st := fun e => hr (e ▸ rfl)
    show ((s.ring.asks.set st.val (some a) st.isLt)[st']).isSome = false
    rw [set_ne _ _ _ _ hne, hn.2.1 st']; rfl
  | forward => exact hn.hasAsk .forward
  | composer => exact hn.hasAsk .composer
  | idlePoller => exact hn.hasAsk .idlePoller

theorem set_set_none {v : Vector (Option Ask) 4} {st : St} (h : v[st] = none) (a : Ask) :
    (v.set st.val (some a) st.isLt).set st.val none st.isLt = v := by
  rw [Vector.set_set, ← h]
  exact Vector.set_getElem_self _

/-- A station that alone asks is granted, its ask is spent, and its frame is being sent (R144, R149). -/
theorem arbitrate_standAsk {s : State} {st : St} (hn : NoAsk s) (he : s.ring.engine = none) {a : Ask} {i : Fin 16} {d : Device}
    (hd : DeviceAt s i d) (hda : d.addr = a.address) : arbitrate (standAsk st a s) = { s with
      devices := s.devices.set i.val (some { d with tag := d.tag + 1 }) i.isLt
      ring := { s.ring with
        lastGranted := .station st, engine := some (granted s (.station st) i d a.purpose a.kind a.payload) } } := by
  have hto := grantTo_station (s := standAsk st a s) (standAsk_asks st a s) hd hda
  have hnext := nextGranted_of_only (hasAsk_standAsk a) (hasAsk_standAsk_other hn st a)
  rw [arbitrate_of_granted (s := standAsk st a s) he hnext (by rw [hto]; rfl), hto]
  simp only [standAsk, set_set_none (hn.2.1 st)]
  rfl

/-! ### A frame in progress (4.6) -/

theorem RunsFrame.congr {s u : State} {st : St} {q : Request} {m : RollMap} {ph : Phase} (h : RunsFrame s st q m ph)
    (hs : u.stations = s.stations) (hr : u.rolls = s.rolls) : RunsFrame u st q m ph := by
  unfold RunsFrame headOf at h ⊢
  rw [hs, hr]
  exact h

section
variable {s : State} {st : St} {q : Request} {m : RollMap} {ph : Phase} (h : RunsFrame s st q m ph)
include h

theorem RunsFrame.headAborts : headAborts s st = false := by
  obtain ⟨-, -, -, hq, -, hab, -⟩ := h
  rw [Machine.headAborts, hq, Option.map_some, Option.getD_some, hab]

theorem RunsFrame.headRoll : headRoll s st = m.roll := by
  obtain ⟨-, -, -, hq, -, -, -, ⟨r, hr, hroll⟩, -⟩ := h
  simp only [Machine.headRoll, hq, hr, hroll]

theorem RunsFrame.gateOf : gateOf s st = m.gate := by
  obtain ⟨-, -, -, -, -, -, -, -, hm, -⟩ := h
  rw [Machine.gateOf, hm]; rfl

theorem RunsFrame.openMap : openMap s st m.roll = some m := by
  obtain ⟨-, -, -, -, -, -, -, -, hm, hc⟩ := h
  simp only [Machine.openMap, hm, hc, and_self, if_true]

theorem RunsFrame.headHolds : headHolds s st = true := by
  obtain ⟨-, -, -, hq, hstate, -, hout, ⟨r, hr, -⟩, -⟩ := h
  simp [Machine.headHolds, hq, hstate, hr, hout]

theorem RunsFrame.stationFault (kind : FaultKind) (a frameKind : Byte) (reason : Option Byte) :
    stationFault kind st a frameKind reason s = ⟨kind, a, frameKind, some st, some q.order, some m.gate, reason⟩ := by
  have hq := h.2.2.2.1
  simp only [Machine.stationFault, h.headHolds, h.gateOf, hq, if_true, Option.map_some]

theorem RunsFrame.queue_eq : s.stations[st].queue = q :: s.stations[st].queue.tail := by
  have hq : s.stations[st].queue.head? = some q := h.2.2.2.1
  cases hl : s.stations[st].queue with
  | nil => rw [hl] at hq; cases hq
  | cons x xs => rw [hl] at hq; cases hq; rfl

end

/-- The transactions of a frame and the phases that ask for them. -/
def framePurposes : List (Purpose × Phase) :=
  [(.lampSet, .lampSet), (.shoot, .shoot), (.shotPoll, .shotWait), (.advance, .advance), (.advancePoll, .advanceWait)]

theorem stationEnding_frame {s : State} {st : St} {q : Request} {m : RollMap} {ph : Phase} (h : RunsFrame s st q m ph)
    {p : Purpose} (hp : (p, ph) ∈ framePurposes) (e : Ending) : stationEnding st p e s = phaseEnding st p ph e s := by
  have hpost : s.stations[st].pendingPost.isSome = false := by rw [h.2.2.1]; rfl
  unfold stationEnding
  rw [hpost, if_neg Bool.false_ne_true]
  simp only [framePurposes, List.mem_cons, Prod.mk.injEq, List.mem_nil_iff, or_false] at hp
  rcases hp with ⟨rfl, rfl⟩ | ⟨rfl, rfl⟩ | ⟨rfl, rfl⟩ | ⟨rfl, rfl⟩ | ⟨rfl, rfl⟩ <;> rfl

section
variable {s : State} {st : St} {q : Request} {m : RollMap}

theorem RunsFrame.notElsewhere {ph : Phase} (h : RunsFrame s st q m ph) :
    ¬ (s.stations[st].state ≠ .running ∨ s.stations[st].phase ≠ some ph) := by
  rw [not_or, Decidable.not_not, Decidable.not_not]; exact ⟨h.1, h.2.1⟩

theorem phaseEnding_ack_lampSet (h : RunsFrame s st q m .lampSet) (p : Purpose) : phaseEnding st p .lampSet .ack s =
    askCamera st kindShoot .shoot (modStation st (fun x => { x.quiet with phase := some .shoot }) s) := by
  unfold phaseEnding
  simp only [if_neg h.notElsewhere, h.headAborts, Bool.false_eq_true, if_false]

theorem phaseEnding_ack_shoot (h : RunsFrame s st q m .shoot) (p : Purpose) : phaseEnding st p .shoot .ack s = shootAcked st s := by
  unfold phaseEnding
  simp only [if_neg h.notElsewhere]

theorem phaseEnding_ack_advance (h : RunsFrame s st q m .advance) (p : Purpose) :
    phaseEnding st p .advance .ack s = advanceAcked st s := by
  unfold phaseEnding
  simp only [if_neg h.notElsewhere]

theorem phaseEnding_wait {ph : Phase} (h : RunsFrame s st q m ph) (p : Purpose) : phaseEnding st p ph .wait s =
    if waitsOut s st then failRunning st (transactionFault .waitLimit st p none s) s else startGap st p s := by
  unfold phaseEnding
  simp only [if_neg h.notElsewhere, h.headAborts, Bool.false_and, Bool.false_eq_true, if_false]

theorem phaseEnding_nak {ph : Phase} (h : RunsFrame s st q m ph) (hph : ph = .lampSet ∨ ph = .shoot ∨ ph = .advance) (p : Purpose)
    (reason : Byte) : phaseEnding st p ph (.nak reason) s = failRunning st (nakFault st p reason s) s := by
  unfold phaseEnding
  rcases hph with rfl | rfl | rfl <;> simp only [if_neg h.notElsewhere, h.headAborts, Bool.false_eq_true, if_false]

theorem phaseEnding_nak_poll {ph : Phase} (h : RunsFrame s st q m ph) (hph : ph = .shotWait ∨ ph = .advanceWait) (p : Purpose)
    (reason : Byte) : phaseEnding st p ph (.nak reason) s = startPoll st (clearWaits st s) := by
  unfold phaseEnding
  rcases hph with rfl | rfl <;> simp only [if_neg h.notElsewhere]

end

/-! ### Suspension with a request (R182, R184) -/

/-- What the entry to SUSPENDED makes of a station's own entry (R184). -/
def Station.suspend (ph : SuspendedPhase) (held owed : Bool) (x : Station) : Station :=
  { x.quiet with
      state := .suspended, susp := ⟨ph, held, owed, none, .awaiting⟩
      queue := if held then x.queue.modifyHead fun q => { q with state := .suspended } else x.queue }

/-- A requester's transaction goes on without it (R184). -/
def detachFrom (r : Requester) (e : Option Transaction) : Option Transaction :=
  e.map fun t => if t.requester = r then { t with detached := true } else t

/-- The state of a station that has entered SUSPENDED, with its devices as they then stand (R184). -/
def suspended (st : St) (ph : SuspendedPhase) (held owed : Bool) (v : Vector (Option Device) 16) (s : State) : State :=
  { s with
      stations := upd s.stations st (Station.suspend ph held owed), devices := v
      ring := { s.ring with
        asks := s.ring.asks.set st.val none st.isLt, engine := detachFrom (.station st) s.ring.engine } }

theorem enterSuspended_suspended (st : St) (ph : SuspendedPhase) (held owed : Bool) (s : State) : ∃ v, DevicesKept s.devices v ∧
    enterSuspended st ph held owed s = suspended st ph held owed v s := enterSuspended_eq st ph held owed s

theorem suspended_station (st : St) (ph : SuspendedPhase) (held owed : Bool) (v : Vector (Option Device) 16) (s : State) :
    (suspended st ph held owed v s).stations[st] = s.stations[st].suspend ph held owed := upd_self _ _ _

theorem headOf_suspended {s : State} {st : St} {q : Request} (hq : headOf s st = some q) (ph : SuspendedPhase) (owed : Bool)
    (v : Vector (Option Device) 16) :
    headOf (suspended st ph true owed v s) st = some { q with state := .suspended } := by
  have hq' : s.stations[st].queue.head? = some q := hq
  rw [headOf, suspended_station]
  show (s.stations[st].queue.modifyHead fun q => { q with state := .suspended }).head? = _
  rw [List.head?_modifyHead, hq', Option.map_some]

/-- Without an abort, suspension with a request is the entry to SUSPENDED alone (R182). -/
theorem suspendHeld_suspended {s : State} {st : St} {q : Request} (hq : headOf s st = some q) (hab : q.abort = false)
    (ph : SuspendedPhase) (owed : Bool) : ∃ v, DevicesKept s.devices v ∧
    suspendHeld st ph owed s = suspended st ph true owed v s := by
  obtain ⟨v, hv, he⟩ := enterSuspended_suspended st ph true owed s
  refine ⟨v, hv, ?_⟩
  have haborts : headAborts (suspended st ph true owed v s) st = false := by
    rw [headAborts, headOf_suspended hq, Option.map_some, Option.getD_some, hab]
  rw [suspendHeld, he]
  simp only [haborts, Bool.false_eq_true, if_false]

theorem suspended_owed_atRest (st : St) (ph : SuspendedPhase) (held : Bool) (v : Vector (Option Device) 16) (s : State) :
    AtRest (suspended st ph held true v s) st :=
  atRest_of_owed (by rw [suspended_station]; rfl) (by rw [suspended_station]; rfl)

/-! ### The ending is handed to the station (R73, R147) -/

theorem kindAccepted_ack {t : Transaction} {f : LinkFrame} (hf : t.purpose ≠ .forwarded) (hw : t.purpose ≠ .wake)
    (hreq : t.request.kind ≠ 0x02) (hk : f.kind = 0x11) : kindAccepted t f = true := by
  have hreq' : t.request.kind ≠ kindStatus := hreq
  unfold kindAccepted
  rw [if_neg hf, if_neg hw, hk, if_neg (by decide), if_neg hreq']
  rfl

theorem kindAccepted_waitNak {t : Transaction} {f : LinkFrame} (hf : t.purpose ≠ .forwarded) (hw : t.purpose ≠ .wake)
    (hk : f.kind = 0x12 ∨ f.kind = 0x13) : kindAccepted t f = true := by
  have hk' : f.kind = kindWait ∨ f.kind = kindNak := hk
  unfold kindAccepted
  rw [if_neg hf, if_neg hw, if_pos hk']

theorem endingOf_ack {f : LinkFrame} (h : f.kind = 0x11) : endingOf f = .ack := by rw [endingOf, h]; rfl

theorem endingOf_wait {f : LinkFrame} (h : f.kind = 0x12) : endingOf f = .wait := by rw [endingOf, h]; rfl

theorem endingOf_nak {f : LinkFrame} (h : f.kind = 0x13) : endingOf f = .nak (nakReason f.payload) := by rw [endingOf, h]; rfl

theorem exec_of_station_reply {s : State} {t : Transaction} {st : St} {f : LinkFrame} {c : Instr} (hl : Live s) (hr : Runs s t)
    (hreq : t.requester = .station st) (ha : Answers t f) (hk : kindAccepted t f = true) (hf : f.kind ≠ 0x14) (hb : Brings c f) :
    exec c s = .next (finish (stationEnding st t.purpose (endingOf f) (endGrant (modDevice t.entry Device.replied s)))) := by
  rw [exec_of_reply hl hr ha hk hb, takeReply_station hr hreq hf]

theorem NoAsk.endGrant {s : State} (h : NoAsk s) : NoAsk (endGrant s) := h.kept rfl h.2.1 h.2.2.1 (.refl _)

theorem Settled.endGrant {s : State} (h : Settled s) : Settled (endGrant s) := settled_of_same h rfl rfl rfl (.refl _)

/-- A station's entry alone has changed since the grant ended, and the station is at rest. -/
theorem finish_modStation {s : State} (hs : Settled s) (hn : NoAsk s) (st : St) (f : Station → Station)
    (hrest : AtRest (modStation st f s) st) : finish (modStation st f s) = modStation st f s :=
  EndsAt.finish_idle (st := st) (s := s) ⟨othersSame_upd _ _ _, othersSame_refl _ _, rfl, .refl _, hrest⟩ hs hn rfl hn.2.1 hn.2.2.1

theorem modStation_endGrant_onlyChanges (st : St) (f : Station → Station) (s : State) :
    OnlyChanges [.stations, .ring] s (modStation st f (endGrant s)) :=
  ((ring_onlyChanges _ s).widen).andThen (modStation_onlyChanges st f _)

theorem modStation_self (st : St) (f : Station → Station) (s : State) : (modStation st f s).stations[st] = f s.stations[st] :=
  upd_self _ _ _

/-! ### ACKs (R75, R76, R79) -/

theorem gateRecord_endGrant (s : State) (st : St) : gateRecord (endGrant s) st = gateRecord s st := rfl

theorem running_atRest {s : State} {st : St} (h : s.stations[st].state = .running) : AtRest s st :=
  atRest_of_state (by rw [h]; decide) (by rw [h]; decide)

/-- A station in phase SHOOT (R75). -/
def Station.shooting (x : Station) : Station := { x.quiet with phase := some .shoot }

theorem askCamera_standAsk {s : State} {st : St} {b : Binding} (h : BoundUp s st b) (kind : Byte) (p : Purpose) :
    askCamera st kind p s = standAsk st ⟨b.camera, kind, [], p⟩ s := by
  have hup : isUp s b.camera = true := h.camera ▸ h.cameraUp
  rw [askCamera, h.camera, placeAsk_eq_standAsk hup]

theorem BoundUp.kept {s u : State} {st : St} {b : Binding} (h : BoundUp s st b)
    (hb : u.bindings[st].binding = s.bindings[st].binding) (hd : DevicesKept s.devices u.devices) : BoundUp u st b :=
  ⟨hb.trans h.1, (bothUp_kept hb hd).trans h.2⟩

/-- Settles O37. -/
theorem acksMovePhases : Obligations.AcksMovePhases := by
  intro s t st q m ph d f hl hset hn hr hreq hd hbusy hrun ha hk
  have hbring : Brings (.ackReceived f.wire) f := .inr (.inl ⟨rfl, hk⟩)
  have hexec (hp : t.purpose ≠ .forwarded) (hp' : t.purpose ≠ .wake) (hreqk : t.request.kind ≠ 0x02)
      (hphase : (t.purpose, ph) ∈ framePurposes) :
      exec (.ackReceived f.wire) s = .next (finish (phaseEnding st t.purpose ph .ack (endGrant s))) := by
    rw [exec_of_station_reply hl hr hreq ha (kindAccepted_ack hp hp' hreqk hk) (by rw [hk]; decide) hbring,
      replied_of_busy hd.1 hbusy, endingOf_ack hk, stationEnding_frame (hrun.congr (u := endGrant s) rfl rfl) hphase]
  have hfin (g : Station → Station) (hg : (g s.stations[st]).state = .running) :
      finish (modStation st g (endGrant s)) = modStation st g (endGrant s) :=
    finish_modStation hset.endGrant hn.endGrant st g (running_atRest (by rw [modStation_self]; exact hg))
  have hrunning : s.stations[st].state = .running := hrun.1
  refine ⟨?_, ?_, ?_⟩
  · rintro hp hreqk rfl r hrec
    have hack := phaseEnding_ack_shoot (hrun.congr (u := endGrant s) rfl rfl) t.purpose
    have hshoot : shootAcked st (endGrant s) = modStation st (fun x => { x.quiet with
        phase := some .shotWait, shotLimit := some (shotLimitMs r.times), pollTimer := true }) (endGrant s) := by
      rw [shootAcked, gateRecord_endGrant, hrec]; rfl
    refine ⟨_, hexec (by rw [hp]; decide) (by rw [hp]; decide) (by rw [hreqk]; decide) (by rw [hp]; decide), ?_⟩
    rw [hack, hshoot, hfin _ hrunning]
    refine ⟨modStation_endGrant_onlyChanges _ _ _, rfl, othersSame_upd _ _ _, ?_⟩
    rw [modStation_self]
    exact ⟨hrunning, rfl, rfl, rfl, rfl, rfl⟩
  · rintro hp hreqk rfl
    have hack := phaseEnding_ack_advance (hrun.congr (u := endGrant s) rfl rfl) t.purpose
    refine ⟨_, hexec (by rw [hp]; decide) (by rw [hp]; decide) (by rw [hreqk]; decide) (by rw [hp]; decide), ?_⟩
    rw [hack, advanceAcked, hfin _ hrunning]
    refine ⟨modStation_endGrant_onlyChanges _ _ _, rfl, othersSame_upd _ _ _, ?_⟩
    rw [modStation_self]
    exact ⟨hrunning, rfl, rfl, rfl, rfl, rfl⟩
  · rintro hp hreqk rfl b i camera hb hcam hcamera
    have hack := phaseEnding_ack_lampSet (hrun.congr (u := endGrant s) rfl rfl) t.purpose
    have hask := askCamera_standAsk
      (hb.kept (u := modStation st Station.shooting (endGrant s)) rfl (.refl _)) kindShoot .shoot
    rw [show (fun x : Station => { x.quiet with phase := some .shoot }) = Station.shooting from rfl, hask] at hack
    have hrest : AtRest (standAsk st ⟨b.camera, kindShoot, [], .shoot⟩ (modStation st Station.shooting (endGrant s))) st :=
      running_atRest (by show (upd s.stations st Station.shooting)[st].state = _; rw [upd_self]; exact hrunning)
    have hset' : Settled (standAsk st ⟨b.camera, kindShoot, [], .shoot⟩ (modStation st Station.shooting (endGrant s))) :=
      settled_of_others hset (othersSame_upd _ _ _) (othersSame_refl _ _) rfl (.refl _) hrest
    have hn' : NoAsk (modStation st Station.shooting (endGrant s)) := hn.kept rfl hn.2.1 hn.2.2.1 (.refl _)
    refine ⟨_, hexec (by rw [hp]; decide) (by rw [hp]; decide) (by rw [hreqk]; decide) (by rw [hp]; decide), ?_⟩
    rw [hack, finish, settle_of_settled hset', arbitrate_standAsk hn' rfl hcam hcamera]
    refine ⟨?_, othersSame_upd _ _ _, ?_, ?_, rfl, ?_⟩
    · intro p hp
      cases p with
      | stations | ring | devices => exact absurd (by decide) hp
      | _ => rfl
    · show (upd s.stations st Station.shooting)[st].phase = _
      rw [upd_self]; rfl
    · show (upd s.stations st Station.shooting)[st].queue = _
      rw [upd_self]; rfl
    · rw [← hcamera]; rfl

/-! ### WAITs and NAKs (R73, R75, R76, R79, R182 to R184) -/

/-- A fault captured with its notice posted (R197). -/
def captured (x : FaultRecord) (p : ConsolePort) (s : State) : State :=
  { s with
      port := p, eq := { s.eq with records := s.eq.records ++ [.event 0 (.faultNotice x)] }
      capture := ⟨some x, s.capture.lost, .posted⟩ }

theorem offerFault_captured {s : State} (hc : s.capture.record = none) (hr : Room s 1) (x : FaultRecord) : ∃ p,
    offerFault x s = captured x p s ∧ Transmits s { s with port := p } := offerFault_captures hc hr x

theorem failRunning_suspends {s : State} {st : St} {q : Request} {m : RollMap} {ph : Phase} (h : RunsFrame s st q m ph)
    (hc : s.capture.record = none) (hr : Room s 1) (x : FaultRecord) : ∃ p v, Transmits s { s with port := p } ∧
      DevicesKept s.devices v ∧ failRunning st x s = suspended st (suspendedPhase (some ph)) true true v (captured x p s) := by
  obtain ⟨p, hp, htransmits⟩ := offerFault_captured hc hr x
  obtain ⟨v, hv, hs⟩ := suspendHeld_suspended (s := captured x p s) (st := st) h.2.2.2.1 h.2.2.2.2.2.1
    (suspendedPhase (some ph)) true
  exact ⟨p, v, htransmits, hv, by rw [failRunning, h.2.1, hp, hs]⟩

/-- The state that a station's own ending is handed: the entry's idle timer restarted, the grant ended (R147). -/
def replyTaken (t : Transaction) (s : State) : State := endGrant (modDevice t.entry Device.replied s)

theorem replyTaken_of_busy {s : State} {t : Transaction} {d : Device} (hd : DeviceAt s t.entry d) (hb : d.busy = true) :
    replyTaken t s = endGrant s := by rw [replyTaken, replied_of_busy hd.1 hb]

theorem replyTaken_devices (t : Transaction) (s : State) : DevicesKept s.devices (replyTaken t s).devices :=
  devicesKept_upd replied_kept t.entry s.devices

theorem replyTaken_onlyChanges (t : Transaction) (s : State) : OnlyChanges [.devices, .ring] s (replyTaken t s) :=
  ((modDevice_onlyChanges _ _ s).widen).andThen (ring_onlyChanges _ _)

theorem replyTaken_settled {t : Transaction} {s : State} (h : Settled s) : Settled (replyTaken t s) :=
  settled_of_same h rfl rfl rfl (replyTaken_devices t s)

theorem replyTaken_noAsk {t : Transaction} {s : State} (h : NoAsk s) : NoAsk (replyTaken t s) :=
  h.kept rfl h.2.1 h.2.2.1 (replyTaken_devices t s)

/-- A station suspended with release owed, on a fault that found room, leaves nothing to be done. -/
theorem finish_suspended {s : State} (hs : Settled s) (hn : NoAsk s) {v : Vector (Option Device) 16}
    (hv : DevicesKept s.devices v) (st : St) (ph : SuspendedPhase) (held : Bool) (x : FaultRecord) (p : ConsolePort) :
    finish (suspended st ph held true v (captured x p s)) = suspended st ph held true v (captured x p s) := by
  refine EndsAt.finish_idle (st := st) (s := s)
    ⟨othersSame_upd _ _ _, othersSame_refl _ _, rfl, hv, suspended_owed_atRest _ _ _ _ _⟩ hs hn rfl (fun st' => ?_) hn.2.2.1
  show (s.ring.asks.set st.val none st.isLt)[st'] = none
  rw [set_get]
  split
  · rfl
  · exact hn.2.1 st'

theorem suspended_captured_onlyChanges (st : St) (ph : SuspendedPhase) (held : Bool) (v : Vector (Option Device) 16)
    (x : FaultRecord) (p : ConsolePort) (s : State) : OnlyChanges [.stations, .ring, .devices, .capture, .eventQueue, .port] s
      (suspended st ph held true v (captured x p s)) := by
  intro q hq
  cases q with
  | stations | ring | devices | capture | eventQueue | port => exact absurd (by decide) hq
  | _ => rfl

theorem waitsOut_iff {s : State} {st : St} : waitsOut s st = true ↔ 199 ≤ s.stations[st].waits := by
  rw [waitsOut, decide_eq_true_iff]
  exact ⟨Nat.le_of_succ_le_succ, Nat.succ_le_succ⟩

theorem waitsOut_eq_false {s : State} {st : St} (h : s.stations[st].waits < 199) : waitsOut s st = false :=
  Bool.eq_false_iff.mpr fun hc => absurd (waitsOut_iff.mp hc) (Nat.not_le.mpr h)

/-- A station whose WAIT has been counted is as much at rest as before (R73). -/
theorem atRest_modStation {s : State} {st : St} {f : Station → Station} (hstate : (f s.stations[st]).state = s.stations[st].state)
    (hsusp : (f s.stations[st]).susp = s.stations[st].susp) (hpost : (f s.stations[st]).pendingPost = s.stations[st].pendingPost)
    (hcheck : (f s.stations[st]).rollCheck = s.stations[st].rollCheck) (hq : (f s.stations[st]).queue = s.stations[st].queue)
    (h : AtRest s st) : AtRest (modStation st f s) st := by
  rw [atRest_iff] at h ⊢
  rw [modStation_self, hstate, hsusp, hpost, hcheck, hq]
  exact h

theorem rewindEnding_of_unloading {s : State} {st : St} (hu : s.stations[st].state = .unloading) (hc : closeUnderWay s st = false) :
    ¬ (s.stations[st].state ≠ .unloading ∨ closeUnderWay s st = true) := by
  rw [hu, hc]; decide

/-- The transactions of a frame with their kinds, and the suspended phases of the phases that ask for them (R75 to R79, R182). -/
def frameTransactions : List (Purpose × Byte × Phase × SuspendedPhase) :=
  [(.lampSet, 0x03, .lampSet, .lampSet), (.shoot, 0x04, .shoot, .shoot), (.shotPoll, 0x02, .shotWait, .shotWait),
    (.advance, 0x05, .advance, .advance), (.advancePoll, 0x02, .advanceWait, .advanceWait)]

theorem frameTransactions_spec {p : Purpose} {kind : Byte} {ph : Phase} {sp : SuspendedPhase}
    (h : (p, kind, ph, sp) ∈ frameTransactions) (s : State) (st : St) :
    (p, ph) ∈ framePurposes ∧ p ≠ .forwarded ∧ p ≠ .wake ∧ suspendedPhase (some ph) = sp
      ∧ p.target s st = (if ph = .lampSet then lampOf s st else cameraOf s st, kind) := by
  simp only [frameTransactions, List.mem_cons, Prod.mk.injEq, List.mem_nil_iff, or_false] at h
  rcases h with ⟨rfl, rfl, rfl, rfl⟩ | ⟨rfl, rfl, rfl, rfl⟩ | ⟨rfl, rfl, rfl, rfl⟩ | ⟨rfl, rfl, rfl, rfl⟩ | ⟨rfl, rfl, rfl, rfl⟩ <;>
    exact ⟨by decide, by decide, by decide, rfl, rfl⟩

theorem headOf_of_empty {s : State} {st : St} (h : s.stations[st].queue = []) : headOf s st = none := by rw [headOf, h]; rfl

/-- A fault of a station that holds no request (R197). -/
theorem stationFault_of_empty {s : State} {st : St} (h : s.stations[st].queue = []) (kind : FaultKind) (a frameKind : Byte)
    (reason : Option Byte) : stationFault kind st a frameKind reason s = ⟨kind, a, frameKind, some st, none, none, reason⟩ := by
  have hholds : headHolds s st = false := by simp only [headHolds, headOf_of_empty h]
  simp only [stationFault, hholds, Bool.false_eq_true, if_false]

section
variable {s : State} {t : Transaction} {st : St} {d : Device} {f : LinkFrame} (ho : AnswersOpen s t d f)
  (hreq : t.requester = .station st) (hp : t.purpose ≠ .forwarded) (hp' : t.purpose ≠ .wake)
include ho hreq hp hp'

theorem exec_station_wait (hk : f.kind = 0x12) :
    exec (.waitReceived f.wire) s = .next (finish (stationEnding st t.purpose .wait (replyTaken t s))) := by
  obtain ⟨hl, -, -, hr, -, -, ha⟩ := ho
  rw [exec_of_station_reply hl hr hreq ha (kindAccepted_waitNak hp hp' (.inl hk)) (by rw [hk]; decide) (.inr (.inr (.inl ⟨rfl, hk⟩))),
    endingOf_wait hk]
  rfl

theorem exec_station_nak (hk : f.kind = 0x13) {reason : Byte} (hreason : f.payload.headD 0 = reason) :
    exec (.nakReceived f.wire) s = .next (finish (stationEnding st t.purpose (.nak reason) (replyTaken t s))) := by
  obtain ⟨hl, -, -, hr, -, -, ha⟩ := ho
  have hnak : nakReason f.payload = reason := by rw [← hreason]; cases f.payload <;> rfl
  rw [exec_of_station_reply hl hr hreq ha (kindAccepted_waitNak hp hp' (.inr hk)) (by rw [hk]; decide)
    (.inr (.inr (.inr (.inl ⟨rfl, hk⟩)))), endingOf_nak hk, hnak]
  rfl

end

/-- A roll check's ending changes the station's entry alone, which stays READY with its check pending or as it was (R63). -/
theorem finish_replyTaken_mod {s : State} {t : Transaction} (hs : Settled s) (hn : NoAsk s) (st : St) {f : Station → Station}
    (hstate : (f s.stations[st]).state = s.stations[st].state) (hsusp : (f s.stations[st]).susp = s.stations[st].susp)
    (hpost : (f s.stations[st]).pendingPost = s.stations[st].pendingPost)
    (hcheck : (f s.stations[st]).rollCheck = s.stations[st].rollCheck) (hq : (f s.stations[st]).queue = s.stations[st].queue) :
    finish (modStation st f (replyTaken t s)) = modStation st f (replyTaken t s) :=
  finish_modStation (replyTaken_settled hs) (replyTaken_noAsk hn) st f
    (atRest_modStation hstate hsusp hpost hcheck hq (replyTaken_settled hs st))

theorem replyTaken_modStation_onlyChanges (t : Transaction) (st : St) (f : Station → Station) (s : State) :
    OnlyChanges [.stations, .ring, .devices] s (modStation st f (replyTaken t s)) :=
  ((replyTaken_onlyChanges t s).widen).andThen (modStation_onlyChanges st f _)

theorem stationEnding_of_noPost {s : State} {st : St} (hpost : s.stations[st].pendingPost = none) (e : Ending) :
    stationEnding st .rewind e s = rewindEnding st e s ∧ stationEnding st .rewindPoll e s = rewindPollEnding st e s
      ∧ stationEnding st .rollCheck e s = rollCheckEnding st e s
      ∧ stationEnding st .resumeCheck e s = resumeEnding st .resumeCheck .checking e s
      ∧ stationEnding st .settleAdvance e s = resumeEnding st .settleAdvance .settlingAdvance e s
      ∧ stationEnding st .settlePoll e s = resumeEnding st .settlePoll .settlingAdvanceWait e s := by
  simp only [stationEnding, hpost, Option.isSome_none, Bool.false_eq_true, if_false, and_self]

/-- A WAIT to a REWIND or to one of its polls (R38, R183). -/
theorem stationEnding_unload_wait {s : State} {st : St} (hpost : s.stations[st].pendingPost = none)
    (hu : s.stations[st].state = .unloading) (hc : closeUnderWay s st = false) {p : Purpose} (hp : p = .rewind ∨ p = .rewindPoll) :
    stationEnding st p .wait s =
      if waitsOut s st then suspendUnload st true (offerFault (transactionFault .waitLimit st p none s) s)
      else startGap st p s := by
  obtain ⟨hrewind, hpoll, -⟩ := stationEnding_of_noPost hpost .wait
  rcases hp with rfl | rfl
  · rw [hrewind, rewindEnding, if_neg (rewindEnding_of_unloading hu hc)]
  · rw [hpoll, rewindPollEnding, if_neg (rewindEnding_of_unloading hu hc)]

theorem rollCheckEnding_wait {s : State} {st : St} (h : s.stations[st].rollCheck = true) :
    rollCheckEnding st .wait s = if waitsOut s st then clearWaits st s else startGap st .rollCheck s := by
  rw [rollCheckEnding, h, if_neg (by decide)]

theorem rollCheckEnding_nak {s : State} {st : St} (h : s.stations[st].rollCheck = true) (reason : Byte) :
    rollCheckEnding st (.nak reason) s = clearWaits st s := by rw [rollCheckEnding, h, if_neg (by decide)]

/-- An unload suspended on a fault that found room (R183). -/
theorem suspendUnload_captured {s : State} (hc : s.capture.record = none) (hr : Room s 1) (st : St) (x : FaultRecord) :
    ∃ p v, Transmits s { s with port := p } ∧ DevicesKept s.devices v ∧
      suspendUnload st true (offerFault x s) = suspended st .unload false true v (captured x p s) := by
  obtain ⟨p, hp, htransmits⟩ := offerFault_captured hc hr x
  obtain ⟨v, hv, hs⟩ := enterSuspended_suspended st .unload false true (captured x p s)
  exact ⟨p, v, htransmits, hv, by rw [suspendUnload, hp, hs]⟩

/-- Settles O38. -/
theorem waitsAreCounted : Obligations.WaitsAreCounted := by
  intro s t st d f ho hreq hk
  obtain ⟨-, hset, hn, -, hd, -, -⟩ := id ho
  refine ⟨?_, ?_, ?_⟩
  · intro q m ph kind sp hbusy hrun hmem
    obtain ⟨hphase, hp, hp', hsp, htarget⟩ := frameTransactions_spec hmem s st
    have hrun' : RunsFrame (endGrant s) st q m ph := hrun.congr rfl rfl
    have hexec := exec_station_wait ho hreq hp hp' hk
    have hold : finish (startGap st t.purpose (replyTaken t s)) = startGap st t.purpose (replyTaken t s) :=
      finish_replyTaken_mod hset hn st rfl rfl rfl rfl rfl
    rw [replyTaken_of_busy hd hbusy, stationEnding_frame hrun' hphase, phaseEnding_wait hrun'] at hexec
    rw [replyTaken_of_busy hd hbusy] at hold
    refine ⟨fun hlt => ⟨_, hexec, ?_⟩, fun hge hc hroom => ⟨_, hexec, ?_⟩⟩
    · have hout : waitsOut (endGrant s) st = false := waitsOut_eq_false (s := endGrant s) hlt
      rw [hout, if_neg Bool.false_ne_true, hold]
      exact ⟨modStation_endGrant_onlyChanges _ _ _, rfl, othersSame_upd _ _ _, modStation_self _ _ _⟩
    · have hout : waitsOut (endGrant s) st = true := (waitsOut_iff (s := endGrant s)).mpr hge
      have hfault : transactionFault .waitLimit st t.purpose none (endGrant s)
          = ⟨.waitLimit, if ph = .lampSet then lampOf s st else cameraOf s st, kind, some st, some q.order, some m.gate, none⟩ := by
        rw [transactionFault, hrun'.stationFault, show t.purpose.target (endGrant s) st = _ from htarget]
      obtain ⟨p, v, -, hv, hfail⟩ := failRunning_suspends hrun' hc hroom (transactionFault .waitLimit st t.purpose none (endGrant s))
      rw [hout, if_pos rfl, hfail, finish_suspended hset.endGrant hn.endGrant hv, hfault, hsp]
      refine ⟨othersSame_upd _ _ _, ?_, ?_, ?_, ?_, headOf_suspended (s := captured _ p (endGrant s)) hrun.2.2.2.1 sp true v,
        rfl, rfl, ?_⟩
      · rw [suspended_station]; rfl
      · rw [suspended_station]; rfl
      · rw [suspended_station]; rfl
      · rw [suspended_station]; rfl
      · exact (ring_onlyChanges _ s).widen.andThen (suspended_captured_onlyChanges _ _ _ _ _ _ (endGrant s))
  · intro kind hbusy hunl hpost hq hclose hpurpose
    have hunload : t.purpose = .rewind ∨ t.purpose = .rewindPoll := hpurpose.imp And.left And.left
    have hp : t.purpose ≠ .forwarded := by rcases hunload with h | h <;> rw [h] <;> decide
    have hp' : t.purpose ≠ .wake := by rcases hunload with h | h <;> rw [h] <;> decide
    have htarget : t.purpose.target s st = (cameraOf s st, kind) := by
      rcases hpurpose with ⟨h, rfl⟩ | ⟨h, rfl⟩ <;> rw [h] <;> rfl
    have hexec := exec_station_wait ho hreq hp hp' hk
    have hold : finish (startGap st t.purpose (replyTaken t s)) = startGap st t.purpose (replyTaken t s) :=
      finish_replyTaken_mod hset hn st rfl rfl rfl rfl rfl
    have hwait := stationEnding_unload_wait (s := endGrant s) hpost hunl hclose hunload
    rw [replyTaken_of_busy hd hbusy, hwait] at hexec
    rw [replyTaken_of_busy hd hbusy] at hold
    refine ⟨fun hlt => ⟨_, hexec, ?_⟩, fun hge hc hroom => ⟨_, hexec, ?_⟩⟩
    · have hout : waitsOut (endGrant s) st = false := waitsOut_eq_false (s := endGrant s) hlt
      rw [hout, if_neg Bool.false_ne_true, hold]
      exact ⟨modStation_endGrant_onlyChanges _ _ _, rfl, othersSame_upd _ _ _, modStation_self _ _ _⟩
    · have hout : waitsOut (endGrant s) st = true := (waitsOut_iff (s := endGrant s)).mpr hge
      have hfault : transactionFault .waitLimit st t.purpose none (endGrant s)
          = ⟨.waitLimit, cameraOf s st, kind, some st, none, none, none⟩ := by
        rw [transactionFault, stationFault_of_empty (s := endGrant s) hq, show t.purpose.target (endGrant s) st = _ from htarget]
      obtain ⟨p, v, -, hv, hfail⟩ := suspendUnload_captured (s := endGrant s) hc hroom st
        (transactionFault .waitLimit st t.purpose none (endGrant s))
      rw [hout, if_pos rfl, hfail, finish_suspended hset.endGrant hn.endGrant hv, hfault]
      refine ⟨othersSame_upd _ _ _, ?_, ?_, rfl, rfl, ?_⟩
      · rw [suspended_station]; rfl
      · rw [suspended_station]; rfl
      · exact (ring_onlyChanges _ s).widen.andThen (suspended_captured_onlyChanges _ _ _ _ _ _ (endGrant s))
  · intro hp hcheck hpost
    have hexec := exec_station_wait ho hreq (by rw [hp]; decide) (by rw [hp]; decide) hk
    obtain ⟨-, -, hroll, -⟩ := stationEnding_of_noPost (s := replyTaken t s) hpost .wait
    rw [hp, hroll, rollCheckEnding_wait (s := replyTaken t s) hcheck] at hexec
    refine ⟨_, hexec, ?_⟩
    by_cases hlt : s.stations[st].waits < 199
    · rw [show waitsOut (replyTaken t s) st = false from waitsOut_eq_false (s := replyTaken t s) hlt, if_neg Bool.false_ne_true,
        startGap, finish_replyTaken_mod hset hn st rfl rfl rfl rfl rfl, if_pos hlt]
      exact ⟨replyTaken_modStation_onlyChanges _ _ _ _, rfl, othersSame_upd _ _ _, modStation_self _ _ _⟩
    · rw [show waitsOut (replyTaken t s) st = true from (waitsOut_iff (s := replyTaken t s)).mpr (Nat.not_lt.mp hlt), if_pos rfl,
        clearWaits, finish_replyTaken_mod hset hn st rfl rfl rfl rfl rfl, if_neg hlt]
      exact ⟨replyTaken_modStation_onlyChanges _ _ _ _, rfl, othersSame_upd _ _ _, modStation_self _ _ _⟩

theorem framePurposes_lampSet {p : Purpose} {ph : Phase} (h : (p, ph) ∈ framePurposes) : p = .lampSet ↔ ph = .lampSet := by
  simp only [framePurposes, List.mem_cons, Prod.mk.injEq, List.mem_nil_iff, or_false] at h
  rcases h with ⟨rfl, rfl⟩ | ⟨rfl, rfl⟩ | ⟨rfl, rfl⟩ | ⟨rfl, rfl⟩ | ⟨rfl, rfl⟩ <;> decide

theorem upd_upd {α : Type} {n : Nat} (v : Vector α n) (i : Fin n) (f g : α → α) : upd (upd v i f) i g = upd v i (g ∘ f) := by
  refine Vector.ext fun j hj => ?_
  have h₁ := upd_get (upd v i f) i ⟨j, hj⟩ g
  have h₂ := upd_get v i ⟨j, hj⟩ f
  have h₃ := upd_get v i ⟨j, hj⟩ (g ∘ f)
  simp only [Fin.getElem_fin] at h₁ h₂ h₃
  rw [h₁, h₂, h₃]
  split <;> rfl

theorem modStation_modStation (st : St) (f g : Station → Station) (s : State) :
    modStation st g (modStation st f s) = modStation st (g ∘ f) s := by
  simp only [modStation, upd_upd]

/-- Settles O39. -/
theorem nakSuspendsStation : Obligations.NakSuspendsStation := by
  intro s t st d f ho hreq hk reason hreason
  obtain ⟨-, hset, hn, -, hd, -, -⟩ := id ho
  refine ⟨?_, ?_, ?_, ?_⟩
  · intro q m ph kind sp hbusy hrun hmem hc hroom
    have hmem' : (t.purpose, kind, ph, sp) ∈ frameTransactions := by
      simp only [List.mem_cons, List.mem_nil_iff, or_false] at hmem
      simp only [frameTransactions, List.mem_cons, List.mem_nil_iff, or_false]
      exact hmem.imp id (Or.imp id fun h => .inr (.inl h))
    have hph : ph = .lampSet ∨ ph = .shoot ∨ ph = .advance := by
      simp only [List.mem_cons, Prod.mk.injEq, List.mem_nil_iff, or_false] at hmem
      exact hmem.imp (fun h => h.2.2.1) (Or.imp (fun h => h.2.2.1) fun h => h.2.2.1)
    obtain ⟨hphase, hp, hp', hsp, htarget⟩ := frameTransactions_spec hmem' s st
    have hrun' : RunsFrame (endGrant s) st q m ph := hrun.congr rfl rfl
    have hexec := exec_station_nak ho hreq hp hp' hk hreason
    rw [replyTaken_of_busy hd hbusy, stationEnding_frame hrun' hphase, phaseEnding_nak hrun' hph] at hexec
    obtain ⟨p, v, htransmits, hv, hfail⟩ := failRunning_suspends hrun' hc hroom (nakFault st t.purpose reason (endGrant s))
    have hfault : nakFault st t.purpose reason (endGrant s) = ⟨if ph = .lampSet ∧ reason = 0x01 then .lampFail else .deviceNak,
        if ph = .lampSet then lampOf s st else cameraOf s st, kind, some st, some q.order, some m.gate, some reason⟩ := by
      have hlamp : t.purpose = .lampSet ↔ ph = .lampSet := framePurposes_lampSet hphase
      simp only [nakFault, transactionFault, hrun'.stationFault, show t.purpose.target (endGrant s) st = _ from htarget, hlamp]
      split
      · next h => rw [if_pos h.1, if_pos ⟨h.1, h.2⟩]
      · next h => rw [if_neg (fun hc : ph = .lampSet ∧ reason = 0x01 => h hc)]
    refine ⟨_, hexec, ?_⟩
    rw [hfail, finish_suspended hset.endGrant hn.endGrant hv, hfault, hsp]
    refine ⟨?_, othersSame_upd _ _ _, ?_, ?_, ?_, ?_, headOf_suspended (s := captured _ p (endGrant s)) hrun.2.2.2.1 sp true v,
      rfl, _, rfl, rfl, rfl, rfl, rfl, rfl, rfl, rfl, rfl, htransmits⟩
    · exact (ring_onlyChanges _ s).widen.andThen (suspended_captured_onlyChanges _ _ _ _ _ _ (endGrant s))
    · rw [suspended_station]; rfl
    · rw [suspended_station]; rfl
    · rw [suspended_station]; rfl
    · rw [suspended_station]; rfl
  · intro hp hbusy hunl hpost hq hclose hc hroom
    have hexec := exec_station_nak ho hreq (by rw [hp]; decide) (by rw [hp]; decide) hk hreason
    obtain ⟨hrewind, -⟩ := stationEnding_of_noPost (s := endGrant s) hpost (.nak reason)
    rw [replyTaken_of_busy hd hbusy, hp, hrewind, rewindEnding,
      if_neg (rewindEnding_of_unloading (s := endGrant s) hunl hclose)] at hexec
    have hfault : nakFault st .rewind reason (endGrant s) = ⟨.deviceNak, cameraOf s st, 0x06, some st, none, none, some reason⟩ := by
      rw [nakFault, if_neg (fun h => absurd h.1 (by decide)), transactionFault, stationFault_of_empty (s := endGrant s) hq]
      rfl
    obtain ⟨p, v, -, hv, hfail⟩ := suspendUnload_captured (s := endGrant s) hc hroom st (nakFault st .rewind reason (endGrant s))
    refine ⟨_, hexec, ?_⟩
    dsimp only
    rw [hfail, finish_suspended hset.endGrant hn.endGrant hv, hfault]
    refine ⟨(ring_onlyChanges _ s).widen.andThen (suspended_captured_onlyChanges _ _ _ _ _ _ (endGrant s)),
      othersSame_upd _ _ _, ?_, ?_, rfl, rfl⟩
    · rw [suspended_station]; rfl
    · rw [suspended_station]; rfl
  · intro q m ph hbusy hrun hpurpose
    have hph : ph = .shotWait ∨ ph = .advanceWait := hpurpose.imp And.right And.right
    have hphase : (t.purpose, ph) ∈ framePurposes := by
      rcases hpurpose with ⟨h, rfl⟩ | ⟨h, rfl⟩ <;> rw [h] <;> decide
    have hp : t.purpose ≠ .forwarded ∧ t.purpose ≠ .wake := by
      rcases hpurpose with ⟨h, -⟩ | ⟨h, -⟩ <;> rw [h] <;> decide
    have hrun' : RunsFrame (endGrant s) st q m ph := hrun.congr rfl rfl
    have hexec := exec_station_nak ho hreq hp.1 hp.2 hk hreason
    rw [replyTaken_of_busy hd hbusy, stationEnding_frame hrun' hphase, phaseEnding_nak_poll hrun' hph, startPoll, clearWaits,
      modStation_modStation] at hexec
    refine ⟨_, hexec, ?_⟩
    rw [finish_modStation hset.endGrant hn.endGrant st _ (running_atRest (by rw [modStation_self]; exact hrun.1))]
    exact ⟨modStation_endGrant_onlyChanges _ _ _, rfl, othersSame_upd _ _ _, modStation_self _ _ _⟩
  · intro hp hcheck hpost
    have hexec := exec_station_nak ho hreq (by rw [hp]; decide) (by rw [hp]; decide) hk hreason
    obtain ⟨-, -, hroll, -⟩ := stationEnding_of_noPost (s := replyTaken t s) hpost (.nak reason)
    rw [hp, hroll, rollCheckEnding_nak (s := replyTaken t s) hcheck, clearWaits,
      finish_replyTaken_mod hset hn st (by rfl) (by rfl) (by rfl) (by rfl) (by rfl)] at hexec
    exact ⟨_, hexec, replyTaken_modStation_onlyChanges _ _ _ _, rfl, othersSame_upd _ _ _, modStation_self _ _ _⟩

end Sys2Proof.Machine
end

section
/-! PROOFS. Timers and limits (R39, R73, R77, R78, R80, R127, R128, R140, R151), the hold lines (R82, R185), the frames that are no
reply (R145), and the closing of a reply window (R146, R157). -/

namespace Sys2Proof.Machine

/-! ### WAIT gaps and poll timers (R73, R77, R127, R128) -/

theorem exec_waitGapExpired_station (st : St) (s : State) :
    exec (.waitGapExpired (.station st)) s = live s (stationGapPasses st s) := rfl

theorem exec_waitGapExpired_composer (s : State) : exec (.waitGapExpired .composer) s = live s (composerGapPasses s) := rfl

theorem exec_pollTimerExpired (st : St) (s : State) : exec (.pollTimerExpired st) s = live s (pollTimerExpires st s) := rfl

/-- The purposes that ask a station's camera, with the kinds of their requests (R73, R77). -/
def cameraAsks : List (Purpose × Byte) :=
  [(.shoot, 0x04), (.shotPoll, 0x02), (.advance, 0x05), (.advancePoll, 0x02), (.rewind, 0x06), (.rewindPoll, 0x02),
    (.rollCheck, 0x02), (.resumeCheck, 0x02), (.settleAdvance, 0x05), (.settlePoll, 0x02)]

theorem askFor_camera {s : State} {st : St} {b : Binding} (h : BoundUp s st b) {p : Purpose} {kind : Byte}
    (hp : (p, kind) ∈ cameraAsks) : askFor st p s = standAsk st ⟨b.camera, kind, [], p⟩ s := by
  simp only [cameraAsks, List.mem_cons, Prod.mk.injEq, List.mem_nil_iff, or_false] at hp
  rw [← askCamera_standAsk h]
  rcases hp with ⟨rfl, rfl⟩ | ⟨rfl, rfl⟩ | ⟨rfl, rfl⟩ | ⟨rfl, rfl⟩ | ⟨rfl, rfl⟩ | ⟨rfl, rfl⟩ | ⟨rfl, rfl⟩ | ⟨rfl, rfl⟩
    | ⟨rfl, rfl⟩ | ⟨rfl, rfl⟩ <;> rfl

theorem finish_standAsk {s : State} (hs : Settled s) (hb : EngineBusy s) (st : St) (a : Ask) :
    finish (standAsk st a s) = standAsk st a s := finish_of_busy (settled_of_same hs rfl rfl rfl (.refl _)) hb

theorem standAsk_modStation_onlyChanges (st : St) (a : Ask) (f : Station → Station) (s : State) :
    OnlyChanges [.stations, .ring] s (standAsk st a (modStation st f s)) :=
  ((modStation_onlyChanges st f s).widen).andThen (ring_onlyChanges _ _)

/-- A timer of the station's stops, and the station is as much at rest as before. -/
theorem settled_modStation {s : State} (hs : Settled s) (st : St) {f : Station → Station}
    (hstate : (f s.stations[st]).state = s.stations[st].state) (hsusp : (f s.stations[st]).susp = s.stations[st].susp)
    (hpost : (f s.stations[st]).pendingPost = s.stations[st].pendingPost)
    (hcheck : (f s.stations[st]).rollCheck = s.stations[st].rollCheck) (hq : (f s.stations[st]).queue = s.stations[st].queue) :
    Settled (modStation st f s) :=
  settled_of_others hs (othersSame_upd _ _ _) (othersSame_refl _ _) rfl (.refl _)
    (atRest_modStation hstate hsusp hpost hcheck hq (hs st))

theorem pollPurpose_of_running {s : State} {st : St} {q : Request} {m : RollMap} {ph : Phase} (h : RunsFrame s st q m ph)
    (hph : ph = .shotWait ∨ ph = .advanceWait) :
    pollPurpose s.stations[st] = some (if ph = .shotWait then .shotPoll else .advancePoll) := by
  obtain ⟨hstate, hphase, -⟩ := h
  rcases hph with rfl | rfl <;> simp only [pollPurpose, hstate, hphase] <;> rfl

/-- The Composer's ask for a poll of the printer (R128). -/
def standPrintPoll (s : State) : State :=
  { s with ring := { s.ring with composerAsk := some ⟨printerAddress s, 0x02, [], .printPoll⟩ } }

theorem placeComposerAsk_poll {s : State} (h : isUp s (printerAddress s) = true) :
    placeComposerAsk (printerAddress s) kindStatus [] .printPoll s = standPrintPoll s := if_pos h

theorem finish_standPrintPoll {s : State} (hs : Settled s) (hb : EngineBusy s) : finish (standPrintPoll s) = standPrintPoll s :=
  finish_of_busy (settled_of_same hs rfl rfl rfl (.refl _)) hb

theorem standPrintPoll_modComposer_onlyChanges (f : Composer → Composer) (s : State) :
    OnlyChanges [.composer, .ring] s (standPrintPoll (modComposer f s)) :=
  ((modComposer_onlyChanges f s).widen).andThen (ring_onlyChanges _ _)

/-- Settles O46. -/
theorem timersAct : Obligations.TimersAct := by
  refine ⟨⟨?_, ?_, ?_, ?_⟩, ?_⟩
  · intro s st b p kind ⟨hl, hset, hbusy⟩ hb hpost hgap hp
    have hb' : BoundUp (modStation st (fun x => { x with gap := none }) s) st b := hb.kept rfl (.refl _)
    have hset' := settled_modStation hset st (f := fun x => { x with gap := none }) rfl rfl rfl rfl rfl
    have hpasses : stationGapPasses st s = finish (askFor st p (modStation st (fun x => { x with gap := none }) s)) := by
      simp only [stationGapPasses, hgap, modStation_stations, upd_self, hpost, Option.isSome_none, Bool.false_eq_true, if_false]
    rw [exec_waitGapExpired_station, hpasses, askFor_camera hb' hp, finish_standAsk hset' hbusy]
    exact completes_live hl ⟨standAsk_modStation_onlyChanges _ _ _ _, othersSame_upd _ _ _, modStation_self _ _ _, rfl⟩
  · intro s ⟨hl, hset, hbusy⟩ hup hgap
    have hset' : Settled (modComposer (fun c => { c with gap := none }) s) := settled_of_same hset rfl rfl rfl (.refl _)
    have hpasses : composerGapPasses s = finish (standPrintPoll (modComposer (fun c => { c with gap := none }) s)) := by
      have hask := placeComposerAsk_poll (s := modComposer (fun c => { c with gap := none }) s) hup
      rw [← hask]
      simp only [composerGapPasses, hgap]
      rw [if_neg (by decide)]
    rw [exec_waitGapExpired_composer, hpasses, finish_standPrintPoll hset' hbusy]
    exact completes_live hl ⟨standPrintPoll_modComposer_onlyChanges _ _, rfl, rfl⟩
  · intro s st b q m ph ⟨hl, hset, hbusy⟩ hb hrun htimer hph
    have hb' : BoundUp (modStation st (fun x => { x with pollTimer := false }) s) st b := hb.kept rfl (.refl _)
    have hset' := settled_modStation hset st (f := fun x => { x with pollTimer := false }) rfl rfl rfl rfl rfl
    have hpurpose := pollPurpose_of_running hrun hph
    have hmem : ((if ph = .shotWait then .shotPoll else .advancePoll : Purpose), (0x02 : Byte)) ∈ cameraAsks := by
      split <;> decide
    have hexpires : pollTimerExpires st s = finish (askFor st (if ph = .shotWait then .shotPoll else .advancePoll)
        (modStation st (fun x => { x with pollTimer := false }) s)) := by
      simp only [pollTimerExpires, htimer, if_true, hpurpose, hrun.2.2.1, Option.isSome_none, Bool.false_eq_true, if_false]
    rw [exec_pollTimerExpired, hexpires, askFor_camera hb' hmem, finish_standAsk hset' hbusy]
    exact completes_live hl ⟨standAsk_modStation_onlyChanges _ _ _ _, othersSame_upd _ _ _, modStation_self _ _ _, rfl⟩
  · intro s ⟨hl, hset, hbusy⟩ hup hprint htimer
    have hset' : Settled (modComposer (fun c => { c with pollTimer := false }) s) := settled_of_same hset rfl rfl rfl (.refl _)
    have hask := placeComposerAsk_poll (s := modComposer (fun c => { c with pollTimer := false }) s) hup
    have hexec : exec .printPollTimerExpired s
        = live s (finish (standPrintPoll (modComposer (fun c => { c with pollTimer := false }) s))) := by
      rw [← hask]
      show live s (if s.composer.pollTimer then
        if s.composer.print = .confirming then finish _ else modComposer (fun c => { c with pollTimer := false }) s else s) = _
      rw [htimer, if_pos rfl, if_pos hprint]
    rw [hexec, finish_standPrintPoll hset' hbusy]
    exact completes_live hl ⟨standPrintPoll_modComposer_onlyChanges _ _, rfl, rfl⟩
  · intro s i d ⟨hl, hset, hbusy⟩ hd
    have hfin {e : Device} (hkept : DeviceKept e d) :
        finish { s with devices := s.devices.set i.val (some e) i.isLt } = { s with
          devices := s.devices.set i.val (some e) i.isLt } := by
      have hback : DevicesKept (s.devices.set i.val (some e) i.isLt) s.devices := by
        intro j
        rw [set_get]
        split
        · next hj => rw [hj, hd]; exact .some hkept
        · exact optionRel_refl DeviceKept.refl _
      refine finish_of_busy (settled_of_fewer hset rfl rfl fun st hup => ?_) hbusy
      rw [← hup]
      exact bothUp_kept (s := { s with devices := s.devices.set i.val (some e) i.isLt }) rfl hback
    have hidle : exec (.idleTimerExpired i) s = live s (if d.idleTimer then
        finish (modDevice i (fun d => { d with idleTimer := false, duePoll := true }) s) else s) := by
      show live s (match s.devices[i] with | some d => _ | none => s) = _
      rw [hd]
    have hwake : exec (.wakeTimerExpired i) s = live s (if d.wakeTimer then
        finish (modDevice i (fun d => { d with wakeTimer := false, dueWake := true }) s) else s) := by
      show live s (match s.devices[i] with | some d => _ | none => s) = _
      rw [hd]
    rw [hidle, hwake, live_of_live hl, live_of_live hl]
    refine ⟨fun h => ?_, fun h => ?_, fun h => ?_, fun h => ?_⟩
    · rw [if_pos h, modDevice, upd, hd]
      exact congrArg _ (hfin ⟨rfl, rfl, rfl, id, fun _ => rfl⟩)
    · rw [if_pos h, modDevice, upd, hd]
      exact congrArg _ (hfin ⟨rfl, rfl, rfl, fun _ => rfl, id⟩)
    · rw [h, if_neg Bool.false_ne_true]
    · rw [h, if_neg Bool.false_ne_true]

/-! ### Marks (R29, R77, R78) -/

theorem orderIdx_of_at {s : State} {i : Fin 16} {o : Order} (h : OrderAt s i o) {n : Nat} (hn : o.terms.number = n) :
    orderIdx s n = some i := hn ▸ h.2

theorem orderOf_of_at {s : State} {i : Fin 16} {o : Order} (h : OrderAt s i o) {n : Nat} (hn : o.terms.number = n) :
    orderOf s n = some o := by
  rw [orderOf, orderIdx_of_at h hn]
  exact h.1

theorem reportOrder_of_at {s : State} {i : Fin 16} {o : Order} (h : OrderAt s i o) {n : Nat} (hn : o.terms.number = n)
    (f : Order → Order) : reportOrder n f s = modOrder i f s := by rw [reportOrder, orderIdx_of_at h hn]

theorem accountIdx_of_at {s : State} {j : Fin 32} {a : Account} (h : AccountAt s j a) {n : Nat} (hn : a.number = n) :
    accountIdx s n = some j := hn ▸ h.2

theorem releaseHeld_of_at {s : State} {j : Fin 32} {a : Account} (h : AccountAt s j a) {n : Nat} (hn : a.number = n) (x : Nat) :
    releaseHeld n x s = modAccount j (fun a => { a with held := a.held - x }) s := by rw [releaseHeld, accountIdx_of_at h hn]

/-- What follows a first mark SPOILED (R29): the hold is released, the slot takes a void label, the order counts it. -/
theorem spoilFrame_eq {s : State} {k : Fin 16} {o : Order} {j : Fin 32} {a : Account} {r : FrameRec} (ho : OrderAt s k o)
    (hn : o.terms.number = r.order) (ha : AccountAt s j a) (hj : a.number = o.terms.account) (st : St) (reason : SpoilReason) :
    spoilFrame st reason r s = modOrder k (fun o => { o with spoiled := satAdd o.spoiled 1 })
      (setSlot r.slot (.composed (.frame st r.number) (voidLabel reason r))
        (modAccount j (fun a => { a with held := a.held - r.hold }) s)) := by
  rw [spoilFrame, orderOf_of_at ho hn]
  dsimp only
  rw [releaseHeld_of_at ha hj, composeSlot, reportOrder_of_at (by exact ho) hn]

/-- The map after a first mark (R29). -/
def RollMap.marked (m : RollMap) (f : Nat) (x : FrameState) : RollMap :=
  { m with frames := m.frames.map fun r => if r.number = f then { r with state := x } else r }

theorem setFrameState_eq (st : St) (f : Nat) (x : FrameState) (s : State) :
    setFrameState st f x s = modMap st (·.marked f x) s := rfl

theorem modMap_map {s : State} {st : St} {m : RollMap} (h : s.rolls[st].map = some m) (f : RollMap → RollMap) :
    (modMap st f s).rolls[st].map = some (f m) := by
  rw [modMap_rolls, upd_self, h]; rfl

theorem markSpoiled_of_reserved {s : State} {st : St} {m : RollMap} {roll f : Nat} {r : FrameRec}
    (hm : openMap s st roll = some m) (hr : recordAt m f = some r) (hres : r.state = .reserved) (reason : SpoilReason) :
    markSpoiled st roll f reason s = (.marked, spoilFrame st reason r (setFrameState st f (.spoiled reason) s)) := by
  simp only [markSpoiled, hm, hr, hres, if_true]

/-- The request and the map that a running station stands on, after a change that keeps what RunsFrame speaks of. -/
theorem RunsFrame.after {s u : State} {st : St} {q q' : Request} {m m' : RollMap} {ph : Phase} (h : RunsFrame s st q m ph)
    (hstate : u.stations[st].state = s.stations[st].state) (hphase : u.stations[st].phase = s.stations[st].phase)
    (hpost : u.stations[st].pendingPost = s.stations[st].pendingPost) (hhead : headOf u st = some q')
    (hq : q'.state = q.state ∧ q'.abort = q.abort ∧ q'.outcome = q.outcome ∧ q'.frames = q.frames)
    (hmap : u.rolls[st].map = some m') (hm : m'.roll = m.roll ∧ m'.closing = m.closing) : RunsFrame u st q' m' ph := by
  obtain ⟨h1, h2, h3, -, h5, h6, h7, ⟨r, hr, hroll⟩, -, h9⟩ := h
  obtain ⟨q1, q2, q3, q4⟩ := hq
  exact ⟨hstate.trans h1, hphase.trans h2, hpost.trans h3, hhead, q1.trans h5, q2.trans h6, q3.trans h7,
    ⟨r, q4.trans hr, hroll.trans hm.1.symm⟩, hmap, hm.2.trans h9⟩

theorem RunsFrame.modStation {s : State} {st : St} {q : Request} {m : RollMap} {ph : Phase} (h : RunsFrame s st q m ph)
    {f : Station → Station} (hstate : (f s.stations[st]).state = s.stations[st].state)
    (hphase : (f s.stations[st]).phase = s.stations[st].phase)
    (hpost : (f s.stations[st]).pendingPost = s.stations[st].pendingPost)
    (hq : (f s.stations[st]).queue = s.stations[st].queue) : RunsFrame (modStation st f s) st q m ph := by
  have hself := modStation_self st f s
  refine h.after (by rw [hself, hstate]) (by rw [hself, hphase]) (by rw [hself, hpost]) ?_ ⟨rfl, rfl, rfl, rfl⟩ h.2.2.2.2.2.2.2.2.1
    ⟨rfl, rfl⟩
  rw [headOf, hself, hq]
  exact h.2.2.2.1

theorem headOf_modHead {s : State} {st : St} {q : Request} (h : headOf s st = some q) (f : Request → Request) :
    headOf (modHead st f s) st = some (f q) := by
  have h' : s.stations[st].queue.head? = some q := h
  rw [headOf, modHead_stations, upd_self, List.head?_modifyHead, h', Option.map_some]

/-- A first mark SPOILED of the gate frame that the head request runs, counted by the request (R77, R78). -/
theorem markGateSpoiled_of_reserved {s : State} {st : St} {q : Request} {m : RollMap} {ph : Phase} (h : RunsFrame s st q m ph)
    {r : FrameRec} (hr : recordAt m m.gate = some r) (hres : r.state = .reserved) (reason : SpoilReason) :
    markGateSpoiled st reason s
      = (.marked, countSpoiled st (spoilFrame st reason r (setFrameState st m.gate (.spoiled reason) s))) := by
  rw [markGateSpoiled, h.headRoll, h.gateOf, markSpoiled_of_reserved h.openMap hr hres]

/-! ### Limits (R39, R78, R80, R128) -/

theorem exec_shotLimitExpired (st : St) (s : State) : exec (.shotLimitExpired st) s = live s
    (if s.stations[st].shotLimit.isSome && s.stations[st].state == .running && s.stations[st].phase == some .shotWait
        && s.stations[st].pendingPost.isNone then finish (shotLimitPasses st s) else s) := rfl

theorem modMap_onlyChanges (st : St) (f : RollMap → RollMap) (s : State) : OnlyChanges [.rolls] s (modMap st f s) :=
  modRoll_onlyChanges st _ s

theorem modHead_onlyChanges (st : St) (f : Request → Request) (s : State) : OnlyChanges [.stations] s (modHead st f s) :=
  modStation_onlyChanges st _ s

theorem setSlot_onlyChanges (i : Fin 320) (x : Slot) (s : State) : OnlyChanges [.composer] s (setSlot i x s) :=
  modComposer_onlyChanges _ s

theorem modOrder_onlyChanges (i : Fin 16) (f : Order → Order) (s : State) : OnlyChanges [.orders] s (modOrder i f s) := by
  intro p hp
  cases p with
  | orders => exact absurd (List.mem_singleton_self _) hp
  | _ => rfl

/-- The gate frame's record spoiled, with what follows from it, and the request's count (R29, R78). -/
def gateSpoiled (st : St) (m : RollMap) (r : FrameRec) (reason : SpoilReason) (k : Fin 16) (j : Fin 32) (s : State) : State :=
  countSpoiled st (modOrder k (fun o => { o with spoiled := satAdd o.spoiled 1 })
    (setSlot r.slot (.composed (.frame st r.number) (voidLabel reason r))
      (modAccount j (fun a => { a with held := a.held - r.hold }) (modMap st (·.marked m.gate (.spoiled reason)) s))))

theorem markGateSpoiled_eq {s : State} {st : St} {q : Request} {m : RollMap} {ph : Phase} (h : RunsFrame s st q m ph)
    {r : FrameRec} (hr : recordAt m m.gate = some r) (hres : r.state = .reserved) {k : Fin 16} {o : Order} {j : Fin 32} {a : Account}
    (ho : OrderAt s k o) (hn : o.terms.number = r.order) (ha : AccountAt s j a) (hj : a.number = o.terms.account)
    (reason : SpoilReason) : markGateSpoiled st reason s = (.marked, gateSpoiled st m r reason k j s) := by
  rw [markGateSpoiled_of_reserved h hr hres, setFrameState_eq,
    spoilFrame_eq (s := modMap st (·.marked m.gate (.spoiled reason)) s) ho hn ha hj]
  rfl

theorem gateSpoiled_runsFrame {s : State} {st : St} {q : Request} {m : RollMap} {ph : Phase} (h : RunsFrame s st q m ph)
    (r : FrameRec) (reason : SpoilReason) (k : Fin 16) (j : Fin 32) :
    RunsFrame (gateSpoiled st m r reason k j s) st { q with spoiled := q.spoiled + 1 } (m.marked m.gate (.spoiled reason)) ph := by
  have hself : (gateSpoiled st m r reason k j s).stations[st] = { s.stations[st] with
      queue := s.stations[st].queue.modifyHead fun q => { q with spoiled := q.spoiled + 1 } } := upd_self _ _ _
  exact h.after (by rw [hself]) (by rw [hself]) (by rw [hself]) (headOf_modHead (s := s) h.2.2.2.1 _) ⟨rfl, rfl, rfl, rfl⟩
    (modMap_map h.2.2.2.2.2.2.2.2.1 _) ⟨rfl, rfl⟩

/-- A limit passes: OP_TIMEOUT is captured and the station is suspended with its request, release owed (R78, R80, R182). -/
theorem operationTimeout_suspends {s : State} {st : St} {q : Request} {m : RollMap} {ph : Phase} (h : RunsFrame s st q m ph)
    (hc : s.capture.record = none) (hr : Room s 1) (kind : Byte) (sp : SuspendedPhase) : ∃ p v, DevicesKept s.devices v ∧
      suspendHeld st sp true (operationTimeout st kind s) = suspended st sp true true v
        (captured ⟨.opTimeout, cameraOf s st, kind, some st, some q.order, some m.gate, none⟩ p s) := by
  obtain ⟨p, hcap, -⟩ := offerFault_captured hc hr ⟨.opTimeout, cameraOf s st, kind, some st, some q.order, some m.gate, none⟩
  obtain ⟨v, hv, hsusp⟩ := suspendHeld_suspended
    (s := captured ⟨.opTimeout, cameraOf s st, kind, some st, some q.order, some m.gate, none⟩ p s) h.2.2.2.1 h.2.2.2.2.2.1 sp true
  exact ⟨p, v, hv, by rw [operationTimeout, h.stationFault, hcap, hsusp]⟩

/-- A shot limit and its poll timer have stopped (R78). -/
def Station.shotOver (x : Station) : Station := { x with shotLimit := none, pollTimer := false }

theorem shotLimitPasses_of_mark {s u : State} {st : St}
    (hab : headAborts (modStation st Station.shotOver s) st = false)
    (hmark : markGateSpoiled st .uncertain (modStation st Station.shotOver s)
      = (.marked, u)) :
    shotLimitPasses st s = suspendHeld st .shotWait true (operationTimeout st kindShoot u) := by
  have hmark' : markGateSpoiled st .uncertain (modStation st (fun x => { x with shotLimit := none, pollTimer := false }) s)
      = (.marked, u) := hmark
  have hab' : headAborts (modStation st (fun x => { x with shotLimit := none, pollTimer := false }) s) st = false := hab
  unfold shotLimitPasses
  simp only [hab', Bool.false_eq_true, if_false, hmark']

theorem finish_suspended_busy {s : State} (hs : Settled s) (hb : EngineBusy s) {v : Vector (Option Device) 16}
    (hv : DevicesKept s.devices v) (st : St) (ph : SuspendedPhase) (held : Bool) (x : FaultRecord) (p : ConsolePort) :
    finish (suspended st ph held true v (captured x p s)) = suspended st ph held true v (captured x p s) :=
  EndsAt.finish_busy (st := st) (s := s)
    ⟨othersSame_upd _ _ _, othersSame_refl _ _, rfl, hv, suspended_owed_atRest _ _ _ _ _⟩ hs
    (by
      show (s.ring.engine.map _).isSome = true
      rw [Option.isSome_map]; exact hb)

section
variable (st : St) (m : RollMap) (r : FrameRec) (reason : SpoilReason) (k : Fin 16) (j : Fin 32) (s : State)

theorem gateSpoiled_stations : (gateSpoiled st m r reason k j s).stations =
    upd s.stations st fun x => { x with queue := x.queue.modifyHead fun q => { q with spoiled := q.spoiled + 1 } } := rfl

theorem gateSpoiled_rolls : (gateSpoiled st m r reason k j s).rolls =
    upd s.rolls st fun x => { x with map := x.map.map (·.marked m.gate (.spoiled reason)) } := rfl

theorem gateSpoiled_orders {k : Fin 16} {o : Order} (h : s.orders[k] = some o) : (gateSpoiled st m r reason k j s).orders =
    s.orders.set k.val (some { o with spoiled := min (o.spoiled + 1) 4294967295 }) k.isLt := by
  simp only [gateSpoiled, countSpoiled, modHead_orders, modOrder_orders, setSlot_orders, modAccount_orders, modMap_orders, upd, h,
    Option.map_some, satAdd, top32]

theorem gateSpoiled_accounts {j : Fin 32} {a : Account} (h : s.accounts[j] = some a) :
    (gateSpoiled st m r reason k j s).accounts = s.accounts.set j.val (some { a with held := a.held - r.hold }) j.isLt := by
  simp only [gateSpoiled, countSpoiled, modHead_accounts, modOrder_accounts, setSlot_accounts, modAccount_accounts, modMap_accounts,
    upd, h, Option.map_some]

theorem gateSpoiled_composer : (gateSpoiled st m r reason k j s).composer = { s.composer with
    slots := s.composer.slots.set r.slot.val (.composed (.frame st r.number) (voidLabel reason r)) r.slot.isLt } := by
  simp only [gateSpoiled, countSpoiled, modHead_composer, modOrder_composer, setSlot_composer, modAccount_composer,
    modMap_composer]

theorem gateSpoiled_onlyChanges : OnlyChanges [.stations, .rolls, .orders, .accounts, .composer] s
    (gateSpoiled st m r reason k j s) :=
  (((((modMap_onlyChanges st _ s).widen).andThen (modAccount_onlyChanges j _ _)).andThen (setSlot_onlyChanges r.slot _ _)).andThen
    (modOrder_onlyChanges k _ _)).andThen (modHead_onlyChanges st _ _)

theorem gateSpoiled_settled (hs : Settled s) (hrest : AtRest (gateSpoiled st m r reason k j s) st) :
    Settled (gateSpoiled st m r reason k j s) := by
  refine settled_of_others hs ?_ ?_ rfl (.refl _) hrest
  · rw [gateSpoiled_stations]; exact othersSame_upd _ _ _
  · rw [gateSpoiled_rolls]; exact othersSame_upd _ _ _

end

theorem EngineBusy.congr {s u : State} (h : EngineBusy s) (he : u.ring = s.ring) : EngineBusy u := by
  unfold EngineBusy at h ⊢
  rw [he]
  exact h

theorem cameraOf_congr {s u : State} (h : u.bindings = s.bindings) (st : St) : cameraOf u st = cameraOf s st := by
  rw [cameraOf, cameraOf, h]

theorem Room.congr {s u : State} {n : Nat} (h : Room s n) (he : u.eq = s.eq) : Room u n := by
  unfold Room at h ⊢
  rw [he]
  exact h

/-- Settles O47. -/
theorem shotLimitSpoilsFrame : Obligations.ShotLimitSpoilsFrame := by
  intro s st q m r k o j a ⟨hl, hset, hbusy⟩ hrun hlimit hrec hres ho hn ha hj hc hroom
  have hrun₁ : RunsFrame (modStation st Station.shotOver s) st q m .shotWait :=
    hrun.modStation rfl rfl rfl rfl
  have hmark := markGateSpoiled_eq hrun₁ hrec hres ho hn ha hj .uncertain
  have hrun₂ := gateSpoiled_runsFrame hrun₁ r .uncertain k j
  have hset₁ := settled_modStation hset st (f := Station.shotOver) rfl rfl rfl rfl rfl
  have hset₂ := gateSpoiled_settled st m r .uncertain k j _ hset₁ (running_atRest hrun₂.1)
  have honly := gateSpoiled_onlyChanges st m r .uncertain k j (modStation st Station.shotOver s)
  have hc₂ := (congrArg Capture.record (honly .capture (by decide))).trans hc
  obtain ⟨p, v, hv, hsusp⟩ := operationTimeout_suspends hrun₂ hc₂ (Room.congr hroom (honly .eventQueue (by decide))) kindShoot .shotWait
  rw [cameraOf_congr (s := s) (honly .bindings (by decide))] at hsusp
  have hexec : exec (.shotLimitExpired st) s = .next (finish (shotLimitPasses st s)) := by
    rw [exec_shotLimitExpired, live_of_live hl, hlimit, hrun.1, hrun.2.1, hrun.2.2.1]
    exact congrArg _ (if_pos rfl)
  refine ⟨_, hexec, ?_⟩
  rw [shotLimitPasses_of_mark hrun₁.headAborts hmark, hsusp,
    finish_suspended_busy hset₂ (EngineBusy.congr hbusy (honly .ring (by decide))) hv]
  have hkept := fun x => suspended_captured_onlyChanges st .shotWait true v x p
    (gateSpoiled st m r .uncertain k j (modStation st Station.shotOver s))
  refine ⟨(((modStation_onlyChanges st _ s).widen).andThen honly).andThen (hkept _), ?_, ?_, ?_,
    (hkept _ .accounts (by decide)).trans (gateSpoiled_accounts _ _ _ _ _ _ ha.1),
    (hkept _ .orders (by decide)).trans (gateSpoiled_orders _ _ _ _ _ _ ho.1),
    (hkept _ .composer (by decide)).trans (gateSpoiled_composer _ _ _ _ _ _ _), ?_, ?_, ?_, ?_,
    headOf_suspended (by exact hrun₂.2.2.2.1) .shotWait true v, rfl⟩
  · exact ((othersSame_upd _ _ _).trans (gateSpoiled_stations st m r .uncertain k j _ ▸ othersSame_upd _ _ _)).trans
      (othersSame_upd _ _ _)
  · rw [hkept _ .rolls (by decide), gateSpoiled_rolls]
    exact othersSame_upd _ _ _
  · rw [hkept _ .rolls (by decide)]
    exact hrun₂.2.2.2.2.2.2.2.2.1
  · rw [suspended_station]; rfl
  · rw [suspended_station]; rfl
  · rw [suspended_station]; rfl
  · rw [suspended_station]; rfl

theorem exec_advanceLimitExpired (st : St) (s : State) : exec (.advanceLimitExpired st) s = live s
    (if s.stations[st].advanceLimit && s.stations[st].pendingPost.isNone
        && ((s.stations[st].state == .running && s.stations[st].phase == some .advanceWait)
          || (s.stations[st].state == .suspended && s.stations[st].susp.step == .settlingAdvanceWait)) then
      finish (advanceLimitPasses st s)
    else s) := rfl

theorem exec_rewindLimitExpired (st : St) (s : State) : exec (.rewindLimitExpired st) s = live s
    (if s.stations[st].rewindLimit && s.stations[st].state == .unloading then
      finish (suspendUnload st true (operationTimeout st kindRewind s)) else s) := rfl

theorem exec_printLimitExpired (s : State) : exec .printLimitExpired s = live s
    (if s.composer.printLimit && s.composer.print == .confirming then
      finish (pauseComposer .timeout (offerFault (printerFault .opTimeout kindPrint none s) s)) else s) := rfl

/-- An advance limit and its poll timer have stopped (R80). -/
def Station.advanceOver (x : Station) : Station := { x with advanceLimit := false, pollTimer := false }

theorem advanceLimitPasses_of_running {s : State} {st : St} (h : s.stations[st].state = .running) :
    advanceLimitPasses st s
      = suspendHeld st .advanceWait true (operationTimeout st kindAdvance (modStation st Station.advanceOver s)) := by
  rw [advanceLimitPasses, h, if_neg (by decide)]
  rfl

/-- The Composer as a pause leaves it (R127 to R130). -/
def Composer.pause (reason : PauseReason) (c : Composer) : Composer :=
  { c with print := .paused reason, again := true, printLimit := false, pollTimer := false, gap := none, waits := 0 }

/-- The state that a pause of the Composer leaves, with the devices as they then stand. -/
def paused (reason : PauseReason) (v : Vector (Option Device) 16) (s : State) : State :=
  { s with
      composer := s.composer.pause reason, devices := v
      ring := { s.ring with composerAsk := none, engine := detachFrom .composer s.ring.engine } }

theorem pauseComposer_paused (reason : PauseReason) (s : State) : ∃ v, DevicesKept s.devices v ∧
    pauseComposer reason s = paused reason v s := by
  obtain ⟨v, hv, he⟩ := clearBusyAt_change (printerAddress s) (modComposer (·.pause reason) s)
  refine ⟨v, hv, ?_⟩
  rw [pauseComposer, show (fun c : Composer => { c with
    print := .paused reason, again := true, printLimit := false, pollTimer := false, gap := none, waits := 0 })
    = (·.pause reason) from rfl, he]
  rfl

/-- Settles O48. -/
theorem limitsStopOperations : Obligations.LimitsStopOperations := by
  intro s ⟨hl, hset, hbusy⟩ hc hroom
  refine ⟨?_, ?_, ?_⟩
  · intro st q m hrun hlimit
    have hrun' : RunsFrame (modStation st Station.advanceOver s) st q m .advanceWait := hrun.modStation rfl rfl rfl rfl
    have hset' := settled_modStation hset st (f := Station.advanceOver) rfl rfl rfl rfl rfl
    obtain ⟨p, v, hv, hsusp⟩ := operationTimeout_suspends hrun' hc hroom kindAdvance .advanceWait
    have hexec : exec (.advanceLimitExpired st) s = .next (finish (advanceLimitPasses st s)) := by
      rw [exec_advanceLimitExpired, live_of_live hl, hlimit, hrun.1, hrun.2.1, hrun.2.2.1]
      exact congrArg _ (if_pos rfl)
    refine ⟨_, hexec, ?_⟩
    rw [advanceLimitPasses_of_running hrun.1, hsusp, finish_suspended_busy hset' hbusy hv]
    refine ⟨((modStation_onlyChanges st _ s).widen).andThen (suspended_captured_onlyChanges _ _ _ _ _ _ _),
      (othersSame_upd _ _ _).trans (othersSame_upd _ _ _), ?_, ?_, ?_, rfl⟩
    · rw [suspended_station]; rfl
    · rw [suspended_station]; rfl
    · rw [suspended_station]; rfl
  · intro st hunl hlimit hq
    obtain ⟨p, v, -, hv, hsusp⟩ := suspendUnload_captured hc hroom st (stationFault .opTimeout st (cameraOf s st) kindRewind none s)
    have hexec : exec (.rewindLimitExpired st) s
        = .next (finish (suspendUnload st true (operationTimeout st kindRewind s))) := by
      rw [exec_rewindLimitExpired, live_of_live hl, hlimit, hunl]
      exact congrArg _ (if_pos rfl)
    refine ⟨_, hexec, ?_⟩
    rw [operationTimeout, hsusp, finish_suspended_busy hset hbusy hv, stationFault_of_empty hq]
    refine ⟨(suspended_captured_onlyChanges _ _ _ _ _ _ s).widen, othersSame_upd _ _ _, ?_, ?_, ?_, rfl⟩
    · rw [suspended_station]; rfl
    · rw [suspended_station]; rfl
    · rw [suspended_station]; rfl
  · intro hprint hlimit
    obtain ⟨p, hcap, -⟩ := offerFault_captured hc hroom (printerFault .opTimeout kindPrint none s)
    obtain ⟨v, hv, hpause⟩ := pauseComposer_paused .timeout (captured (printerFault .opTimeout kindPrint none s) p s)
    have hexec : exec .printLimitExpired s
        = .next (finish (pauseComposer .timeout (offerFault (printerFault .opTimeout kindPrint none s) s))) := by
      rw [exec_printLimitExpired, live_of_live hl, hlimit, hprint]
      exact congrArg _ (if_pos rfl)
    have hbusy' : EngineBusy (paused .timeout v (captured (printerFault .opTimeout kindPrint none s) p s)) := by
      show (s.ring.engine.map _).isSome = true
      rw [Option.isSome_map]; exact hbusy
    have hset' : Settled (paused .timeout v (captured (printerFault .opTimeout kindPrint none s) p s)) :=
      settled_of_same hset rfl rfl rfl hv
    refine ⟨_, hexec, ?_⟩
    rw [hcap, hpause, finish_of_busy hset' hbusy']
    refine ⟨?_, rfl, rfl, rfl, rfl, rfl, rfl, rfl⟩
    intro q hq
    cases q with
    | composer | devices | ring | capture | eventQueue | port => exact absurd (by decide) hq
    | _ => rfl

/-! ### Hold lines (R82, R185) -/

theorem exec_holdLineReleased_asserted {s : State} {st : St} (hl : Live s) (h : s.pins.hold[st] = true) :
    exec (.holdLineReleased st) s = .next (holdReleased st (setHold st false s)) := by
  show Host.Outcome.next (if s.pins.hold[st] then
    (if s.pins.nresetLow then setHold st false s else holdReleased st (setHold st false s)) else s) = _
  rw [h, if_pos rfl, show s.pins.nresetLow = false from hl, if_neg Bool.false_ne_true]

theorem setHold_onlyChanges (st : St) (level : Bool) (s : State) : OnlyChanges [.pins] s (setHold st level s) := by
  intro p hp
  cases p with
  | pins => exact absurd (List.mem_singleton_self _) hp
  | _ => rfl

theorem setHold_hold (st : St) (level : Bool) (s : State) : (setHold st level s).pins.hold[st] = level := set_self _ _ _

/-- A SUSPENDED station is no longer owed a release (R185). -/
def Station.released (x : Station) : Station := { x with susp := { x.susp with releaseOwed := false } }

theorem holdReleased_of_suspended {s : State} {st : St} (h : s.stations[st].state = .suspended) : holdReleased st s =
    finish (modStation st Station.released s) := by
  simp only [holdReleased, h]
  rfl

theorem holdReleased_of_other {s : State} {st : St} (hheld : s.stations[st].state ≠ .held)
    (hsusp : s.stations[st].state ≠ .suspended) : holdReleased st s = s := by
  unfold holdReleased
  dsimp only
  split
  · next h => exact absurd h hheld
  · next h => exact absurd h hsusp
  all_goals rfl

/-- A resume has begun (R187). -/
def Station.checking (x : Station) : Station := { x with susp := { x.susp with step := .checking }, waits := 0, gap := none }

theorem beginCheck_standAsk {s : State} {st : St} {b : Binding} (h : BoundUp s st b) :
    beginCheck st s = standAsk st ⟨b.camera, 0x02, [], .resumeCheck⟩ (modStation st Station.checking s) := by
  rw [beginCheck]
  exact askCamera_standAsk (h.kept (u := modStation st Station.checking s) rfl (.refl _)) kindStatus .resumeCheck

theorem standAsk_stations (st : St) (a : Ask) (s : State) : (standAsk st a s).stations = s.stations := rfl

theorem beginCheck_atRest {s : State} {st : St} {b : Binding} (h : BoundUp s st b) (hsusp : s.stations[st].state = .suspended) :
    AtRest (beginCheck st s) st := by
  rw [beginCheck_standAsk h]
  refine atRest_of_step ?_ ?_
  · rw [standAsk_stations, modStation_self]; exact hsusp
  · rw [standAsk_stations, modStation_self]; nofun

/-- The resume of one station begins, and nothing else has to be done (R186, R187). -/
theorem settle_resumes {s : State} {st : St} {b : Binding} (hothers : ∀ st', st' ≠ st → AtRest s st') (hb : BoundUp s st b)
    (hr : resumable s st = true) :
    settle s = standAsk st ⟨b.camera, 0x02, [], .resumeCheck⟩ (modStation st Station.checking s)
      ∧ Settled (standAsk st ⟨b.camera, 0x02, [], .resumeCheck⟩ (modStation st Station.checking s)) := by
  have hrest := beginCheck_atRest hb (resumable_iff.mp hr).1
  have hsettled : Settled (beginCheck st s) := by
    intro st'
    by_cases e : st' = st
    · exact e ▸ hrest
    · rw [beginCheck_standAsk hb]
      exact atRest_congr (upd_ne _ _ _ _ e) rfl (bothUp_kept rfl (.refl _)) (hothers st' e)
  have hsettle := settle_of_one hothers (settleStation_resumes _ hr hrest) hsettled
  rw [beginCheck_standAsk hb] at hsettle hsettled
  exact ⟨hsettle, hsettled⟩

/-- Settles O5. -/
theorem holdLineLevels : Obligations.HoldLineLevels := by
  refine ⟨?_, ?_, ?_, ?_, ?_⟩
  · intro st s
    exact ⟨_, rfl, setHold_onlyChanges st true s, setHold_hold st true s, othersSame_set _ _ _, rfl, rfl⟩
  · intro st s h
    show Host.Outcome.next (if s.pins.hold[st] then _ else s) = _
    rw [h, if_neg Bool.false_ne_true]
  · intro st s hl h hheld hsusp
    refine ⟨_, exec_holdLineReleased_asserted hl h, ?_⟩
    rw [holdReleased_of_other (s := setHold st false s) hheld hsusp]
    exact ⟨setHold_onlyChanges st false s, setHold_hold st false s, othersSame_set _ _ _⟩
  · intro st s ⟨hl, hset, hbusy⟩ h hsusp hdown
    have hset' : Settled (modStation st Station.released (setHold st false s)) := by
      refine settled_of_others hset (othersSame_upd _ _ _) (othersSame_refl _ _) rfl (.refl _) (atRest_of_down ?_ hdown)
      rw [modStation_self]; exact hsusp
    refine ⟨_, exec_holdLineReleased_asserted hl h, ?_⟩
    rw [holdReleased_of_suspended (s := setHold st false s) hsusp, finish_of_busy hset' hbusy]
    exact ⟨((setHold_onlyChanges st false s).widen).andThen (modStation_onlyChanges st _ _), setHold_hold st false s,
      othersSame_upd _ _ _, modStation_self _ _ _⟩
  · intro st s b m ⟨hl, hset, hbusy⟩ h hsusp hb hpost hstep hm hclose
    have hself : (modStation st Station.released (setHold st false s)).stations[st] = s.stations[st].released :=
      modStation_self _ _ _
    have hresumable : resumable (modStation st Station.released (setHold st false s)) st = true := by
      refine resumable_iff.mpr ⟨by rw [hself]; exact hsusp, hb.2, by rw [hself]; rfl, by rw [hself]; exact hpost,
        by rw [hself]; exact hstep, ?_, ?_⟩
      · show s.rolls[st].map.isSome = true
        rw [hm]; rfl
      · show closeUnderWay s st = false
        rw [closeUnderWay, hm, Option.map_some, hclose]; rfl
    have hothers : ∀ st', st' ≠ st → AtRest (modStation st Station.released (setHold st false s)) st' := fun st' e =>
      atRest_congr (upd_ne _ _ _ _ e) rfl (bothUp_kept rfl (.refl _)) (hset st')
    obtain ⟨hsettle, hsettled⟩ := settle_resumes hothers (hb.kept rfl (.refl _)) hresumable
    refine ⟨_, exec_holdLineReleased_asserted hl h, ?_⟩
    rw [holdReleased_of_suspended (s := setHold st false s) hsusp,
      finish, hsettle, arbitrate_of_busy (by exact hbusy)]
    refine ⟨((((setHold_onlyChanges st false s).widen).andThen (modStation_onlyChanges st _ _)).andThen
        (modStation_onlyChanges st _ _)).andThen (ring_onlyChanges _ _),
      (othersSame_upd _ _ _).trans (othersSame_upd _ _ _), ?_, ?_, standAsk_asks _ _ _, othersSame_set _ _ _⟩
    · rw [standAsk_stations, modStation_self, hself]; exact hsusp
    · rw [standAsk_stations, modStation_self, hself]; rfl

/-! ### The frame boundary (R74, R150) -/

/-- A frame begins at a station: phase LAMP_SET (R74). -/
def Station.lampSetting (x : Station) : Station := { x.quiet with state := .running, phase := some .lampSet }

/-- The entry at an address is busy, its idle timer stopped, and a busy entry stays so (R150). -/
theorem setBusyAt_busy {s : State} {a : Byte} {i : Fin 16} {d : Device} (hd : (setBusyAt a s).devices[i] = some d)
    (h : deviceIdx s a = some i ∨ ∀ e, s.devices[i] = some e → e.busy = true ∧ e.idleTimer = false) :
    d.busy = true ∧ d.idleTimer = false := by
  unfold setBusyAt modDeviceAt at hd
  split at hd
  · next j hj =>
    rw [modDevice_devices, upd_get] at hd
    split at hd
    · obtain ⟨e, he, rfl⟩ := Option.map_eq_some_iff.mp hd
      exact ⟨rfl, rfl⟩
    · next hne =>
      rcases h with h | h
      · rw [hj] at h; exact absurd (Option.some.inj h).symm hne
      · exact h d hd
  · next hnone =>
    rcases h with h | h
    · rw [hnone] at h; cases h
    · exact h d hd

theorem setBusyStation_busy {s : State} {st : St} {i : Fin 16} {d : Device} (hd : (setBusyStation st s).devices[i] = some d)
    (h : deviceIdx s (cameraOf s st) = some i ∨ deviceIdx s (lampOf s st) = some i) : d.busy = true ∧ d.idleTimer = false := by
  obtain ⟨v, hv, he⟩ := setBusyAt_change (cameraOf s st) s
  have hcamera := @setBusyAt_busy s (cameraOf s st) i
  unfold setBusyStation at hd
  refine setBusyAt_busy hd ?_
  rcases h with h | h
  · exact .inr fun e he' => hcamera he' (.inl h)
  · refine .inl ?_
    rw [he, deviceIdx_kept (s := s) hv]
    exact h

theorem gateRecord_congr {s u : State} {st : St} (hh : headOf u st = headOf s st) (hr : u.rolls = s.rolls) :
    gateRecord u st = gateRecord s st := by
  unfold gateRecord headRoll openMap rollOf
  rw [hh, hr]

theorem headOf_modStation {st : St} {f : Station → Station} {s : State} (h : (f s.stations[st]).queue = s.stations[st].queue) :
    headOf (modStation st f s) st = headOf s st := by rw [headOf, modStation_self, h]; rfl

theorem askLampSet_standAsk {s : State} {st : St} {b : Binding} {r : FrameRec} (hb : BoundUp s st b)
    (hr : gateRecord s st = some r) : askLampSet st s = standAsk st ⟨b.lamp, 0x03, lampPayload r.times, .lampSet⟩ s := by
  have hup : isUp s b.lamp = true := hb.lamp ▸ hb.lampUp
  simp only [askLampSet, hr, hb.lamp, placeAsk_eq_standAsk hup]
  rfl

theorem enterLampSet_eq {s : State} {st : St} {b : Binding} {r : FrameRec} (hb : BoundUp s st b) (hr : gateRecord s st = some r) :
    ∃ v, DevicesKept s.devices v
      ∧ (∀ (i : Fin 16) d, v[i] = some d → deviceIdx s b.camera = some i ∨ deviceIdx s b.lamp = some i →
          d.busy = true ∧ d.idleTimer = false)
      ∧ enterLampSet st s = standAsk st ⟨b.lamp, 0x03, lampPayload r.times, .lampSet⟩
          { modStation st Station.lampSetting s with devices := v } := by
  obtain ⟨v, hv, he⟩ := setBusyStation_change st (modStation st Station.lampSetting s)
  refine ⟨v, hv, fun i d hd hi => ?_, ?_⟩
  · have hcamera : cameraOf (modStation st Station.lampSetting s) st = b.camera := hb.camera
    have hlamp : lampOf (modStation st Station.lampSetting s) st = b.lamp := hb.lamp
    refine setBusyStation_busy (s := modStation st Station.lampSetting s) (by rw [he]; exact hd) ?_
    rw [hcamera, hlamp]
    exact hi
  · have hb' : BoundUp { modStation st Station.lampSetting s with devices := v } st b := hb.kept rfl hv
    have hr' : gateRecord { modStation st Station.lampSetting s with devices := v } st = some r :=
      (gateRecord_congr (s := s) (headOf_modStation (s := s) (f := Station.lampSetting) rfl) rfl).trans hr
    rw [enterLampSet, hr]
    show askLampSet st (setBusyStation st (modStation st Station.lampSetting s)) = _
    rw [he, askLampSet_standAsk hb' hr']

/-- The checks of a frame boundary, passed: no abort, both devices UP, the hold line released (R74). -/
theorem boundary_lampSet {s : State} {st : St} {q : Request} {b : Binding} (hq : headOf s st = some q) (hab : q.abort = false)
    (hb : BoundUp s st b) (hhold : s.pins.hold[st] = false) : boundary st s = enterLampSet st (modStation st Station.quiet s) := by
  have hhead : headAborts (modStation st Station.quiet s) st = false := by
    rw [headAborts, headOf_modStation (by rfl), hq, Option.map_some, Option.getD_some, hab]
  have hup : bothUp (modStation st Station.quiet s) st = true := (bothUp_kept rfl (.refl _)).trans hb.2
  unfold boundary
  simp only [hhead, hup, Bool.false_eq_true, if_false, Bool.not_true, modStation_pins, hhold]

/-- The checks of a frame boundary with a device that is not UP (R74). -/
theorem boundary_down {s : State} {st : St} {q : Request} (hq : headOf s st = some q) (hab : q.abort = false)
    (hdown : bothUp s st = false) : boundary st s = suspendHeld st .boundary false (modStation st Station.quiet s) := by
  have hhead : headAborts (modStation st Station.quiet s) st = false := by
    rw [headAborts, headOf_modStation (by rfl), hq, Option.map_some, Option.getD_some, hab]
  have hup : bothUp (modStation st Station.quiet s) st = false := (bothUp_kept rfl (.refl _)).trans hdown
  unfold boundary
  simp only [hhead, hup, Bool.false_eq_true, if_false, Bool.not_false, if_true]

theorem holdReleased_of_held {s : State} {st : St} (h : s.stations[st].state = .held) (hpost : s.stations[st].pendingPost = none) :
    holdReleased st s = finish (boundary st s) := by
  simp only [holdReleased, h, hpost, Option.isSome_none, Bool.false_eq_true, if_false]

theorem suspended_onlyChanges (st : St) (ph : SuspendedPhase) (held owed : Bool) (v : Vector (Option Device) 16) (s : State) :
    OnlyChanges [.stations, .devices, .ring] s (suspended st ph held owed v s) := by
  intro p hp
  cases p with
  | stations | devices | ring => exact absurd (by decide) hp
  | _ => rfl

theorem suspended_busy {s : State} (h : EngineBusy s) (st : St) (ph : SuspendedPhase) (held owed : Bool)
    (v : Vector (Option Device) 16) : EngineBusy (suspended st ph held owed v s) := by
  show (s.ring.engine.map _).isSome = true
  rw [Option.isSome_map]; exact h

/-- Settles O6. -/
theorem holdReleaseTakesBoundary : Obligations.HoldReleaseTakesBoundary := by
  intro st s q ⟨hl, hset, hbusy⟩ h hheld hpost hq hab
  have hexec : exec (.holdLineReleased st) s = .next (finish (boundary st (setHold st false s))) := by
    rw [exec_holdLineReleased_asserted hl h, holdReleased_of_held (s := setHold st false s) hheld hpost]
  refine ⟨fun b r hb hr => ?_, fun hdown => ?_⟩
  · have hr' : gateRecord (modStation st Station.quiet (setHold st false s)) st = some r :=
      (gateRecord_congr (s := s) (headOf_modStation (s := setHold st false s) (f := Station.quiet) rfl) rfl).trans hr
    obtain ⟨v, hv, hbusyDevices, henter⟩ :=
      enterLampSet_eq (s := modStation st Station.quiet (setHold st false s)) (hb.kept rfl (.refl _)) hr'
    obtain ⟨u, hu⟩ : ∃ u, u = standAsk st ⟨b.lamp, 0x03, lampPayload r.times, .lampSet⟩
      { modStation st Station.lampSetting (modStation st Station.quiet (setHold st false s)) with devices := v } := ⟨_, rfl⟩
    have honly : OnlyChanges [.pins, .stations, .devices, .ring] s u := hu ▸
      (((((setHold_onlyChanges st false s).widen).andThen (modStation_onlyChanges st _ _)).andThen
        (modStation_onlyChanges st _ _)).andThen (devices_onlyChanges v _)).andThen (ring_onlyChanges _ _)
    have hstations : u.stations = upd (upd s.stations st Station.quiet) st Station.lampSetting := by rw [hu]; rfl
    have hself : u.stations[st] = s.stations[st].quiet.lampSetting := by rw [hstations, upd_self, upd_self]
    have hothers : OthersSame st s.stations u.stations := by
      rw [hstations]; exact (othersSame_upd _ _ _).trans (othersSame_upd _ _ _)
    have hring : u.ring = { s.ring with
        asks := s.ring.asks.set st.val (some ⟨b.lamp, 0x03, lampPayload r.times, .lampSet⟩) st.isLt } := by rw [hu]; rfl
    have hdevices : u.devices = v := by rw [hu]; rfl
    have hsettled : Settled u := settled_of_others hset hothers (by rw [honly .rolls (by decide)]; exact othersSame_refl _ _)
      (honly .bindings (by decide)) (hdevices ▸ hv) (running_atRest (by rw [hself]; rfl))
    refine ⟨_, hexec, ?_⟩
    rw [boundary_lampSet (s := setHold st false s) hq hab (hb.kept rfl (.refl _)) (setHold_hold st false s), henter, ← hu,
      finish_of_busy hsettled (by rw [EngineBusy, hring]; exact hbusy)]
    refine ⟨honly, hothers, by rw [hself]; rfl, by rw [hself]; rfl, by rw [hself]; rfl, by rw [hring]; exact set_self _ _ _,
      by rw [hring], by rw [hring]; exact othersSame_set _ _ _, fun i d hd ha hi => ?_⟩
    rw [hdevices] at hd
    refine hbusyDevices i d hd ?_
    rcases ha with ha | ha
    · exact .inl (ha ▸ hi)
    · exact .inr (ha ▸ hi)
  · obtain ⟨v, hv, hsusp⟩ := suspendHeld_suspended (s := modStation st Station.quiet (setHold st false s)) (q := q)
      ((headOf_modStation (s := setHold st false s) (f := Station.quiet) rfl).trans hq) hab .boundary false
    obtain ⟨u, hu⟩ : ∃ u, u = suspended st .boundary true false v (modStation st Station.quiet (setHold st false s)) := ⟨_, rfl⟩
    have hself : u.stations[st] = s.stations[st].quiet.suspend .boundary true false := by
      rw [hu, suspended_station, modStation_self]; rfl
    have honly : OnlyChanges [.pins, .stations, .devices, .ring] s u := by
      rw [hu]
      exact (((setHold_onlyChanges st false s).widen).andThen (modStation_onlyChanges st Station.quiet _)).andThen
        (suspended_onlyChanges _ _ _ _ _ _)
    have hothers : OthersSame st s.stations u.stations := by
      rw [hu]; exact (othersSame_upd _ _ _).trans (othersSame_upd _ _ _)
    have hdown' : bothUp u st = false := (bothUp_kept (s := s) (by rw [honly .bindings (by decide)]) (by rw [hu]; exact hv)).trans hdown
    have hsettled : Settled u := settled_of_others hset hothers (by rw [honly .rolls (by decide)]; exact othersSame_refl _ _)
      (honly .bindings (by decide)) (by rw [hu]; exact hv) (atRest_of_down (by rw [hself]; rfl) hdown')
    have hhead : headOf u st = some { q with state := .suspended } := by
      rw [hu]
      exact headOf_suspended ((headOf_modStation (s := setHold st false s) (f := Station.quiet) rfl).trans hq) .boundary false v
    refine ⟨_, hexec, ?_⟩
    rw [boundary_down (s := setHold st false s) hq hab hdown, hsusp, ← hu, finish_of_busy hsettled (hu ▸ suspended_busy (by exact hbusy) _ _ _ _ _)]
    refine ⟨honly, hothers, by rw [hself]; rfl, by rw [hself]; rfl, by rw [hself]; rfl, hhead, ?_⟩
    rw [hu]
    exact set_self _ _ _

end Sys2Proof.Machine
end

section
/-! PROOFS. The frames that are no reply of the open attempt (R145), and the closing of a reply window: the frame is sent again, or
the device is LOST (R146, R157). -/

namespace Sys2Proof.Machine

/-! ### No reply (R144, R145) -/

theorem not_kindAccepted {t : Transaction} {f : LinkFrame} (hf : t.purpose ≠ .forwarded) (hw : t.purpose ≠ .wake)
    (hkind : f.kind ≠ 0x12 ∧ f.kind ≠ 0x13) (h : (t.request.kind = 0x02 ∧ f.kind ≠ 0x14 ∨ t.request.kind ≠ 0x02 ∧ f.kind ≠ 0x11)) :
    kindAccepted t f = false := by
  have hwn : ¬ (f.kind = kindWait ∨ f.kind = kindNak) := not_or.mpr hkind
  unfold kindAccepted
  rw [if_neg hf, if_neg hw, if_neg hwn]
  rcases h with ⟨hreq, hne⟩ | ⟨hreq, hne⟩
  · rw [if_pos (show t.request.kind = kindStatus from hreq), beq_eq_false_iff_ne.mpr (show f.kind ≠ kindStatusReply from hne)]
    rfl
  · rw [if_neg (show t.request.kind ≠ kindStatus from hreq), beq_eq_false_iff_ne]
    exact hne

theorem not_kindAccepted_status {t : Transaction} {f : LinkFrame} (hf : t.purpose ≠ .forwarded) (hw : t.purpose ≠ .wake)
    (hreq : t.request.kind = 0x02) (hk : f.kind = 0x14) (h : ¬ StatusParses t.cls f.payload) : kindAccepted t f = false := by
  unfold kindAccepted
  rw [if_neg hf, if_neg hw, hk, if_neg (by decide), if_pos (show t.request.kind = kindStatus from hreq),
    Bool.eq_false_iff.mpr (mt (parseStatus_isSome_iff _ _).mp h)]
  rfl

theorem ofCode_code (c : DevClass) : DevClass.ofCode c.code = some c := by cases c <;> rfl

theorem not_kindAccepted_wake {t : Transaction} {f : LinkFrame} (hw : t.purpose = .wake)
    (h : (f.kind ≠ 0x10 ∧ f.kind ≠ 0x11 ∧ f.kind ≠ 0x12 ∧ f.kind ≠ 0x13 ∧ f.kind ≠ 0x14)
      ∨ (f.kind = 0x14 ∧ ¬ StatusParses t.cls f.payload)
      ∨ (f.kind = 0x10 ∧ (f.payload = []
        ∨ ∃ status, f.payload = t.cls.code :: status ∧ ¬ StatusParses t.cls status))) : kindAccepted t f = false := by
  unfold kindAccepted
  rw [hw, if_neg (by decide), if_pos rfl, Bool.eq_false_iff, ne_eq, wakeAccepted_iff]
  rintro (⟨hready, b, status, hp, hs⟩ | ⟨-, hreply, hs⟩ | ⟨hready, hreply, hkind⟩)
  · rcases h with ⟨hne, -⟩ | ⟨hk, -⟩ | ⟨-, hnil | ⟨status', hp', hns⟩⟩
    · exact hne hready
    · exact absurd (hready.symm.trans hk) (by decide)
    · rw [hp] at hnil; cases hnil
    · rw [hp'] at hp
      obtain ⟨rfl, rfl⟩ := List.cons.inj hp
      exact hns (hs (ofCode_code _))
  · rcases h with ⟨-, -, -, -, hne⟩ | ⟨-, hns⟩ | ⟨hk, -⟩
    · exact hne hreply
    · exact hns hs
    · exact absurd (hreply.symm.trans hk) (by decide)
  · rcases h with ⟨h10, h11, h12, h13, h14⟩ | ⟨hk, -⟩ | ⟨hk, -⟩
    · simp only [isReplyKind, Bool.or_eq_true, beq_iff_eq] at hkind
      rcases hkind with (((h | h) | h) | h) | h
      · exact h10 h
      · exact h11 h
      · exact h12 h
      · exact h13 h
      · exact h14 h
    · exact hreply hk
    · exact hready hk

theorem replyAccepted_iff {t : Transaction} {f : LinkFrame} : replyAccepted t f = true
    ↔ t.attempt ≤ t.opened ∧ f.src = t.request.dst ∧ f.dst = t.request.src ∧ f.tag = t.request.tag ∧ kindAccepted t f = true := by
  simp [replyAccepted, Transaction.isSending, and_assoc]

theorem replyOf_of_none {s : State} {bytes : List Byte} (h : reply? s bytes = none) (kinds : Byte → Bool) :
    replyOf kinds bytes s = s := by rw [replyOf, h]

/-- Bytes are a reply exactly when the engine's transaction accepts the frame that they are. -/
theorem reply?_eq_none {s : State} {bytes : List Byte}
    (h : ∀ t f, s.ring.engine = some t → receive bytes = .ok f → replyAccepted t f = false) : reply? s bytes = none := by
  unfold reply? received?
  split
  · next t f ht hf =>
    split at hf
    · next f' hf' =>
      obtain rfl := Option.some.inj hf
      rw [h t f' ht hf', if_neg Bool.false_ne_true]
    · cases hf
  · rfl

theorem live_self (s : State) : live s s = .next s := by
  unfold live
  split <;> rfl

theorem exec_reply_none {s : State} {bytes : List Byte} (h : reply? s bytes = none) {c : Instr}
    (hc : c = .readyReceived bytes ∨ c = .ackReceived bytes ∨ c = .waitReceived bytes ∨ c = .nakReceived bytes
      ∨ c = .statusReplyReceived bytes) : exec c s = .next s := by
  rcases hc with rfl | rfl | rfl | rfl | rfl
  · rw [exec_readyReceived, replyOf_of_none h, live_self]
  · rw [exec_ackReceived, replyOf_of_none h, live_self]
  · rw [exec_waitReceived, replyOf_of_none h, live_self]
  · rw [exec_nakReceived, replyOf_of_none h, live_self]
  · rw [exec_statusReplyReceived, replyOf_of_none h, live_self]

theorem exec_strayRingFrame (bytes : List Byte) (s : State) : exec (.strayRingFrame bytes) s = live s s := rfl

/-- Settles O43. -/
theorem otherFramesDiscarded : Obligations.OtherFramesDiscarded := by
  refine ⟨fun bytes s => (exec_strayRingFrame bytes s).trans (live_self s), fun bytes s c hc h => ?_⟩
  refine exec_reply_none (reply?_eq_none fun t f ht hf => ?_) hc
  rw [Bool.eq_false_iff, ne_eq, replyAccepted_iff]
  rintro ⟨hopen, hsrc, hdst, htag, hkind⟩
  rcases h with he | ⟨t', ht', hsending⟩ | ⟨e, he⟩ | ⟨t', f', ht', hf', h⟩
  · rw [he] at ht; cases ht
  · obtain rfl := Option.some.inj (ht.symm.trans ht')
    omega
  · rw [he] at hf; cases hf
  · obtain rfl := Option.some.inj (ht.symm.trans ht')
    obtain rfl := Except.ok.inj (hf.symm.trans hf')
    rcases h with h | h | h | ⟨hfw, hw, hreq, hkinds⟩ | ⟨hfw, hw, hreq, hk, hns⟩ | ⟨hw, h⟩
    · exact h hsrc
    · exact h hdst
    · exact h htag
    · rw [not_kindAccepted hfw hw hkinds hreq] at hkind; cases hkind
    · rw [not_kindAccepted_status hfw hw hreq hk hns] at hkind; cases hkind
    · rw [not_kindAccepted_wake hw h] at hkind; cases hkind

/-! ### The reply window closes (R141, R146, R157) -/

theorem exec_replyWindowExpired (s : State) : exec .replyWindowExpired s = live s (windowCloses s) := rfl

theorem windowCloses_of_sending {s : State} {t : Transaction} (he : s.ring.engine = some t) (h : t.opened < t.attempt) :
    windowCloses s = s := by
  have hsending : t.isSending = true := decide_eq_true h
  simp only [windowCloses, he, hsending, if_true]

section
variable {s : State} {t : Transaction} (hr : Runs s t)
include hr

theorem windowCloses_again (h : t.attempt < t.attempts) : windowCloses s =
    { s with ring := { s.ring with engine := some { t with attempt := t.attempt + 1 } } } := by
  obtain ⟨he, -, -, -, hopen⟩ := hr
  have hsending : t.isSending = false := decide_eq_false (Nat.not_lt.mpr hopen)
  simp only [windowCloses, he, hsending, Bool.false_eq_true, if_false, h, if_true]

theorem windowCloses_last (h : t.attempts ≤ t.attempt) : windowCloses s = finish (silentEnd t s) := by
  obtain ⟨he, -, -, -, hopen⟩ := hr
  have hsending : t.isSending = false := decide_eq_false (Nat.not_lt.mpr hopen)
  simp only [windowCloses, he, hsending, Bool.false_eq_true, if_false, Nat.not_lt.mpr h]

theorem silentEnd_wake (hp : t.purpose = .wake) : silentEnd t s = endGrant (modDevice t.entry Device.failedWake s) := by
  obtain ⟨-, hvoid, horphan, -⟩ := hr
  simp only [silentEnd, hvoid, horphan, hp, Bool.false_eq_true, if_false, if_true]

theorem silentEnd_lost (hp : t.purpose ≠ .wake) (hreq : t.requester ≠ .forward) :
    silentEnd t s = endGrant (loseDevice t.entry t.request.kind s) := by
  obtain ⟨-, hvoid, horphan, -⟩ := hr
  have hforward (u : State) : forwardNoReply t u = u := by
    unfold forwardNoReply
    split
    · next h => exact absurd h hreq
    all_goals rfl
  simp only [silentEnd, hvoid, horphan, hp, Bool.false_eq_true, if_false, hforward]

end

theorem attempts_of_wake {t : Transaction} (h : t.purpose = .wake) : t.attempts = 1 := if_pos h

theorem attempts_of_other {t : Transaction} (h : t.purpose ≠ .wake) : t.attempts = 3 := if_neg h

theorem slotDeviceDown_of_noAsk {s : State} (h : ∀ f, s.slot ≠ .asking f) (a : Byte) : slotDeviceDown a s = s := by
  unfold slotDeviceDown
  split
  · next f hf => exact absurd hf (h f)
  all_goals rfl

theorem dropAsksFor_of_noAsk {s : State} (hasks : ∀ st : St, s.ring.asks[st] = none) (hcomposer : s.ring.composerAsk = none)
    (a : Byte) : dropAsksFor a s = s := by
  have hempty : s.ring.asks = Vector.replicate 4 none := Vector.ext fun j hj => by
    rw [Vector.getElem_replicate]; exact hasks ⟨j, hj⟩
  unfold dropAsksFor
  simp only [hcomposer, hempty, Vector.map_replicate]
  rw [← hempty, ← hcomposer]

/-- The entry of a lost device (R157). -/
theorem toLost_less (d : Device) : DeviceLess d d.toLost := ⟨rfl, nofun, id, nofun⟩

theorem failedWake_less {d : Device} {wasLost : Bool} (h : d.link = .waking wasLost) : DeviceLess d d.failedWake := by
  refine ⟨rfl, fun hup => ?_, id, id⟩
  cases wasLost <;> rw [Device.failedWake, h] at hup <;> cases hup

theorem modDevice_set {s : State} {i : Fin 16} {d : Device} (h : s.devices[i] = some d) (f : Device → Device) :
    modDevice i f s = { s with devices := s.devices.set i.val (some (f d)) i.isLt } := by rw [modDevice, upd, h, Option.map_some]

/-- A device that leaves UP with nothing asked: its station is told, and nothing else has to be done (R143, R148). -/
theorem deviceLeftUp_of_noAsk {s : State} {d : Device} (hn : NoAsk (tellStationDown d.addr s)) (hc : d.cls ≠ .printer) :
    deviceLeftUp d s = tellStationDown d.addr s := by
  obtain ⟨hslot, hasks, hcomposer, -⟩ := hn
  simp only [deviceLeftUp, if_neg hc, slotDeviceDown_of_noAsk hslot, dropAsksFor_of_noAsk hasks hcomposer]

theorem tellStationDown_unbound {s : State} {a : Byte} (h : boundStation s a = none) : tellStationDown a s = s := by
  simp only [tellStationDown, h]

theorem tellStationDown_bound {s : State} {a : Byte} {st : St} (h : boundStation s a = some st) :
    tellStationDown a s = stationDeviceDown st s := by simp only [tellStationDown, h]

/-- A station at rest whose device leaves UP is OFFLINE (R63). -/
def Station.wentOffline (x : Station) : Station := { x with state := .offline, rollCheck := false, gap := none, waits := 0 }

theorem stationDeviceDown_rest {s : State} {st : St} (hpost : s.stations[st].pendingPost = none)
    (hstate : s.stations[st].state = .noRoll ∨ s.stations[st].state = .ready ∨ s.stations[st].state = .waitingFilm
      ∨ s.stations[st].state = .waitingLabels) :
    stationDeviceDown st s = detach (.station st) (dropAsk st (modStation st Station.wentOffline s)) := by
  unfold stationDeviceDown
  simp only [hpost, Option.isSome_none, Bool.false_eq_true, if_false]
  rcases hstate with h | h | h | h <;> simp only [h] <;> rfl

theorem stationDeviceDown_running {s : State} {st : St} {q : Request} {m : RollMap} {ph : Phase} (h : RunsFrame s st q m ph) :
    stationDeviceDown st s = suspendHeld st (suspendedPhase (some ph)) false s := by
  unfold stationDeviceDown
  simp only [h.2.2.1, Option.isSome_none, Bool.false_eq_true, if_false, h.1, h.2.1]

/-- The detachment of a requester whose transaction does not run changes nothing. -/
theorem detach_of_other {s : State} {r : Requester} (h : ∀ t, s.ring.engine = some t → t.requester ≠ r) : detach r s = s := by
  have hsame : (s.ring.engine.map fun t => if t.requester = r then { t with detached := true } else t) = s.ring.engine := by
    cases he : s.ring.engine with
    | none => rfl
    | some t => rw [Option.map_some, if_neg (h t he)]
  simp only [detach, hsame]

theorem dropAsk_of_none {s : State} {st : St} (h : s.ring.asks[st] = none) : dropAsk st s = s := by
  have hsame : s.ring.asks.set st.val none st.isLt = s.ring.asks := by
    rw [← h]; exact Vector.set_getElem_self _
  simp only [dropAsk, hsame]

theorem loseDevice_of_noAsk {s u : State} {i : Fin 16} {d : Device} (hd : s.devices[i] = some d)
    (hu : tellStationDown d.addr (modDevice i Device.toLost s) = u) (hn : NoAsk u) (hc : d.cls ≠ .printer) (kind : Byte) :
    loseDevice i kind s = offerFault ⟨.noReply, d.addr, kind, boundStation u d.addr, none, none, none⟩ u := by
  have hleft : deviceLeftUp d (modDevice i Device.toLost s) = u := by
    rw [deviceLeftUp_of_noAsk (by rw [hu]; exact hn) hc, hu]
  simp only [loseDevice, hd, hleft]

theorem boundStation_congr {s u : State} (h : u.bindings = s.bindings) (a : Byte) : boundStation u a = boundStation s a := by
  unfold boundStation
  rw [h]

theorem bothUp_of_bound_down {s : State} {st : St} {a : Byte} (hb : boundStation s a = some st) (hdown : isUp s a = false) :
    bothUp s st = false := by
  have hfound := List.find?_some hb
  rw [Bool.eq_false_iff, ne_eq, bothUp_iff]
  rintro ⟨-, hcamera, hlamp⟩
  split at hfound
  · next b hbind =>
    rw [cameraOf, hbind] at hcamera
    rw [lampOf, hbind] at hlamp
    simp only [Bool.or_eq_true, beq_iff_eq] at hfound
    rcases hfound with h | h
    · rw [← h] at hdown; exact absurd (hdown.symm.trans hcamera) Bool.false_ne_true
    · rw [← h] at hdown; exact absurd (hdown.symm.trans hlamp) Bool.false_ne_true
  · cases hfound

theorem endGrant_settled {s : State} (h : Settled s) : Settled (endGrant s) := settled_of_same h rfl rfl rfl (.refl _)

/-- The grant of a lost device ends with its fault captured, and nothing is left to be done (R146). -/
theorem finish_endGrant_captured {s : State} (hs : Settled s) (hn : NoAsk s) (x : FaultRecord) (p : ConsolePort) :
    finish (endGrant (captured x p s)) = endGrant (captured x p s) := by
  have hs' : Settled (captured x p s) := settled_of_same hs rfl rfl rfl (.refl _)
  have hn' : NoAsk (endGrant (captured x p s)) := hn.kept rfl hn.2.1 hn.2.2.1 (.refl _)
  exact finish_of_noAsk (endGrant_settled hs') hn'

theorem endGrant_captured_onlyChanges (x : FaultRecord) (p : ConsolePort) (s : State) :
    OnlyChanges [.ring, .capture, .eventQueue, .port] s (endGrant (captured x p s)) := by
  intro q hq
  cases q with
  | ring | capture | eventQueue | port => exact absurd (by decide) hq
  | _ => rfl

section
variable {s u : State} {t : Transaction} {d : Device} (hl : Live s) (hr : Runs s t) (hd : DeviceAt s t.entry d)
  (hp : t.purpose ≠ .wake) (hreq : t.requester ≠ .forward) (hge : 3 ≤ t.attempt) (hcls : d.cls ≠ .printer)
  (htold : tellStationDown d.addr (modDevice t.entry Device.toLost s) = u) (hs : Settled u) (hn : NoAsk u)
  (hc : u.capture.record = none) (hroom : Room u 1)
include hl hr hd hp hreq hge hcls htold hs hn hc hroom

/-- The third silent window (R146, R157): the station is told, the loss is captured, and the grant ends. -/
theorem exec_window_lost : ∃ p, exec .replyWindowExpired s = .next
    (endGrant (captured ⟨.noReply, d.addr, t.request.kind, boundStation u d.addr, none, none, none⟩ p u)) := by
  obtain ⟨p, hcap, -⟩ := offerFault_captured hc hroom
    ⟨.noReply, d.addr, t.request.kind, boundStation u d.addr, none, none, none⟩
  refine ⟨p, ?_⟩
  rw [exec_replyWindowExpired, live_of_live hl, windowCloses_last hr (by rw [attempts_of_other hp]; exact hge),
    silentEnd_lost hr hp hreq, loseDevice_of_noAsk hd.1 htold hn hcls, hcap, finish_endGrant_captured hs hn]

end

theorem lostDevice_less {s : State} {i : Fin 16} {d : Device} (hd : DeviceAt s i d) :
    DevicesLess s.devices (modDevice i Device.toLost s).devices := by
  rw [modDevice_set hd.1]
  exact devicesLess_set hd.1 (toLost_less d)

theorem isUp_lostDevice {s : State} {i : Fin 16} {d : Device} (hd : DeviceAt s i d) :
    isUp (modDevice i Device.toLost s) d.addr = false := by
  have hidx : deviceIdx (modDevice i Device.toLost s) d.addr = some i := (deviceIdx_less (lostDevice_less hd) _).trans hd.2
  have hdev : (modDevice i Device.toLost s).devices[i] = some d.toLost := by
    rw [modDevice_devices, upd_self, hd.1, Option.map_some]
  simp only [isUp, hidx, hdev, Device.toLost]
  rfl

/-- Settles O44. -/
theorem replyWindowCloses : Obligations.ReplyWindowCloses := by
  refine ⟨fun s t hl he h => ?_, fun s t d hl hr hd => ⟨fun hp hlt => ?_, fun hset hn => ⟨?_, ?_, ?_⟩⟩⟩
  · rw [exec_replyWindowExpired, live_of_live hl, windowCloses_of_sending he h]
  · have hexec : exec .replyWindowExpired s
        = .next { s with ring := { s.ring with engine := some { t with attempt := t.attempt + 1 } } } := by
      rw [exec_replyWindowExpired, live_of_live hl, windowCloses_again hr (by rw [attempts_of_other hp]; exact hlt)]
    exact ⟨hexec, fun hle => ⟨_, hexec, (rdir_iff _).mpr ⟨hl, _, rfl, Nat.lt_succ_of_le hle⟩⟩⟩
  · intro hreq hp hge hcls hc hroom
    have hp' : t.purpose ≠ .wake := by rw [hp]; decide
    have hreq' : t.requester ≠ .forward := by rw [hreq]; decide
    have hless := lostDevice_less hd
    have hnL : NoAsk (modDevice t.entry Device.toLost s) := hn.less rfl hn.2.1 hn.2.2.1 hless
    have honly := modDevice_onlyChanges t.entry Device.toLost s
    refine ⟨fun hunbound => ?_, fun st hbound hpost hstate => ?_⟩
    · have hsL : Settled (modDevice t.entry Device.toLost s) := settled_of_fewer hset rfl rfl fun st => bothUp_less rfl hless
      have htold : tellStationDown d.addr (modDevice t.entry Device.toLost s) = modDevice t.entry Device.toLost s :=
        tellStationDown_unbound hunbound
      obtain ⟨p, hexec⟩ := exec_window_lost hl hr hd hp' hreq' hge hcls htold hsL hnL hc hroom
      have hb : boundStation (modDevice t.entry Device.toLost s) d.addr = none := hunbound
      refine ⟨_, hexec, (honly.widen).andThen (endGrant_captured_onlyChanges _ _ _), rfl, ?_, ?_⟩
      · show (modDevice t.entry Device.toLost s).devices = _
        rw [modDevice_set hd.1]; rfl
      · rw [hb]; rfl
    · have hself := modStation_self st Station.wentOffline (modDevice t.entry Device.toLost s)
      have hsL : Settled (modStation st Station.wentOffline (modDevice t.entry Device.toLost s)) :=
        settled_of_less hset (othersSame_upd _ _ _) (othersSame_refl _ _) rfl hless
          (atRest_of_state (by rw [hself]; nofun) (by rw [hself]; nofun))
      have hnL' : NoAsk (modStation st Station.wentOffline (modDevice t.entry Device.toLost s)) :=
        hn.less rfl hn.2.1 hn.2.2.1 hless
      have htold : tellStationDown d.addr (modDevice t.entry Device.toLost s)
          = modStation st Station.wentOffline (modDevice t.entry Device.toLost s) := by
        rw [tellStationDown_bound (by exact hbound), stationDeviceDown_rest (by exact hpost) (by exact hstate),
          dropAsk_of_none (by exact hn.2.1 st), detach_of_other]
        intro t' ht'
        obtain rfl := Option.some.inj (hr.1.symm.trans ht')
        rw [hreq]; nofun
      obtain ⟨p, hexec⟩ := exec_window_lost hl hr hd hp' hreq' hge hcls htold hsL hnL' hc hroom
      have hb : boundStation (modStation st Station.wentOffline (modDevice t.entry Device.toLost s)) d.addr = some st := hbound
      refine ⟨_, hexec, ((honly.widen).andThen (modStation_onlyChanges st _ _)).andThen (endGrant_captured_onlyChanges _ _ _), rfl,
        othersSame_upd _ _ _, ?_, hself, ?_⟩
      · show (modDevice t.entry Device.toLost s).devices = _
        rw [modDevice_set hd.1]; rfl
      · rw [hb]; rfl
  · intro st q m ph sp hreq hp hge hcls hc hroom hbound hrun hmem
    have hsp : suspendedPhase (some ph) = sp := by
      simp only [List.mem_cons, Prod.mk.injEq, List.mem_nil_iff, or_false] at hmem
      rcases hmem with ⟨rfl, rfl⟩ | ⟨rfl, rfl⟩ | ⟨rfl, rfl⟩ | ⟨rfl, rfl⟩ | ⟨rfl, rfl⟩ <;> rfl
    have hless := lostDevice_less hd
    obtain ⟨v, hv, hsusp⟩ := suspendHeld_suspended (s := modDevice t.entry Device.toLost s) (st := st) (by exact hrun.2.2.2.1)
      hrun.2.2.2.2.2.1 sp false
    obtain ⟨u, hu⟩ : ∃ u, u = suspended st sp true false v (modDevice t.entry Device.toLost s) := ⟨_, rfl⟩
    have honly : OnlyChanges [.stations, .devices, .ring] s u := by
      rw [hu]
      exact ((modDevice_onlyChanges t.entry Device.toLost s).widen).andThen (suspended_onlyChanges _ _ _ _ _ _)
    have hself : u.stations[st] = s.stations[st].suspend sp true false := by rw [hu, suspended_station]; rfl
    have hlessU : DevicesLess s.devices u.devices := by rw [hu]; exact hless.kept hv
    have hdownU : isUp u d.addr = false := by
      rw [hu, isUp_kept (s := modDevice t.entry Device.toLost s) hv]; exact isUp_lostDevice hd
    have hboundU : boundStation u d.addr = some st := (boundStation_congr (honly .bindings (by decide)) _).trans hbound
    have hothers : OthersSame st s.stations u.stations := by rw [hu]; exact othersSame_upd _ _ _
    have hsU : Settled u := settled_of_less hset hothers (by rw [honly .rolls (by decide)]; exact othersSame_refl _ _)
      (honly .bindings (by decide)) hlessU (atRest_of_down (by rw [hself]; rfl) (bothUp_of_bound_down hboundU hdownU))
    have hnU : NoAsk u := by
      refine hn.less (honly .slot (by decide)) (fun st' => ?_) (by rw [hu]; exact hn.2.2.1) hlessU
      rw [hu]
      show (s.ring.asks.set st.val none st.isLt)[st'] = none
      rw [set_get]
      split
      · rfl
      · exact hn.2.1 st'
    have htold : tellStationDown d.addr (modDevice t.entry Device.toLost s) = u := by
      rw [tellStationDown_bound (by exact hbound), stationDeviceDown_running (hrun.congr (by rfl) (by rfl)), hsp, hsusp, hu]
    obtain ⟨p, hexec⟩ := exec_window_lost hl hr hd hp (by rw [hreq]; nofun) hge hcls htold hsU hnU
      (by rw [honly .capture (by decide)]; exact hc) (hroom.congr (honly .eventQueue (by decide)))
    refine ⟨_, hexec, (honly.widen).andThen (endGrant_captured_onlyChanges _ _ _), rfl, hothers, hdownU, ?_, ?_, ?_, ?_, ?_⟩
    · show u.stations[st].state = _
      rw [hself]; rfl
    · show u.stations[st].phase = _
      rw [hself]; rfl
    · show u.stations[st].susp = _
      rw [hself]; rfl
    · show headOf u st = _
      rw [hu]; exact headOf_suspended (by exact hrun.2.2.2.1) _ _ _
    · rw [hboundU]; rfl
  · intro wasLost hreq hp hge hlink
    have hset' : modDevice t.entry Device.failedWake s = { s with
        devices := s.devices.set t.entry.val (some { d with
          link := if wasLost then .lost else .absent, failedWakes := min (d.failedWakes + 1) 65535, wakeTimer := true }) t.entry.isLt } := by
      rw [modDevice_set hd.1, Device.failedWake, hlink]
      cases wasLost <;> rfl
    have hless : DevicesLess s.devices (modDevice t.entry Device.failedWake s).devices := by
      rw [modDevice_set hd.1]; exact devicesLess_set hd.1 (failedWake_less hlink)
    have hs' : Settled (modDevice t.entry Device.failedWake s) := settled_of_fewer hset rfl rfl fun st => bothUp_less rfl hless
    have hn' : NoAsk (endGrant (modDevice t.entry Device.failedWake s)) := hn.less rfl hn.2.1 hn.2.2.1 hless
    have hexec : exec .replyWindowExpired s = .next (endGrant (modDevice t.entry Device.failedWake s)) := by
      rw [exec_replyWindowExpired, live_of_live hl, windowCloses_last hr (by rw [attempts_of_wake hp]; exact hge),
        silentEnd_wake hr hp, finish_of_noAsk (endGrant_settled hs') hn']
    refine ⟨_, hexec, ((modDevice_onlyChanges _ _ s).widen).andThen (ring_onlyChanges _ _), rfl, ?_⟩
    show (modDevice t.entry Device.failedWake s).devices = _
    rw [hset']

end Sys2Proof.Machine
end

section
/-! PROOFS. STATION_CONTROL (4.4, 9.4, 9.5): ENABLE, DISABLE and UNLOAD with their refusals (R66, R67, R196). -/

namespace Sys2Proof.Machine

/-! ### A STATION_CONTROL given to its owner (4.4) -/

theorem exec_enable (s : State) : exec .enable s = live s (stationControl .enable checkEnable s) := rfl

theorem exec_disable (s : State) : exec .disable s = live s (stationControl .disable checkDisable s) := rfl

theorem exec_abort (s : State) : exec .abort s = live s (stationControl .abort checkAbort s) := rfl

theorem exec_unload (s : State) : exec .unload s = live s (stationControl .unload checkUnload s) := rfl

section
variable {s : State} {f : LinkFrame} {st : St} {c : SubCommand} {b : Byte} {owner : St → State → Except Result (State → State)}

theorem stationControl_of_hands (h : Hands s f 0x26 [u8 (st.val + 1), b]) (hb : SubCommand.ofCode b = some c) :
    stationControl c owner s = answered f (owner st s) s := by
  obtain ⟨-, hhand, hkind, hpayload⟩ := h
  have hin : inHand? s kindStationControl = some f := inHand?_of_inHandIs hhand hkind
  rw [stationControl, hin]
  simp only [hpayload, station?_u8, hb, if_true]

theorem stationControl_refused {code : Result} (h : Hands s f 0x26 [u8 (st.val + 1), b]) (hb : SubCommand.ofCode b = some c)
    (ho : owner st s = .error code) : Completes (live s (stationControl c owner s)) fun u => Refused s u f code :=
  completes_live h.1 (by rw [stationControl_of_hands h hb, ho]; exact answerHand_refused f code s)

theorem stationControl_done {change : State → State} {P : State → Prop} (h : Hands s f 0x26 [u8 (st.val + 1), b])
    (hb : SubCommand.ofCode b = some c) (ho : owner st s = .ok change) (hP : P (change (answerHand f .done [] s))) :
    Completes (live s (stationControl c owner s)) P :=
  completes_live h.1 (by rw [stationControl_of_hands h hb, ho]; exact hP)

theorem stationControl_badLength (hl : Live s) (hi : InHandIs s f .manage) (hk : f.kind = 0x26) (hp : f.payload.length ≠ 2) :
    Completes (live s (stationControl c owner s)) fun u => Refused s u f .badLength := by
  have hin : inHand? s kindStationControl = some f := inHand?_of_inHandIs hi hk
  have hcontrol : stationControl c owner s = answerHand f .badLength [] s := by
    rw [stationControl, hin]
    dsimp only
    split
    · next hpay => rw [hpay] at hp; exact absurd rfl hp
    · rfl
  exact completes_live hl (by rw [hcontrol]; exact answerHand_refused f _ s)

theorem ofCode_eq_none {b : Byte} (h : b.toNat = 0 ∨ 4 < b.toNat) : SubCommand.ofCode b = none := by
  unfold SubCommand.ofCode
  have hne {k : Byte} (hk : 1 ≤ k.toNat ∧ k.toNat ≤ 4) : b ≠ k := by rintro rfl; omega
  rw [if_neg (hne (by decide)), if_neg (hne (by decide)), if_neg (hne (by decide)), if_neg (hne (by decide))]

theorem stationControl_badField (hl : Live s) (hi : InHandIs s f .manage) (hk : f.kind = 0x26) {n b : Byte}
    (hp : f.payload = [n, b]) (h : n.toNat = 0 ∨ 4 < n.toNat ∨ b.toNat = 0 ∨ 4 < b.toNat) :
    Completes (live s (stationControl c owner s)) fun u => Refused s u f .badField := by
  have hin : inHand? s kindStationControl = some f := inHand?_of_inHandIs hi hk
  have hcontrol : stationControl c owner s = answerHand f .badField [] s := by
    rw [stationControl, hin]
    simp only [hp]
    split
    · next hn hc =>
      rcases h with h | h | h
      · rw [station?_eq_none (.inl (by omega))] at hn; cases hn
      · rw [station?_eq_none (.inr h)] at hn; cases hn
      · rw [ofCode_eq_none h] at hc; cases hc
    · rfl
  exact completes_live hl (by rw [hcontrol]; exact answerHand_refused f _ s)

end

/-! ### DISABLE (R67) -/

theorem setEnabled_onlyChanges (st : St) (b : Bool) (s : State) : OnlyChanges [.bindings] s (setEnabled st b s) := by
  intro p hp
  cases p with
  | bindings => exact absurd (List.mem_singleton_self _) hp
  | _ => rfl

theorem disableable_iff {s : State} {st : St} : disableable s st = true ↔
    (s.stations[st].state = .offline ∨ s.stations[st].state = .noRoll ∨ s.stations[st].state = .ready)
      ∧ s.stations[st].queue = [] ∧ s.stations[st].pendingPost = none ∧ openWaits s st = false ∧ closeUnderWay s st = false := by
  simp [disableable, and_assoc, or_assoc]

theorem openWaits_of_map {s : State} {st : St} {m : RollMap} (h : s.rolls[st].map = some m) : openWaits s st = m.opening := by
  rw [openWaits, h]; rfl

theorem closeUnderWay_of_map {s : State} {st : St} {m : RollMap} (h : s.rolls[st].map = some m) :
    closeUnderWay s st = m.closing.isSome := by rw [closeUnderWay, h]; rfl

theorem openWaits_of_none {s : State} {st : St} (h : s.rolls[st].map = none) : openWaits s st = false := by rw [openWaits, h]; rfl

theorem closeUnderWay_of_none {s : State} {st : St} (h : s.rolls[st].map = none) : closeUnderWay s st = false := by
  rw [closeUnderWay, h]; rfl

/-- A further change of parts that an answer leaves alone: both show (R170). -/
theorem done_then_changes {ps : List Part} (hps : ∀ p ∈ answerParts, p ∉ ps) {f : LinkFrame} {data : List Byte} {s t : State}
    (h : OnlyChanges ps (answerHand f .done data s) t) :
    OnlyChanges (answerParts ++ ps) s t ∧ Answered s t f .done data [] := by
  have unchanged : ∀ q ∈ answerParts, q.same (answerHand f .done data s) t := fun q hq => h q (hps q hq)
  exact ⟨(answerHand_onlyChanges f .done data s).append h,
    (answerHand_answered f .done data s).of_same (unchanged .port (by decide)) (unchanged .inHand (by decide))
      (unchanged .eventQueue (by decide))⟩

/-- The station's own entry after a DISABLE (R67). -/
def Station.disabled (x : Station) : Station :=
  { x with state := .disabled, pollTimer := false, rollCheck := false, gap := none, waits := 0 }

theorem disableStation_onlyChanges (st : St) (s : State) : OnlyChanges [.bindings, .stations, .ring] s (disableStation st s) :=
  ((((setEnabled_onlyChanges st false s).widen).andThen (modStation_onlyChanges st Station.disabled _)).andThen
    (ring_onlyChanges _ _)).andThen (ring_onlyChanges _ _)

/-- Settles O27. -/
theorem disableRule : Obligations.DisableRule := by
  intro s f st hands
  rw [exec_disable]
  refine ⟨fun hstate hq hpost hmap => ?_, fun h => ?_⟩
  · have hwaits : openWaits s st = false ∧ closeUnderWay s st = false := by
      cases hm : s.rolls[st].map with
      | none => exact ⟨openWaits_of_none hm, closeUnderWay_of_none hm⟩
      | some m =>
        obtain ⟨hopening, hclosing⟩ := hmap m hm
        exact ⟨(openWaits_of_map hm).trans hopening, (closeUnderWay_of_map hm).trans (by rw [hclosing]; rfl)⟩
    have hcheck : checkDisable st s = .ok (disableStation st) := if_pos (disableable_iff.mpr ⟨hstate, hq, hpost, hwaits⟩)
    refine stationControl_done hands rfl hcheck ?_
    obtain ⟨honly, hanswered⟩ := done_then_changes (by decide) (disableStation_onlyChanges st (answerHand f .done [] s))
    have hkept := answerHand_onlyChanges f .done [] s
    have hbindings : (answerHand f .done [] s).bindings = s.bindings := hkept .bindings (by decide)
    have hstations : (answerHand f .done [] s).stations = s.stations := hkept .stations (by decide)
    have hring : (answerHand f .done [] s).ring = s.ring := hkept .ring (by decide)
    have hself : (disableStation st (answerHand f .done [] s)).stations[st] = s.stations[st].disabled := by
      rw [← hstations]; exact upd_self _ _ _
    refine ⟨honly.widen, hanswered, ?_, ?_, by rw [hself]; rfl, by rw [hself]; rfl, by rw [hself]; rfl, set_self _ _ _, ?_⟩
    · rw [← hbindings]; rfl
    · rw [← hstations]; exact othersSame_upd _ _ _
    · rw [← hring]; exact othersSame_set _ _ _
  · have hcheck : checkDisable st s = .error .wrongState := by
      refine if_neg fun hd => ?_
      obtain ⟨hstate, hq, hpost, hopening, hclosing⟩ := disableable_iff.mp hd
      rcases h with ⟨h1, h2, h3⟩ | h | h | ⟨m, hm, h⟩
      · rcases hstate with e | e | e
        · exact h1 e
        · exact h2 e
        · exact h3 e
      · exact h hq
      · rw [hpost] at h; cases h
      · rw [openWaits_of_map hm] at hopening
        rw [closeUnderWay_of_map hm] at hclosing
        rcases h with h | h
        · rw [hopening] at h; cases h
        · rw [hclosing] at h; cases h
    exact stationControl_refused hands rfl hcheck

/-! ### ENABLE (R66) -/

theorem setEnabled_binding (st st' : St) (b : Bool) (s : State) :
    (setEnabled st b s).bindings[st'].binding = s.bindings[st'].binding := by
  show (upd s.bindings st _)[st'].binding = _
  rw [upd_get]
  split
  · next e => rw [e]
  · rfl

theorem setEnabled_bothUp (st st' : St) (b : Bool) (s : State) : bothUp (setEnabled st b s) st' = bothUp s st' :=
  bothUp_kept (setEnabled_binding st st' b s) (.refl _)

theorem setEnabled_settled {s : State} (h : Settled s) (st : St) (b : Bool) : Settled (setEnabled st b s) := fun st' =>
  atRest_congr (s := s) rfl rfl (setEnabled_bothUp st st' b s) (h st')

/-- With the engine busy, a change of one station's entry that leaves it at rest is finished where it stands. -/
theorem finish_modStation_busy {s : State} (hs : Settled s) (hb : EngineBusy s) {st : St} {f : Station → Station}
    (hrest : AtRest (modStation st f s) st) : finish (modStation st f s) = modStation st f s :=
  EndsAt.finish_busy (st := st) (s := s) ⟨othersSame_upd _ _ _, othersSame_refl _ _, rfl, .refl _, hrest⟩ hs hb

/-- A station in READY with its roll check pending (R63). -/
def Station.checked (x : Station) : Station := { x with state := .ready, rollCheck := true, gap := none, waits := 0 }

theorem Station.checked_atRest (st : St) (s : State) : AtRest (modStation st Station.checked s) st :=
  atRest_of_check (by rw [modStation_self]; nofun) (by rw [modStation_self]; rfl)

theorem enterChecked_standAsk {s : State} {st : St} {b : Binding} (h : BoundUp s st b) :
    enterChecked st s = standAsk st ⟨b.camera, 0x02, [], .rollCheck⟩ (modStation st Station.checked s) :=
  askCamera_standAsk (s := modStation st Station.checked s) (h.kept rfl (.refl _)) kindStatus .rollCheck

theorem enableStation_down {s : State} {st : St} (hs : Settled s) (hb : EngineBusy s) (hdown : bothUp s st = false) :
    enableStation st s = modStation st (fun x => { x with state := .offline }) (setEnabled st true s) := by
  rw [enableStation, setEnabled_bothUp, hdown, if_neg nofun]
  exact finish_modStation_busy (setEnabled_settled hs st true) hb
    (atRest_of_state (by rw [modStation_self]; nofun) (by rw [modStation_self]; nofun))

theorem enableStation_noRoll {s : State} {st : St} (hs : Settled s) (hb : EngineBusy s) (hup : bothUp s st = true)
    (hq : s.stations[st].queue = []) (hm : ∀ m, s.rolls[st].map = some m → m.opening = true) :
    enableStation st s = modStation st (fun x => { x with state := .noRoll }) (setEnabled st true s) := by
  have hhead : headOf (setEnabled st true s) st = none := headOf_of_empty hq
  have hstate : rollLessState (setEnabled st true s) st = .noRoll := by
    rw [rollLessState, setEnabled_bothUp, hup, hhead]; rfl
  have hidle : enterIdle st (setEnabled st true s) = modStation st (fun x => { x with state := .noRoll }) (setEnabled st true s) := by
    rw [enterIdle]
    split
    · rw [hstate]
    · next m hm' => rw [if_pos (hm m hm'), hstate]
  rw [enableStation, setEnabled_bothUp, if_pos hup, hidle]
  exact finish_modStation_busy (setEnabled_settled hs st true) hb
    (atRest_of_state (by rw [modStation_self]; nofun) (by rw [modStation_self]; nofun))

theorem enableStation_ready {s : State} {st : St} {b : Binding} (hs : Settled s) (hb : EngineBusy s) (hup : BoundUp s st b)
    {m : RollMap} (hm : s.rolls[st].map = some m) (ho : m.opening = false) :
    enableStation st s =
      standAsk st ⟨b.camera, 0x02, [], .rollCheck⟩ (modStation st Station.checked (setEnabled st true s)) := by
  have hup' : BoundUp (setEnabled st true s) st b := hup.kept (setEnabled_binding st st true s) (.refl _)
  have hidle : enterIdle st (setEnabled st true s) = enterChecked st (setEnabled st true s) := by
    have hm' : (setEnabled st true s).rolls[st].map = some m := hm
    simp only [enterIdle, hm', ho, Bool.false_eq_true, if_false]
  rw [enableStation, setEnabled_bothUp, if_pos hup.2, hidle, enterChecked_standAsk hup']
  exact EndsAt.finish_busy (st := st) (s := setEnabled st true s)
    ⟨othersSame_upd _ _ _, othersSame_refl _ _, rfl, .refl _, Station.checked_atRest st _⟩ (setEnabled_settled hs st true) hb

theorem classAt_of_deviceAt {s : State} {i : Fin 16} {d : Device} (h : DeviceAt s i d) {a : Byte} (ha : d.addr = a) :
    classAt s a = some d.cls := by
  obtain ⟨hd, hi⟩ := h
  subst ha
  simp only [classAt, hi, hd, Option.map_some]

theorem classAt_of_none {s : State} {a : Byte} (h : deviceIdx s a = none) : classAt s a = none := by rw [classAt, h]

theorem checkEnable_of_classes {s : State} {st : St} {b : Binding} {cc cl : DevClass} (hstate : s.stations[st].state = .disabled)
    (hb : s.bindings[st].binding = some b) (hc : classAt s b.camera = some cc) (hl : classAt s b.lamp = some cl) :
    checkEnable st s = if cc = .camera ∧ cl = .lamp then .ok (enableStation st) else .error .badField := by
  simp only [checkEnable, hstate, ne_eq, not_true_eq_false, if_false, hb, hc, hl]

theorem checkEnable_of_absent {s : State} {st : St} {b : Binding} (hstate : s.stations[st].state = .disabled)
    (hb : s.bindings[st].binding = some b) (h : deviceIdx s b.camera = none ∨ deviceIdx s b.lamp = none) :
    checkEnable st s = .error .noEntry := by
  simp only [checkEnable, hstate, ne_eq, not_true_eq_false, if_false, hb]
  rcases h with h | h
  · simp only [classAt_of_none h]
  · rw [classAt_of_none h]
    split
    · next hk => cases hk
    · rfl

theorem answerHand_settled {s : State} (h : Settled s) (f : LinkFrame) (code : Result) (data : List Byte) :
    Settled (answerHand f code data s) := by
  have hkept := answerHand_onlyChanges f code data s
  have hdevices : (answerHand f code data s).devices = s.devices := hkept .devices (by decide)
  exact settled_of_same h (hkept .stations (by decide)) (hkept .rolls (by decide)) (hkept .bindings (by decide))
    (by rw [hdevices]; exact .refl _)

theorem answerHand_boundUp {s : State} {st : St} {b : Binding} (h : BoundUp s st b) (f : LinkFrame) (code : Result)
    (data : List Byte) : BoundUp (answerHand f code data s) st b := by
  have hkept := answerHand_onlyChanges f code data s
  have hbindings : (answerHand f code data s).bindings = s.bindings := hkept .bindings (by decide)
  have hdevices : (answerHand f code data s).devices = s.devices := hkept .devices (by decide)
  exact h.kept (by rw [hbindings]) (by rw [hdevices]; exact .refl _)

/-- The refusals of ENABLE. -/
theorem enable_refused {s : State} {f : LinkFrame} {st : St} (hands : Hands s f 0x26 [u8 (st.val + 1), 0x01]) :
    (s.stations[st].state ≠ .disabled → Completes (exec .enable s) fun t => Refused s t f .wrongState)
    ∧ (s.stations[st].state = .disabled →
      (s.bindings[st].binding = none → Completes (exec .enable s) fun t => Refused s t f .noEntry)
      ∧ ∀ b, s.bindings[st].binding = some b →
        (deviceIdx s b.camera = none ∨ deviceIdx s b.lamp = none →
          Completes (exec .enable s) fun t => Refused s t f .noEntry)
        ∧ ∀ (i k : Fin 16) (dc dl : Device), DeviceAt s i dc → dc.addr = b.camera → DeviceAt s k dl → dl.addr = b.lamp →
          dc.cls ≠ .camera ∨ dl.cls ≠ .lamp → Completes (exec .enable s) fun t => Refused s t f .badField) := by
  have refuse {code : Result} (h : checkEnable st s = .error code) := stationControl_refused (owner := checkEnable) hands rfl h
  refine ⟨fun h => refuse (if_pos h), fun h => ⟨fun hb => refuse ?_, fun b hb => ⟨fun hnone => refuse ?_, ?_⟩⟩⟩
  · simp only [checkEnable, h, ne_eq, not_true_eq_false, if_false, hb]
  · exact checkEnable_of_absent h hb hnone
  · intro i k dc dl hdc hca hdl hla hcls
    refine refuse ?_
    rw [checkEnable_of_classes h hb (classAt_of_deviceAt hdc hca) (classAt_of_deviceAt hdl hla)]
    exact if_neg fun hc => hcls.elim (fun h => h hc.1) fun h => h hc.2

/-- Settles O26. -/
theorem enableAccepted : Obligations.EnableAccepted := by
  refine ⟨?_, fun s f st hands => enable_refused hands, ?_⟩
  · intro s f st b i k dc dl ⟨hl, hset, hbusy⟩ hands hstate hq hb hdc hca hcc hdl hla hlc
    rw [exec_enable]
    have hcheck : checkEnable st s = .ok (enableStation st) := by
      rw [checkEnable_of_classes hstate hb (classAt_of_deviceAt hdc hca) (classAt_of_deviceAt hdl hla)]
      exact if_pos ⟨hcc, hlc⟩
    refine stationControl_done hands rfl hcheck ?_
    have hkept := answerHand_onlyChanges f .done [] s
    have hset' := answerHand_settled hset f .done []
    have hbindings : (answerHand f .done [] s).bindings = s.bindings := hkept .bindings (by decide)
    have hstations : (answerHand f .done [] s).stations = s.stations := hkept .stations (by decide)
    have hrolls : (answerHand f .done [] s).rolls = s.rolls := hkept .rolls (by decide)
    have hdevices : (answerHand f .done [] s).devices = s.devices := hkept .devices (by decide)
    have hring : (answerHand f .done [] s).ring = s.ring := hkept .ring (by decide)
    have hbusy' : EngineBusy (answerHand f .done [] s) := hbusy.congr hring
    have hlinks : bothUp s st = (dc.link == .up && dl.link == .up) := by
      rw [bothUp, cameraOf, lampOf, hb]
      show (true && isUp s b.camera && isUp s b.lamp) = _
      rw [← hca, ← hla, isUp_of_deviceAt hdc, isUp_of_deviceAt hdl, Bool.true_and]
    have hup' : bothUp (answerHand f .done [] s) st = bothUp s st :=
      bothUp_kept (by rw [hbindings]) (by rw [hdevices]; exact .refl _)
    have hq' : (answerHand f .done [] s).stations[st].queue = [] := by rw [hstations]; exact hq
    have hflag : (setEnabled st true (answerHand f .done [] s)).bindings = s.bindings.set st.val ⟨some b, true⟩ st.isLt := by
      show (answerHand f .done [] s).bindings.set st.val ⟨(answerHand f .done [] s).bindings[st].binding, true⟩ st.isLt = _
      rw [hbindings, hb]
    have hcommon {t : State} (g : Station → Station) (ht : enableStation st (answerHand f .done [] s) = t)
        (honly : OnlyChanges [.bindings, .stations, .ring] (answerHand f .done [] s) t)
        (htb : t.bindings = (setEnabled st true (answerHand f .done [] s)).bindings)
        (hts : t.stations = upd (answerHand f .done [] s).stations st g) :
        OnlyChanges [.port, .inHand, .eventQueue, .bindings, .stations, .ring] s t ∧ Answered s t f .done [] []
          ∧ t.bindings = s.bindings.set st.val ⟨some b, true⟩ st.isLt ∧ OthersSame st s.stations t.stations
          ∧ t.stations[st] = g s.stations[st] := by
      obtain ⟨hall, hanswered⟩ := done_then_changes (by decide) honly
      refine ⟨hall.widen, hanswered, htb.trans hflag, ?_, ?_⟩
      · rw [hts, hstations]; exact othersSame_upd _ _ _
      · rw [hts, hstations]; exact upd_self _ _ _
    have hmod (g : Station → Station) : OnlyChanges [.bindings, .stations, .ring] (answerHand f .done [] s)
        (modStation st g (setEnabled st true (answerHand f .done [] s))) :=
      ((setEnabled_onlyChanges st true _).widen).andThen (modStation_onlyChanges st g _)
    by_cases hup : bothUp s st = true
    · have hnotdown : ¬ (dc.link ≠ .up ∨ dl.link ≠ .up) := by
        rw [hlinks, Bool.and_eq_true, beq_iff_eq, beq_iff_eq] at hup
        rintro (h | h)
        · exact h hup.1
        · exact h hup.2
      by_cases hopen : ∃ m, s.rolls[st].map = some m ∧ m.opening = false
      · obtain ⟨m, hm, ho⟩ := hopen
        have hbound := answerHand_boundUp ⟨hb, hup⟩ f .done []
        have hready := enableStation_ready hset' hbusy' hbound (by rw [hrolls]; exact hm) ho
        obtain ⟨hall, hanswered, htb, hothers, hself⟩ := hcommon Station.checked hready
          ((hmod Station.checked).andThen (ring_onlyChanges _ _)) rfl rfl
        rw [hready]
        refine ⟨hall, hanswered, htb, hothers, fun h => absurd h hnotdown, fun _ _ h => absurd (hm.symm.trans h) nofun,
          fun _ _ _ _ _ => ⟨by rw [hself]; rfl, by rw [hself]; rfl, standAsk_asks _ _ _, ?_⟩⟩
        rw [← hring]
        exact othersSame_set _ _ _
      · have hopening : ∀ m, (answerHand f .done [] s).rolls[st].map = some m → m.opening = true := by
          rw [hrolls]
          exact fun m hm => eq_true_of_ne_false fun h => hopen ⟨m, hm, h⟩
        have hnoRoll := enableStation_noRoll hset' hbusy' (hup'.trans hup) hq' hopening
        obtain ⟨hall, hanswered, htb, hothers, hself⟩ := hcommon (fun x => { x with state := .noRoll }) hnoRoll (hmod _) rfl rfl
        rw [hnoRoll]
        exact ⟨hall, hanswered, htb, hothers, fun h => absurd h hnotdown, fun _ _ _ => ⟨hself, hring⟩,
          fun _ _ m hm ho => absurd ⟨m, hm, ho⟩ hopen⟩
    · have hdown : bothUp s st = false := Bool.eq_false_iff.mpr hup
      have hoffline := enableStation_down hset' hbusy' (hup'.trans hdown)
      obtain ⟨hall, hanswered, htb, hothers, hself⟩ := hcommon (fun x => { x with state := .offline }) hoffline (hmod _) rfl rfl
      have hnotup : ¬ (dc.link = .up ∧ dl.link = .up) := by
        rintro ⟨h1, h2⟩
        rw [hlinks, h1, h2] at hdown
        cases hdown
      rw [hoffline]
      exact ⟨hall, hanswered, htb, hothers, fun _ => ⟨hself, hring⟩, fun h1 h2 => absurd ⟨h1, h2⟩ hnotup,
        fun h1 h2 => absurd ⟨h1, h2⟩ hnotup⟩
  · intro c hc s f hl hi hk
    simp only [List.mem_cons, List.mem_nil_iff, or_false] at hc
    rcases hc with rfl | rfl | rfl | rfl
    · exact ⟨stationControl_badLength hl hi hk, fun n b hp h => stationControl_badField hl hi hk hp h⟩
    · exact ⟨stationControl_badLength hl hi hk, fun n b hp h => stationControl_badField hl hi hk hp h⟩
    · exact ⟨stationControl_badLength hl hi hk, fun n b hp h => stationControl_badField hl hi hk hp h⟩
    · exact ⟨stationControl_badLength hl hi hk, fun n b hp h => stationControl_badField hl hi hk hp h⟩

/-! ### UNLOAD (R38, R196) -/

/-- A station that begins an unload (R38). -/
def Station.unloads (x : Station) : Station := { x.quiet with state := .unloading, susp := Suspension.clear }

theorem Station.unloads_atRest {s : State} {st : St} (h : s.stations[st].state = .unloading) : AtRest s st :=
  atRest_of_state (by rw [h]; nofun) (by rw [h]; nofun)

theorem startUnload_standAsk {s : State} {st : St} {b : Binding} (h : BoundUp s st b) : ∃ v, DevicesKept s.devices v ∧
    setBusyAt b.camera (modStation st Station.unloads s) = { modStation st Station.unloads s with devices := v } ∧
    startUnload st s = standAsk st ⟨b.camera, 0x06, [], .rewind⟩ { modStation st Station.unloads s with devices := v } := by
  obtain ⟨v, hv, he⟩ := setBusyAt_change b.camera (modStation st Station.unloads s)
  refine ⟨v, hv, he, ?_⟩
  have hup : BoundUp (setBusyAt b.camera (modStation st Station.unloads s)) st b := by
    rw [he]; exact h.kept rfl hv
  rw [← he, startUnload, h.camera]
  exact askCamera_standAsk hup kindRewind .rewind

theorem startUnload_onlyChanges (st : St) (s : State) : OnlyChanges [.stations, .devices, .ring] s (startUnload st s) := by
  obtain ⟨v, -, he⟩ := setBusyAt_change (cameraOf s st) (modStation st Station.unloads s)
  have hbusy : OnlyChanges [.devices] (modStation st Station.unloads s) (setBusyAt (cameraOf s st) (modStation st Station.unloads s)) := by
    rw [he]; exact devices_onlyChanges _ _
  exact (((modStation_onlyChanges st Station.unloads s).widen).andThen hbusy).andThen (placeAsk_onlyChanges st _ _ _ _ _)

theorem modHead_of_empty {s : State} {st : St} (h : s.stations[st].queue = []) (f : Request → Request) : modHead st f s = s := by
  have hsame : upd s.stations st (fun x => { x with queue := x.queue.modifyHead f }) = s.stations := by
    refine upd_same _ _ _ ?_
    rw [h, List.modifyHead_nil, ← h]
  rw [modHead, modStation, hsame]

theorem unloadable_iff {s : State} {st : St} : unloadable s st = true ↔ s.rolls[st].map.isSome = true
    ∧ closeUnderWay s st = false ∧ s.stations[st].pendingPost = none
    ∧ (s.stations[st].state = .ready ∧ s.stations[st].rollCheck = false ∨ s.stations[st].state = .waitingLabels
      ∨ s.stations[st].state = .suspended ∧ s.stations[st].susp.requestHeld = false ∧ s.stations[st].susp.step = .awaiting) := by
  simp [unloadable, and_assoc, or_assoc]

theorem not_unloadable {s : State} {st : St} (h : s.rolls[st].map = none ∨ s.stations[st].pendingPost.isSome = true
    ∨ (s.stations[st].state ≠ .ready ∧ s.stations[st].state ≠ .waitingLabels ∧ s.stations[st].state ≠ .suspended)
    ∨ (s.stations[st].state = .suspended ∧ s.stations[st].susp.requestHeld = true)
    ∨ (s.stations[st].state = .ready ∧ s.stations[st].rollCheck = true)) : unloadable s st = false := by
  refine Bool.eq_false_iff.mpr fun hu => ?_
  obtain ⟨hm, -, hpost, hstate⟩ := unloadable_iff.mp hu
  rcases h with h | h | ⟨h1, h2, h3⟩ | ⟨h1, h2⟩ | ⟨h1, h2⟩
  · rw [h] at hm; cases hm
  · rw [hpost] at h; cases h
  · exact hstate.elim (fun h => h1 h.1) fun h => h.elim h2 fun h => h3 h.1
  · rw [h1, h2] at hstate; simp at hstate
  · rw [h1, h2] at hstate; simp at hstate

/-- Settles O30. -/
theorem unloadRule : Obligations.UnloadRule := by
  intro s f st hands
  rw [exec_unload]
  refine ⟨?_, ?_, ?_⟩
  · intro m b ⟨hl, hset, hbusy⟩ hstate hcheck hq hpost hm hc hup
    have hclose : closeUnderWay s st = false := by rw [closeUnderWay_of_map hm, hc]; rfl
    have hok : checkUnload st s = .ok (unloadStation st) := by
      rw [checkUnload, if_pos (unloadable_iff.mpr ⟨by rw [hm]; rfl, hclose, hpost, .inl ⟨hstate, hcheck⟩⟩)]
      exact if_neg (by rw [hstate]; exact fun h => nomatch h.1)
    refine stationControl_done hands rfl hok ?_
    have hkept := answerHand_onlyChanges f .done [] s
    have hstations : (answerHand f .done [] s).stations = s.stations := hkept .stations (by decide)
    have hdevices : (answerHand f .done [] s).devices = s.devices := hkept .devices (by decide)
    have hring : (answerHand f .done [] s).ring = s.ring := hkept .ring (by decide)
    obtain ⟨u, hu⟩ : ∃ u, u = answerHand f .done [] s := ⟨_, rfl⟩
    have hset' : Settled u := hu ▸ answerHand_settled hset f .done []
    have hup' : BoundUp u st b := hu ▸ answerHand_boundUp hup f .done []
    have honly := startUnload_onlyChanges st u
    have hdone := done_then_changes (ps := [.stations, .devices, .ring]) (by decide) (hu ▸ honly)
    obtain ⟨v, hv, hsetBusy, hstart⟩ := startUnload_standAsk hup'
    have hself : (startUnload st u).stations[st] = s.stations[st].unloads := by
      rw [hstart, standAsk_stations, ← hstations, ← hu]; exact modStation_self st _ u
    have hfinish : unloadStation st u = startUnload st u := by
      rw [unloadStation, modHead_of_empty (by rw [hu, hstations]; exact hq)]
      rw [hstart]
      refine EndsAt.finish_busy (st := st) (s := u) ⟨othersSame_upd _ _ _, othersSame_refl _ _, rfl, hv, ?_⟩ hset' ?_
      · exact Station.unloads_atRest (by rw [← hstart, hself]; rfl)
      · have hb : EngineBusy u := hbusy.congr (by rw [hu, hring])
        exact hb
    rw [← hu, hfinish]
    rw [← hu] at hdone hdevices
    obtain ⟨hall, hanswered⟩ := hdone
    refine ⟨hall.widen, hanswered, ?_, by rw [hself]; rfl, by rw [hself]; rfl, by rw [hself]; rfl, ?_, ?_, ?_⟩
    · rw [hstart, ← hstations, ← hu]; exact othersSame_upd _ _ _
    · rw [hstart]; exact standAsk_asks _ _ _
    · rw [hstart, ← hring, ← hu]; exact othersSame_set _ _ _
    · intro i d hd hda hdi
      rw [hstart] at hd
      have hd' : (setBusyAt b.camera (modStation st Station.unloads u)).devices[i] = some d := by rw [hsetBusy]; exact hd
      have hidx : deviceIdx u b.camera = some i := by
        rw [← hda, deviceIdx_kept (s := s) (by rw [hdevices]; exact .refl _)]; exact hdi
      exact (setBusyAt_busy hd' (.inl hidx)).1
  · intro m hm hc hpost hstate hheld hstep hdown
    refine stationControl_refused (owner := checkUnload) hands rfl ?_
    have hclose : closeUnderWay s st = false := by rw [closeUnderWay_of_map hm, hc]; rfl
    have hload : unloadable s st = true :=
      unloadable_iff.mpr ⟨by rw [hm]; rfl, hclose, hpost, .inr (.inr ⟨hstate, hheld, hstep⟩)⟩
    rw [checkUnload, if_pos hload]
    exact if_pos ⟨hstate, hdown⟩
  · intro h
    refine stationControl_refused (owner := checkUnload) hands rfl ?_
    have hnot : unloadable s st = false := by
      refine not_unloadable ?_
      rcases h with h | h | h | h | h | h | h | h | h | h | h
      · exact .inl h
      · exact .inr (.inl h)
      iterate 7 exact .inr (.inr (.inl (by rw [h]; decide)))
      · exact .inr (.inr (.inr (.inl h)))
      · exact .inr (.inr (.inr (.inr h)))
    rw [checkUnload, hnot]
    exact if_neg nofun

end Sys2Proof.Machine
end

section
/-! PROOFS. The management requests that read the part or start it anew: FAULT_READ (R198), STATUS_READ (R174, R205) and RESTART
(R175, R176). -/

namespace Sys2Proof.Machine

/-! ### FAULT_READ -/

theorem exec_faultRead (s : State) : exec .faultRead s = live s (manageData kindFaultRead readFault s) := rfl

theorem emptyCapture_of_notice {s : State} (h : s.capture.notice ≠ .waiting) :
    emptyCapture s = { s with capture := ⟨none, false, .none⟩ } := if_neg h

theorem emptyCapture_of_empty {s : State} (h : s.capture = ⟨none, false, .none⟩) : emptyCapture s = s := by
  rw [emptyCapture_of_notice (by rw [h]; decide), ← h]

theorem emptyCapture_of_waiting {s : State} (h : s.capture.notice = .waiting) :
    emptyCapture s = withdrawWaiter .faultNotice { s with capture := ⟨none, false, .none⟩ } := if_pos h

theorem capture_onlyChanges (c : Capture) (s : State) : OnlyChanges [.capture] s { s with capture := c } := by
  intro p hp
  cases p with
  | capture => exact absurd (List.mem_singleton_self _) hp
  | _ => rfl

theorem faultData_posted (x : FaultRecord) (lost : Bool) :
    faultData ⟨some x, lost, .posted⟩ = (if lost then 0x03 else 0x01) :: faultBytes x := by cases lost <;> rfl

theorem faultData_waiting (x : FaultRecord) (lost : Bool) :
    faultData ⟨some x, lost, .waiting⟩ = (if lost then 0x07 else 0x05) :: faultBytes x := by cases lost <;> rfl

/-- No place becomes free, so no waiter is served (R178). -/
theorem servePlace_of_full {q : EventQueue} (h : freePlaces q = 0) : servePlace q = q := by
  unfold servePlace
  split
  · rw [if_neg (by omega)]
  · rfl

/-- Settles O32. -/
theorem faultReadRule : Obligations.FaultReadRule := by
  intro s f hl hi hk
  rw [exec_faultRead]
  refine ⟨fun h => manageData_refused hl hi hk (if_neg h), fun h => ?_⟩
  have hread : readFault f s = .ok (faultData s.capture, emptyCapture) := if_pos h
  have hkept (data : List Byte) : (answerHand f .done data s).capture = s.capture :=
    answerHand_onlyChanges f .done data s .capture (by decide)
  refine ⟨fun hc => manageData_done hl hi hk hread ?_, fun x lost => ⟨fun hc => manageData_done hl hi hk hread ?_, ?_⟩⟩
  · rw [emptyCapture_of_empty ((hkept _).trans hc), hc]
    exact answerHand_reported f _ s
  · rw [emptyCapture_of_notice (by rw [hkept, hc]; nofun)]
    obtain ⟨honly, hanswered⟩ := done_then_changes (by decide) (capture_onlyChanges ⟨none, false, .none⟩
      (answerHand f .done (faultData s.capture) s))
    rw [hc, faultData_posted] at hanswered honly ⊢
    exact ⟨honly, rfl, hanswered⟩
  · intro hc hgiven hfull hreserved
    refine manageData_done hl hi hk hread ?_
    rw [emptyCapture_of_waiting (by rw [hkept, hc]), hc, faultData_waiting]
    obtain ⟨p, hp, -⟩ := answerHand_eq f .done ((if lost then 0x07 else 0x05) :: faultBytes x) s
    rw [hp, withdrawWaiter, servePlace_of_full ?_]
    · refine ⟨?_, rfl, rfl, rfl, List.erase_of_not_mem hgiven⟩
      intro q hq
      cases q with
      | port | inHand | eventQueue | capture => exact absurd (by decide) hq
      | _ => rfl
    · simp only [freePlaces, List.length_append, List.length_singleton, List.erase_of_not_mem hgiven]
      show 16 - _ = 0
      omega

/-! ### STATUS_READ -/

section
variable {s : State} {f : LinkFrame} {k : Byte} {data : State → List Byte}

theorem statusRead_badLength (hl : Live s) (hi : InHandIs s f .manage) (hk : f.kind = 0x2B) (h : f.payload.length ≠ 1) :
    Completes (live s (statusRead k data s)) fun t => Refused s t f .badLength := by
  have hread : statusRead k data s = answerHand f .badLength [] s := by
    simp only [statusRead, inHand?_of_inHandIs (k := kindStatusRead) hi hk]
    split
    · next hp => rw [hp] at h; exact absurd rfl h
    · rfl
  exact completes_live hl (by rw [hread]; exact answerHand_refused f _ s)

theorem statusRead_badField (hl : Live s) (hi : InHandIs s f .manage) (hk : f.kind = 0x2B)
    (hsection : k = 0x01 ∨ k = 0x02 ∨ k = 0x03) {b : Byte} (hp : f.payload = [b]) (hb : b.toNat = 0 ∨ 3 < b.toNat) :
    Completes (live s (statusRead k data s)) fun t => Refused s t f .badField := by
  have hne {c : Byte} (hc : 1 ≤ c.toNat ∧ c.toNat ≤ 3) : b ≠ c := by rintro rfl; omega
  have h1 := hne (c := 0x01) (by decide)
  have h2 := hne (c := 0x02) (by decide)
  have h3 := hne (c := 0x03) (by decide)
  have hk' : b ≠ k := by rcases hsection with rfl | rfl | rfl <;> assumption
  have hread : statusRead k data s = answerHand f .badField [] s := by
    simp only [statusRead, inHand?_of_inHandIs (k := kindStatusRead) hi hk, hp, if_neg hk', h1, h2, h3, or_self, if_false]
  exact completes_live hl (by rw [hread]; exact answerHand_refused f _ s)

theorem statusRead_done (hl : Live s) (hi : InHandIs s f .manage) (hk : f.kind = 0x2B) (hp : f.payload = [k]) :
    Completes (live s (statusRead k data s)) fun t => Reported s t f (data s) := by
  have hread : statusRead k data s = answerHand f .done (data s) s := by
    simp only [statusRead, inHand?_of_inHandIs (k := kindStatusRead) hi hk, hp, if_true]
  exact completes_live hl (by rw [hread]; exact answerHand_reported f _ s)

end

/-- Blocks of one length, side by side: each is found at its place. -/
theorem take_drop_flatMap {α β : Type} {n : Nat} {f : α → List β} (hf : ∀ a, (f a).length = n) (l : List α) (k : Nat)
    (hk : k < l.length) : ((l.flatMap f).drop (n * k)).take n = f l[k] := by
  induction l generalizing k with
  | nil => exact absurd hk (Nat.not_lt_zero k)
  | cons a l ih =>
    rw [List.flatMap_cons]
    cases k with
    | zero => rw [Nat.mul_zero, List.drop_zero, ← hf a, List.take_left, List.getElem_cons_zero]
    | succ k =>
      have hdrop : (f a ++ l.flatMap f).drop (n * (k + 1)) = (l.flatMap f).drop (n * k) := by
        rw [Nat.mul_succ, Nat.add_comm, ← List.drop_drop, ← hf a, List.drop_left]
      rw [hdrop, List.getElem_cons_succ]
      exact ih k (Nat.lt_of_succ_lt_succ hk)

theorem deviceStatus_length (d : Option Device) : (deviceStatus d).length = 6 := by cases d <;> rfl

/-- The entries of a DEVICES section. -/
def sectionEntries (high : Bool) : List (Fin 16) := (List.finRange 16).filter fun i => decide (8 ≤ i.val) == high

theorem sectionEntries_length (high : Bool) : (sectionEntries high).length = 8 := by cases high <;> rfl

theorem sectionEntries_getElem {high : Bool} {i : Fin 16} (h : decide (8 ≤ i.val) = high) :
    (sectionEntries high)[i.val % 8]'(by rw [sectionEntries_length]; omega) = i := by
  subst h
  revert i
  decide

theorem devicesData_length (high : Bool) (s : State) :
    ((sectionEntries high).flatMap fun i => deviceStatus s.devices[i]).length = 48 := by
  rw [List.length_flatMap]
  have hlengths : (sectionEntries high).map (fun i => (deviceStatus s.devices[i]).length) = (sectionEntries high).map fun _ => 6 :=
    List.map_congr_left fun i _ => deviceStatus_length _
  rw [hlengths]
  cases high <;> rfl

theorem devicesData_entry {high : Bool} {i : Fin 16} (h : decide (8 ≤ i.val) = high) (s : State) :
    ((((sectionEntries high).flatMap fun i => deviceStatus s.devices[i]).drop (6 * (i.val % 8))).take 6)
      = deviceStatus s.devices[i] := by
  rw [take_drop_flatMap (fun j => deviceStatus_length s.devices[(j : Fin 16)]) _ _ (by rw [sectionEntries_length]; omega),
    sectionEntries_getElem h]

/-- A DEVICES section's row (R205). -/
theorem devicesSection {s : State} {f : LinkFrame} {k : Byte} {high : Bool} (hl : Live s) (hi : InHandIs s f .manage)
    (hk : f.kind = 0x2B) (hp : f.payload = [k]) : ∃ data : List Byte,
      (Completes (live s (statusRead k (devicesData k high) s)) fun t => Reported s t f (k :: data)) ∧ data.length = 48
      ∧ ∀ i : Fin 16, decide (8 ≤ i.val) = high → (data.drop (6 * (i.val % 8))).take 6 = deviceStatus s.devices[i] :=
  ⟨_, statusRead_done hl hi hk hp, devicesData_length high s, fun _ h => devicesData_entry h s⟩

theorem standData_stations (s : State) (st : St) : ((standData s).tail.drop (6 * st.val)).take 6 = stationStatus s st := by
  match st with
  | 0 => rfl
  | 1 => rfl
  | 2 => rfl
  | 3 => rfl

/-- Settles O34. -/
theorem statusReads : Obligations.StatusReads := by
  intro c k hc s f hl hi hk
  simp only [List.mem_cons, Prod.mk.injEq, List.mem_nil_iff, or_false] at hc
  rcases hc with ⟨rfl, rfl⟩ | ⟨rfl, rfl⟩ | ⟨rfl, rfl⟩
  · refine ⟨statusRead_badLength hl hi hk, fun b => statusRead_badField hl hi hk (by decide), fun hp => ?_⟩
    refine ⟨(standData s).tail, statusRead_done hl hi hk hp, rfl, fun _ => ⟨fun st => standData_stations s st, rfl⟩, ?_⟩
    rintro i (⟨h, -⟩ | ⟨h, -⟩) <;> exact absurd h (by decide)
  · refine ⟨statusRead_badLength hl hi hk, fun b => statusRead_badField hl hi hk (by decide), fun hp => ?_⟩
    obtain ⟨data, hdone, hlength, hentries⟩ := devicesSection (high := false) hl hi hk hp
    refine ⟨data, hdone, hlength, fun h => absurd h (by decide), fun i h => ?_⟩
    have hlow : i.val < 8 := h.elim (fun h => h.2) fun h => absurd h.1 (by decide)
    rw [hentries i (decide_eq_false (by omega))]
    cases s.devices[i] <;> rfl
  · refine ⟨statusRead_badLength hl hi hk, fun b => statusRead_badField hl hi hk (by decide), fun hp => ?_⟩
    obtain ⟨data, hdone, hlength, hentries⟩ := devicesSection (high := true) hl hi hk hp
    refine ⟨data, hdone, hlength, fun h => absurd h (by decide), fun i h => ?_⟩
    have hhigh : 8 ≤ i.val := h.elim (fun h => absurd h.1 (by decide)) fun h => h.2
    rw [hentries i (decide_eq_true hhigh)]
    cases s.devices[i] <;> rfl

/-! ### RESTART -/

/-- Records that a RESTART left go before the pending BUSY, which waits (R176). -/
theorem startTransmit_records {s : State} (hr : s.eq.records ≠ []) (hb : s.port.beforeBusy ≠ 0) : ∃ p,
    startTransmit s = { s with port := p } ∧ p.rx = s.port.rx ∧ p.pool = s.port.pool ∧ p.beforeBusy = s.port.beforeBusy
      ∧ p.busy = s.port.busy ∧ p.sending.isSome = true ∧ ∀ x, s.port.sending = some x → p.sending = some x := by
  have hhead : ((s.eq.records.head?).map fun r => (⟨r.frame (ownAddress s.pins), true⟩ : Sending)).isSome = true := by
    rw [Option.isSome_map, List.isSome_head?]; simpa using hr
  cases hs : s.port.sending with
  | some x =>
    have hsame : startTransmit s = s := by simp only [startTransmit, hs]
    exact ⟨s.port, hsame, rfl, rfl, rfl, rfl, by rw [hs]; rfl, fun y hy => hs.trans hy⟩
  | none =>
    refine ⟨{ s.port with sending := (s.eq.records.head?).map fun r => ⟨r.frame (ownAddress s.pins), true⟩ }, ?_, rfl, rfl, rfl,
      rfl, hhead, fun x h => nomatch h⟩
    unfold startTransmit
    rw [hs]
    dsimp only
    split
    · rw [if_neg (not_or.mpr ⟨hb, hr⟩)]
    · rfl

theorem restartRecords_ne_nil (s : State) (tag : Byte) : restartRecords s tag ≠ [] :=
  List.append_ne_nil_of_right_ne_nil _ (List.cons_ne_nil _ _)

theorem restarted_state (x : Station) : x.restarted.state.wantsAttention = false := by
  show StationState.wantsAttention (if x.state = .disabled then .disabled else .offline) = false
  split <;> rfl

theorem map_get {α β : Type} {n : Nat} (v : Vector α n) (f : α → β) (i : Fin n) : (v.map f)[i] = f v[i] := by
  simp only [Fin.getElem_fin, Vector.getElem_map]

theorem restartHand_badLength {s : State} {f : LinkFrame} (hi : InHandIs s f .manage) (hk : f.kind = 0x2C) (hp : f.payload ≠ []) :
    restartHand s = answerHand f .badLength [] s := by
  simp only [restartHand, inHand?_of_inHandIs (k := kindRestart) hi hk, if_neg hp]

/-- Settles O35. -/
theorem restartState : Obligations.RestartState := by
  intro s f hl hbusy hi hk
  rw [exec_restart]
  refine ⟨fun hp => completes_live hl ?_, fun hp => completes_live hl ?_⟩
  · rw [restartHand_badLength hi hk hp]
    exact answerHand_refused f _ s
  · rw [restartHand_of_empty hi hk hp]
    obtain ⟨p, he, hrx, hpool, hbefore, hpbusy, hsome, hsending⟩ := startTransmit_records (s := restartBlocks f.tag s)
      (restartRecords_ne_nil s f.tag) (Nat.pos_iff_ne_zero.mp (List.length_pos_iff.mpr (restartRecords_ne_nil s f.tag)))
    have hattn : attn (startTransmit (restartBlocks f.tag s)) = false := by
      rw [attn_startTransmit]
      refine attn_eq_false (fun st => ?_) rfl rfl
      show ((s.stations.map Station.restarted)[st]).state.wantsAttention = false
      rw [map_get]
      exact restarted_state _
    have hengine : EngineBusy (startTransmit (restartBlocks f.tag s)) := by
      rw [he]
      show (s.ring.engine.map _).isSome = true
      rw [Option.isSome_map]
      exact hbusy
    rw [arbitrate_of_busy hengine]
    rw [he] at hattn ⊢
    refine ⟨?_, fun i => ?_, fun st => ⟨map_get s.rolls _ st, map_get s.stations _ st⟩, fun j => map_get s.accounts _ j, rfl,
      fun i => map_get s.devices _ i, fun st => ?_, rfl, rfl, rfl, rfl, fun x hx => ?_, rfl, rfl, rfl, rfl, rfl, hpool, hrx, hsome,
      hattn, hpbusy, hbefore, fun x hx => hsending _ ?_⟩
    · intro q hq
      cases q with
      | pins | stocks | plans | bindings | windows | tariffs | pending => rfl
      | _ => exact absurd (by decide) hq
    · show (Vector.replicate 16 none)[i] = none
      simp
    · show (Vector.replicate 4 none)[st] = none
      simp
    · have hx' : s.ring.engine.map (fun t => { t with void := true }) = some x := hx
      obtain ⟨t, -, rfl⟩ := Option.map_eq_some_iff.mp hx'
      rfl
    · show s.port.sending.map _ = _
      rw [hx]; rfl

end Sys2Proof.Machine
end

section
/-! PROOFS. Orders and the admission of exposures: ORDER_OPEN (R5 to R7), ORDER_CLOSE and ORDER_CANCEL (R9 to R14, R195), EXPOSE
(R15 to R17). -/

namespace Sys2Proof.Machine

/-! ### A frame given to its owner's checks (R170) -/

theorem exec_orderOpen (s : State) :
    exec .orderOpen s = live s (manage kindOrderOpen (fun f s => checkOpen f.payload s) s) := rfl

section
variable {s : State} {f : LinkFrame} {kind : Byte} {owner : LinkFrame → State → Except Result (State → State)}

theorem manage_refused {code : Result} (hl : Live s) (hi : InHandIs s f .manage) (hk : f.kind = kind)
    (ho : owner f s = .error code) : Completes (live s (manage kind owner s)) fun u => Refused s u f code :=
  completes_live hl (by
    rw [manage, inHand?_of_inHandIs hi hk]
    dsimp only
    rw [ho]
    exact answerHand_refused f code s)

theorem manage_done {change : State → State} {P : State → Prop} (hl : Live s) (hi : InHandIs s f .manage) (hk : f.kind = kind)
    (ho : owner f s = .ok change) (hP : P (change (answerHand f .done [] s))) : Completes (live s (manage kind owner s)) P :=
  completes_live hl (by
    rw [manage, inHand?_of_inHandIs hi hk]
    dsimp only
    rw [ho]
    exact hP)

end

/-! ### Lookups (R1, R90, R94) -/

theorem find?_finRange {n : Nat} {p : Fin n → Bool} {i : Fin n} (hi : p i = true) (hbefore : ∀ k, k < i → p k = false) :
    (List.finRange n).find? p = some i := by
  refine List.find?_eq_some_iff_getElem.mpr ⟨hi, i.val, by simp, by simp, fun j hj => ?_⟩
  have hk := hbefore ⟨j, Nat.lt_trans hj i.isLt⟩ hj
  simpa using hk

theorem orderIdx_eq_none {s : State} {n : Nat} (h : ∀ k o, s.orders[(k : Fin 16)] = some o → o.terms.number ≠ n) :
    orderIdx s n = none := by
  rw [orderIdx, List.find?_eq_none]
  intro k _
  split
  · next o ho => simpa using h k o ho
  · exact Bool.false_ne_true

theorem orderIdx_isSome {s : State} {n : Nat} {k : Fin 16} {o : Order} (ho : s.orders[k] = some o) (hn : o.terms.number = n) :
    (orderIdx s n).isSome = true := by
  rw [orderIdx, List.find?_isSome]
  refine ⟨k, List.mem_finRange k, ?_⟩
  rw [ho]
  exact beq_iff_eq.mpr hn

theorem freeEntry_of_lowest {s : State} {i : Fin 16} (hi : s.orders[i] = none) (hbefore : ∀ k : Fin 16, k < i → s.orders[k] ≠ none) :
    freeEntry s = some i :=
  find?_finRange (by rw [hi]; rfl) fun k hk => Option.isNone_eq_false_iff.mpr (Option.isSome_iff_ne_none.mpr (hbefore k hk))

theorem freeEntry_of_full {s : State} (h : ∀ k : Fin 16, s.orders[k] ≠ none) : freeEntry s = none :=
  List.find?_eq_none.mpr fun k _ => by simpa using h k

theorem freeEntry_exists {s : State} {i : Fin 16} (hi : s.orders[i] = none) : ∃ k, freeEntry s = some k :=
  Option.isSome_iff_exists.mp (List.find?_isSome.mpr ⟨i, List.mem_finRange i, by rw [hi]; rfl⟩)

theorem accountOf_of_at {s : State} {j : Fin 32} {a : Account} (h : AccountAt s j a) {n : Nat} (hn : a.number = n) :
    accountOf s n = some a := by
  rw [accountOf, accountIdx_of_at h hn]
  exact h.1

theorem accountOf_eq_none {s : State} {n : Nat} (h : ∀ j a, s.accounts[(j : Fin 32)] = some a → a.number ≠ n) :
    accountOf s n = none := by rw [accountOf, accountIdx_eq_none h]

theorem matchesAccount_iff {w : Window} {n : Nat} :
    w.matchesAccount n = true ↔ w.enabled = true ∧ BitVec.ofNat 24 n &&& w.mask = w.base := by
  simp [Window.matchesAccount]

theorem findSome?_finRange {n : Nat} {α : Type} {p : Fin n → Option α} {i : Fin n} {a : α} (hi : p i = some a)
    (hbefore : ∀ k, k < i → p k = none) : (List.finRange n).findSome? p = some a := by
  refine List.findSome?_eq_some_iff.mpr ⟨(List.finRange n).take i.val, i, (List.finRange n).drop (i.val + 1), ?_, hi, fun k hk => ?_⟩
  · have hcons := List.drop_eq_getElem_cons (l := List.finRange n) (i := i.val) (by simp)
    rw [List.getElem_finRange, Fin.cast_mk, Fin.eta] at hcons
    rw [← hcons, List.take_append_drop]
  · obtain ⟨j, hj, rfl⟩ := List.mem_take_iff_getElem.mp hk
    have hlt : j < i.val := (Nat.lt_min.mp hj).1
    rw [List.getElem_finRange]
    exact hbefore _ hlt

theorem windowClass_of_first {s : State} {w : Fin 8} {win : Window} {n : Nat} (hw : s.windows[w] = some win)
    (hmatch : win.matchesAccount n = true) (hbefore : ∀ k x, k < w → s.windows[(k : Fin 8)] = some x → x.matchesAccount n = false) :
    windowClass s n = some win.cls := by
  refine findSome?_finRange (i := w) ?_ fun k hk => ?_
  · rw [hw]
    exact if_pos hmatch
  · split
    · next x hx => exact if_neg (by rw [hbefore k x hk hx]; exact Bool.false_ne_true)
    · rfl

/-! ### ORDER_OPEN (R5 to R7) -/

theorem openAccount_of_at {s : State} {j : Fin 32} {a : Account} (h : AccountAt s j a) {n : Nat} (hn : a.number = n) (x : Nat) :
    openAccount n x s = modAccount j (fun a => { a with held := a.held + x, openOrders := a.openOrders + 1 }) s := by
  rw [openAccount, accountIdx_of_at h hn]

theorem setOrders_onlyChanges (v : Vector (Option Order) 16) (s : State) : OnlyChanges [.orders] s { s with orders := v } := by
  intro p hp
  cases p with
  | orders => exact absurd (List.mem_singleton_self _) hp
  | _ => rfl

section
variable {s : State} {t : OrderTerms} (ht : TermsLegal t)
include ht

theorem checkOpen_inUse (h : (orderIdx s t.number).isSome = true) : checkOpen (openPayload t) s = .error .inUse := by
  simp only [checkOpen, parseOpen_openPayload ht, terms_openFields ht, h, if_true]

variable (hidx : orderIdx s t.number = none)
include hidx

theorem checkOpen_tableFull (h : freeEntry s = none) : checkOpen (openPayload t) s = .error .tableFull := by
  simp only [checkOpen, parseOpen_openPayload ht, terms_openFields ht, hidx, Option.isSome_none, Bool.false_eq_true, if_false, h]

variable {i : Fin 16} (hfree : freeEntry s = some i)
include hfree

theorem checkOpen_noEntry (h : s.plans[t.plan] = none) : checkOpen (openPayload t) s = .error .noEntry := by
  simp only [checkOpen, parseOpen_openPayload ht, terms_openFields ht, hidx, Option.isSome_none, Bool.false_eq_true, if_false, hfree,
    if_pos h]

variable (hplan : s.plans[t.plan] ≠ none)
include hplan

theorem checkOpen_noAccount (h : accountOf s t.account = none) : checkOpen (openPayload t) s = .error .noAccount := by
  simp only [checkOpen, parseOpen_openPayload ht, terms_openFields ht, hidx, Option.isSome_none, Bool.false_eq_true, if_false, hfree,
    if_neg hplan, h]

variable {a : Account} (ha : accountOf s t.account = some a)
include ha

theorem checkOpen_noTariff (h : tariffClass s t.account = none) : checkOpen (openPayload t) s = .error .noTariff := by
  simp only [checkOpen, parseOpen_openPayload ht, terms_openFields ht, hidx, Option.isSome_none, Bool.false_eq_true, if_false, hfree,
    if_neg hplan, ha, h]

theorem checkOpen_budget {c : Fin 8} {p : Tariff} (h : tariffClass s t.account = some (c, p)) :
    checkOpen (openPayload t) s =
      if fits a p.setupFee then .ok (placeOrder i (Order.opened t c p.setupFee)) else .error .budget := by
  simp only [checkOpen, parseOpen_openPayload ht, terms_openFields ht, hidx, Option.isSome_none, Bool.false_eq_true, if_false, hfree,
    if_neg hplan, ha, h]

end

theorem fits_of_legal {a : Account} {x : Nat} (h : ∀ c, a.ceiling = some c → c ≤ 4294967294 ∧ a.spent + a.held + x ≤ c) :
    fits a x = true := by
  cases hc : a.ceiling with
  | none => rw [fits, hc]
  | some c =>
    obtain ⟨hlegal, hle⟩ := h c hc
    exact (fits_of_ceiling x hc hlegal).mpr hle

/-- Settles O16. -/
theorem orderOpenAccepted : Obligations.OrderOpenAccepted := by
  intro s f terms i j a steps w win p ⟨hl, hi, hk, hp⟩ ht hnew hfree hbefore hplan ha hnumber hw hon hmatch hfirst htariff hceiling
  rw [exec_orderOpen]
  have hclass : tariffClass s terms.account = some (win.cls, p) := by
    have hwindow := windowClass_of_first (n := terms.account) hw (matchesAccount_iff.mpr ⟨hon, hmatch⟩) fun k x hk hx =>
      Bool.eq_false_iff.mpr fun h => hfirst k x hk hx (matchesAccount_iff.mp h).1 (matchesAccount_iff.mp h).2
    rw [tariffClass, hwindow]
    show (s.tariffs[win.cls]).map _ = _
    rw [htariff]; rfl
  have hok : checkOpen f.payload s = .ok (placeOrder i (Order.opened terms win.cls p.setupFee)) := by
    rw [hp, checkOpen_budget ht (orderIdx_eq_none hnew) (freeEntry_of_lowest hfree hbefore) (by rw [hplan]; nofun)
      (accountOf_of_at ha hnumber) hclass, if_pos (fits_of_legal hceiling)]
  refine manage_done (owner := fun f s => checkOpen f.payload s) hl hi hk hok ?_
  have hkept := answerHand_onlyChanges f .done [] s
  have haccounts : (answerHand f .done [] s).accounts = s.accounts := hkept .accounts (by decide)
  have horders : (answerHand f .done [] s).orders = s.orders := hkept .orders (by decide)
  have hat : AccountAt (answerHand f .done [] s) j a := by
    unfold AccountAt accountIdx at ha ⊢
    rw [haccounts]; exact ha
  rw [placeOrder, show (Order.opened terms win.cls p.setupFee).terms.account = terms.account from rfl, openAccount_of_at hat hnumber]
  obtain ⟨honly, hanswered⟩ := done_then_changes (ps := [.orders, .accounts]) (by decide)
    (((modAccount_onlyChanges j (fun a => { a with held := a.held + p.setupFee, openOrders := a.openOrders + 1 })
      (answerHand f .done [] s)).widen).andThen (setOrders_onlyChanges
        ((answerHand f .done [] s).orders.set i.val (some (Order.opened terms win.cls p.setupFee)) i.isLt) _))
  refine ⟨honly, hanswered, ?_, ?_⟩
  · rw [← haccounts]
    exact modAccount_accounts_of_present (by rw [haccounts]; exact ha.1) _
  · rw [← horders]; rfl

/-! ### The refusals of ORDER_OPEN (R5 to R7) -/

theorem takeText_eq_some {p t r : List Byte} (h : takeText p = some (t, r)) :
    t.length ≤ 255 ∧ p = u8 t.length :: t ++ r := by
  cases p with
  | nil => cases h
  | cons n rest =>
    rw [takeText] at h
    split at h
    · next hle =>
      obtain ⟨rfl, rfl⟩ := Prod.mk.inj (Option.some.inj h)
      have hlen : (rest.take n.toNat).length = n.toNat := List.length_take_of_le hle
      refine ⟨by rw [hlen]; exact Nat.le_of_lt_succ n.isLt, ?_⟩
      rw [hlen, List.cons_append, List.take_append_drop, u8, BitVec.ofNat_toNat, BitVec.setWidth_eq]
    · cases h

/-- An ORDER_OPEN whose payload is laid out as 10.4 says: twelve bytes and two text fields. -/
def LaidOut (p : List Byte) : Prop := ∃ head course title : List Byte, head.length = 12 ∧ course.length ≤ 255 ∧ title.length ≤ 255
  ∧ p = head ++ (u8 course.length :: course) ++ (u8 title.length :: title)

theorem parseOpen_eq_none {p : List Byte} (h : ¬ LaidOut p) : parseOpen p = none := by
  unfold parseOpen
  split
  · next o1 o2 a1 a2 a3 plan tmpl st copies tr tg tb texts =>
    split
    · rfl
    · next course rest hcourse =>
      split
      · rfl
      · next title htitle =>
        obtain ⟨hc, rfl⟩ := takeText_eq_some hcourse
        obtain ⟨ht, rfl⟩ := takeText_eq_some htitle
        refine absurd ⟨[o1, o2, a1, a2, a3, plan, tmpl, st, copies, tr, tg, tb], course, title, rfl, hc, ht, ?_⟩ h
        simp
      · rfl
  · rfl

theorem parseOpen_laidOut (o1 o2 a1 a2 a3 plan tmpl st copies tr tg tb : Byte) {course title : List Byte}
    (hc : course.length ≤ 255) (ht : title.length ≤ 255) :
    parseOpen ([o1, o2, a1, a2, a3, plan, tmpl, st, copies, tr, tg, tb] ++ (u8 course.length :: course)
        ++ (u8 title.length :: title)) =
      some ⟨rd16 o1 o2, rd24 a1 a2 a3, plan.toNat, tmpl.toNat, st.toNat, copies.toNat, ⟨rdS8 tr, rdS8 tg, rdS8 tb⟩, course, title⟩ := by
  have hlast := takeText_textField ht []
  rw [List.append_nil] at hlast
  have hfirst := takeText_textField hc (textField title)
  rw [textField, textField] at hfirst
  rw [textField] at hlast
  simp only [List.cons_append, List.nil_append] at hfirst ⊢
  simp only [parseOpen, hfirst, hlast]

theorem trimOk_iff {z : Int} : trimOk z = true ↔ -24 ≤ z ∧ z ≤ 24 := by simp [trimOk]

/-- Settles O17. -/
theorem orderOpenRefusals : Obligations.OrderOpenRefusals := by
  refine ⟨fun s f hl hi hk => ?_, fun s f terms ⟨hl, hi, hk, hp⟩ ht => ?_⟩
  · have refuse {code : Result} (h : checkOpen f.payload s = .error code) :
        Completes (exec .orderOpen s) fun t => Refused s t f code :=
      manage_refused (owner := fun f s => checkOpen f.payload s) hl hi hk h
    refine ⟨fun hbad => refuse ?_, ?_⟩
    · rw [checkOpen, parseOpen_eq_none hbad]
    · intro o1 o2 a1 a2 a3 plan template station copies tr tg tb course title hc ht hp hbad
      refine refuse ?_
      rw [checkOpen, hp, parseOpen_laidOut _ _ _ _ _ _ _ _ _ _ _ _ hc ht]
      have hterms : OpenFields.terms ⟨rd16 o1 o2, rd24 a1 a2 a3, plan.toNat, template.toNat, station.toNat, copies.toNat,
          ⟨rdS8 tr, rdS8 tg, rdS8 tb⟩, course, title⟩ = none := by
        refine dif_neg ?_
        rintro ⟨horder, haccount, hplan, htemplate, hstation, hcopies, htrim, hcourse⟩
        rw [Bool.and_eq_true, Bool.and_eq_true, trimOk_iff, trimOk_iff, trimOk_iff] at htrim
        obtain ⟨⟨⟨htr, htr'⟩, htg, htg'⟩, htb, htb'⟩ := htrim
        simp only [rdS8] at htr htr' htg htg' htb htb'
        dsimp only at hplan htemplate hstation hcopies
        rcases hbad with ⟨rfl, rfl⟩ | ⟨rfl, rfl, rfl⟩ | h | h | h | h | h | h | ⟨x, hx, h⟩ | h
        · exact horder rfl
        · exact haccount rfl
        · exact absurd hplan (by omega)
        · exact absurd htemplate (by omega)
        · exact absurd hstation.1 (by omega)
        · exact absurd hstation.2 (by omega)
        · exact absurd hcopies.1 (by omega)
        · exact absurd hcopies.2 (by omega)
        · simp only [List.mem_cons, List.mem_nil_iff, or_false] at hx
          rcases hx with rfl | rfl | rfl <;> omega
        · exact hcourse h
      simp only [hterms]
  · have refuse {code : Result} (h : checkOpen (openPayload terms) s = .error code) :
        Completes (exec .orderOpen s) fun t => Refused s t f code :=
      manage_refused (owner := fun f s => checkOpen f.payload s) hl hi hk (by rw [hp]; exact h)
    refine ⟨fun ⟨k, o, ho, hn⟩ => refuse (checkOpen_inUse ht (orderIdx_isSome ho hn)), fun hnew => ?_⟩
    have hidx := orderIdx_eq_none hnew
    refine ⟨fun hfull => refuse (checkOpen_tableFull ht hidx (freeEntry_of_full hfull)), fun i hi => ?_⟩
    obtain ⟨k, hfree⟩ := freeEntry_exists hi
    refine ⟨fun h => refuse (checkOpen_noEntry ht hidx hfree h), fun hplan => ?_⟩
    refine ⟨fun h => refuse (checkOpen_noAccount ht hidx hfree hplan (accountOf_eq_none h)), fun j a hat hn => ?_⟩
    have ha := accountOf_of_at hat hn
    refine ⟨fun h => refuse (checkOpen_noTariff ht hidx hfree hplan ha h), fun c p ceiling hclass hceiling hlegal hover => refuse ?_⟩
    rw [checkOpen_budget ht hidx hfree hplan ha hclass]
    exact if_neg fun h => absurd ((fits_of_ceiling _ hceiling hlegal).mp h) (Nat.not_le.mpr hover)

/-! ### EXPOSE (R15 to R17) -/

theorem exec_expose (s : State) : exec .expose s = live s (exposeHand s) := rfl

theorem exposeHand_of_hand {s : State} {f : LinkFrame} (hi : InHandIs s f .intercept) :
    exposeHand s = answered f (checkExpose f s) s := by
  have hi' : s.inHand = some ⟨f, .intercept⟩ := hi
  simp only [exposeHand, hi']

theorem expose_refused {s : State} {f : LinkFrame} {code : Result} (hl : Live s) (hi : InHandIs s f .intercept)
    (hc : checkExpose f s = .error code) : Completes (exec .expose s) fun t => Refused s t f code := by
  rw [exec_expose]
  exact completes_live hl (by rw [exposeHand_of_hand hi, hc]; exact answerHand_refused f code s)

theorem parseExpose_eq_none {p : List Byte} (h : p.length ≠ 10) : parseExpose p = none := by
  unfold parseExpose
  split
  · exact absurd rfl h
  · rfl

theorem parseExpose_of_length {n n' p p' : Byte} {indices : List Byte} (h : indices.length = 6) : ∃ x,
    parseExpose ([n, n', p, p'] ++ indices) = some x ∧ x.order = n.toNat * 256 + n'.toNat ∧ x.original = p.toNat * 256 + p'.toNat := by
  match indices, h with
  | [_, _, _, _, _, _], _ => exact ⟨_, rfl, rfl, rfl⟩

theorem exposeStation_of_enabled {s : State} {a : Byte} {st : St} (h : cameraStation s a = some st)
    (he : s.bindings[st].enabled = true) : exposeStation s a = some st := by
  simp only [exposeStation, h, he, if_true]

theorem exposeStation_eq_none {s : State} {a : Byte}
    (h : ∀ st : St, cameraStation s a = some st → s.bindings[st].enabled = false) : exposeStation s a = none := by
  unfold exposeStation
  split
  · next st hst => rw [h st hst]; rfl
  · rfl

section
variable {s : State} {f : LinkFrame} {x : ExposeFields} (hx : parseExpose f.payload = some x)
include hx

theorem checkExpose_badField (h : x.order = 0 ∨ x.original = 0 ∨ 9999 < x.original) : checkExpose f s = .error .badField := by
  simp only [checkExpose, hx, if_pos h]

variable (hfields : ¬ (x.order = 0 ∨ x.original = 0 ∨ 9999 < x.original))
include hfields

theorem checkExpose_noStation (h : exposeStation s f.dst = none) : checkExpose f s = .error .wrongStation := by
  simp only [checkExpose, hx, if_neg hfields, h]

variable {st : St} (hst : exposeStation s f.dst = some st)
include hst

theorem checkExpose_noEntry (h : orderIdx s x.order = none) : checkExpose f s = .error .noEntry := by
  simp only [checkExpose, hx, if_neg hfields, hst, h]

variable {i : Fin 16} {o : Order} (ho : OrderAt s i o) (hn : o.terms.number = x.order)
include ho hn

theorem checkExpose_of_order : checkExpose f s =
    if o.closing then .error .wrongState
    else if o.terms.station ≠ st then .error .wrongStation
    else if s.stations[st].state = .disabled then .error .wrongStation
    else if Config.stationQueue ≤ s.stations[st].queue.length then .error .queueFull
    else .ok (admitRequest st i (x.request f.tag)) := by
  simp only [checkExpose, hx, if_neg hfields, hst, orderIdx_of_at ho hn, ho.1]

end

/-- A request that joins a queue tries nothing: the station is not READY, or another request is its head (R69). -/
theorem atRest_of_joined {s t : State} {st : St} (q : Request) (hst : t.stations[st] =
      { s.stations[st] with queue := s.stations[st].queue ++ [q] }) (hr : t.rolls[st].map = s.rolls[st].map)
    (hb : bothUp t st = bothUp s st) (hq : s.stations[st].state ≠ .ready ∨ s.stations[st].queue ≠ []) (h : AtRest s st) :
    AtRest t st := by
  have hclose : closeUnderWay t st = closeUnderWay s st := by unfold closeUnderWay; rw [hr]
  rw [atRest_iff] at h ⊢
  rw [hst, hr, hb, hclose]
  obtain ⟨hresume, htry⟩ := h
  refine ⟨hresume, fun hready hcheck hpost hmap hc => ?_⟩
  rcases hq with hq | hq
  · exact absurd hready hq
  · exact absurd (htry hready hcheck hpost hmap hc) hq

theorem admitRequest_eq {s : State} {st : St} (hs : Settled s) (hb : EngineBusy s)
    (hq : s.stations[st].state ≠ .ready ∨ s.stations[st].queue ≠ []) (i : Fin 16) (q : Request) :
    admitRequest st i q s = modOrder i (fun o => { o with outstanding := o.outstanding + 1 })
      (modStation st (fun x => { x with queue := x.queue ++ [q] }) s) := by
  refine finish_of_busy (settled_of_others (st := st) hs (othersSame_upd _ _ _) (othersSame_refl _ _) rfl (.refl _) ?_) hb
  exact atRest_of_joined q (modStation_self st _ s) rfl rfl hq (hs st)

theorem admitIndex_eq (z : Int) : admitIndex z = max (-144) (min 144 z) := by
  unfold admitIndex clampInt
  split
  · omega
  · split <;> omega

/-- Settles O15. -/
theorem exposeAdmissionRule : Obligations.ExposeAdmissionRule := by
  refine ⟨?_, fun s f hl hi => ⟨fun h => expose_refused hl hi ?_, ?_⟩⟩
  · intro s f n p r1 r2 g1 g2 b1 b2 n' p' st i o ⟨hl, hset, hbusy⟩ hi hp hn h0 hp1 hp2 hcam hen ho hc hterm hdis hlen hq
    have hx : parseExpose f.payload = some ⟨rd16 n n', rd16 p p', ⟨rdS16 r1 r2, rdS16 g1 g2, rdS16 b1 b2⟩⟩ := by rw [hp]; rfl
    have hfields : ¬ (rd16 n n' = 0 ∨ rd16 p p' = 0 ∨ 9999 < rd16 p p') := by
      unfold rd16; omega
    have hok := checkExpose_of_order (x := ⟨rd16 n n', rd16 p p', ⟨rdS16 r1 r2, rdS16 g1 g2, rdS16 b1 b2⟩⟩) hx hfields
      (exposeStation_of_enabled hcam hen) ho hn.symm
    rw [if_neg (by rw [hc]; nofun), if_neg (not_not_intro hterm), if_neg hdis, if_neg (show ¬ Config.stationQueue ≤ _ from Nat.not_le.mpr hlen)] at hok
    rw [exec_expose]
    refine completes_live hl ?_
    rw [exposeHand_of_hand hi, hok]
    have hkept := answerHand_onlyChanges f .done [] s
    have hstations : (answerHand f .done [] s).stations = s.stations := hkept .stations (by decide)
    have horders : (answerHand f .done [] s).orders = s.orders := hkept .orders (by decide)
    have hring : (answerHand f .done [] s).ring = s.ring := hkept .ring (by decide)
    show _ ∧ _
    rw [answered, admitRequest_eq (answerHand_settled hset f .done []) (hbusy.congr hring) (by rw [hstations]; exact hq)]
    obtain ⟨honly, hanswered⟩ := done_then_changes (ps := [.stations, .orders]) (by decide)
      (((modStation_onlyChanges st (fun x => { x with queue := x.queue ++ [ExposeFields.request
        ⟨rd16 n n', rd16 p p', ⟨rdS16 r1 r2, rdS16 g1 g2, rdS16 b1 b2⟩⟩ f.tag] }) (answerHand f .done [] s)).widen).andThen
        (modOrder_onlyChanges i (fun o => { o with outstanding := o.outstanding + 1 }) _))
    refine ⟨honly, hanswered, ?_, ?_, ExposeFields.request ⟨rd16 n n', rd16 p p', ⟨rdS16 r1 r2, rdS16 g1 g2, rdS16 b1 b2⟩⟩ f.tag, ?_,
      hn, rfl, rfl, rfl, rfl, rfl, rfl, rfl, rfl, ?_, rfl⟩
    · rw [modOrder_orders, modStation_orders, horders, upd, ho.1]; rfl
    · rw [modOrder_stations, ← hstations]; exact othersSame_upd _ _ _
    · rw [modOrder_stations, ← hstations]; exact modStation_self st _ _
    · show Rgb.mk (admitIndex _) (admitIndex _) (admitIndex _) = _
      simp only [admitIndex_eq, rdS16]
  · rw [checkExpose, parseExpose_eq_none h]
  · intro n n' p p' indices hp hlen
    obtain ⟨x, hx, horder, horiginal⟩ := parseExpose_of_length (n := n) (n' := n') (p := p) (p' := p') hlen
    rw [← hp] at hx
    rw [← horder, ← horiginal]
    refine ⟨fun h => expose_refused hl hi (checkExpose_badField hx h), fun h1 h2 h3 => ?_⟩
    have hfields : ¬ (x.order = 0 ∨ x.original = 0 ∨ 9999 < x.original) := by omega
    refine ⟨fun h => expose_refused hl hi (checkExpose_noStation hx hfields (exposeStation_eq_none h)), fun st hcam hen => ?_⟩
    have hst := exposeStation_of_enabled hcam hen
    refine ⟨fun h => expose_refused hl hi (checkExpose_noEntry hx hfields hst h), fun i o ho hn => ?_⟩
    have hcheck := checkExpose_of_order hx hfields hst ho hn
    refine ⟨fun hc => expose_refused hl hi ?_, fun hc => ⟨fun h => expose_refused hl hi ?_, fun hterm hdis hfull =>
      expose_refused hl hi ?_⟩⟩
    · rw [hcheck, if_pos hc]
    · rw [hcheck, if_neg (by rw [hc]; nofun)]
      rcases h with h | h
      · exact if_pos h
      · rw [if_pos h, ite_self]
    · rw [hcheck, if_neg (by rw [hc]; nofun), if_neg (not_not_intro hterm), if_neg hdis]
      exact if_pos hfull

/-! ### An event behind the answer (R177) -/

theorem Transmits.trans {s t u : State} (h : Transmits s t) (k : Transmits t u) : Transmits s u := by
  obtain ⟨hrx, hpool, hbefore, hsome, hsame⟩ := h
  obtain ⟨krx, kpool, kbefore, ksome, ksame⟩ := k
  exact ⟨krx.trans hrx, kpool.trans hpool, kbefore.trans hbefore, ksome, fun hs => (ksame hsome).trans (hsame hs)⟩

/-- An event that is posted once the frame is answered stands behind the answer. -/
theorem Answered.post {s u v : State} {f : LinkFrame} {code : Result} {data : List Byte} {events : List Record}
    (h : Answered s u f code data events) (hport : v.port = u.port) (hhand : v.inHand = u.inHand) (heq : v.eq = u.eq) (r : Record) :
    Answered s (joinTail r v) f code data (events ++ [r]) := by
  obtain ⟨hnone, htransmits, hqueue⟩ := h.of_same hport hhand heq
  obtain ⟨p, hp, hsends⟩ := joinTail_eq r v
  rw [hp]
  refine ⟨hnone, htransmits.trans hsends, ?_⟩
  show ({ v.eq with records := v.eq.records ++ [r] } : EventQueue) = _
  rw [hqueue, List.append_assoc]
  rfl

/-- The answer takes the place that was reserved for it, so the room for further records is the same (R177). -/
theorem answerHand_room {s : State} {n : Nat} (h : Room s n) (hr : 1 ≤ s.eq.reserved) (f : LinkFrame) (code : Result)
    (data : List Byte) : Room (answerHand f code data s) n := by
  obtain ⟨p, hp, -⟩ := answerHand_eq f code data s
  obtain ⟨hgiven, hplaces⟩ := h
  rw [hp]
  refine ⟨hgiven, ?_⟩
  show (s.eq.records ++ _).length + (s.eq.reserved - 1) + n ≤ _
  rw [List.length_append, List.length_singleton]
  omega

theorem answerHand_full {s : State} (h : s.eq.records.length + s.eq.reserved + s.eq.given.length = 16) (hr : 1 ≤ s.eq.reserved)
    (f : LinkFrame) (code : Result) (data : List Byte) : freePlaces (answerHand f code data s).eq = 0 := by
  obtain ⟨p, hp, -⟩ := answerHand_eq f code data s
  rw [hp]
  simp only [freePlaces, List.length_append, List.length_singleton]
  show 16 - _ = 0
  omega

theorem addWaiter_of_full {s : State} (h : freePlaces s.eq = 0) (w : Waiter) :
    addWaiter w s = { s with eq := { s.eq with waiters := s.eq.waiters ++ [w] } } := if_neg (by omega)

/-! ### The FREE transition (R4, R13, R106) -/

/-- An entry of the Order Table set. -/
def setOrder (i : Fin 16) (o : Order) (s : State) : State := { s with orders := s.orders.set i.val (some o) i.isLt }

theorem setOrder_order (i : Fin 16) (o : Order) (s : State) : (setOrder i o s).orders[i] = some o := set_self _ _ _

theorem modOrder_eq_setOrder {s : State} {i : Fin 16} {o : Order} (h : s.orders[i] = some o) (f : Order → Order) :
    modOrder i f s = setOrder i (f o) s := by rw [modOrder, upd, h]; rfl

theorem setOrder_self {s : State} {i : Fin 16} {o : Order} (h : s.orders[i] = some o) : setOrder i o s = s := by
  have hsame : s.orders.set i.val (some o) i.isLt = s.orders := by
    rw [← h]
    exact Vector.set_getElem_self _
  rw [setOrder, hsame]

theorem setOrder_setOrder (i : Fin 16) (o p : Order) (s : State) : setOrder i p (setOrder i o s) = setOrder i p s := by
  simp only [setOrder, Vector.set_set]

theorem OrderAt.set {s : State} {i : Fin 16} {o p : Order} (h : OrderAt s i o) (hp : p.terms = o.terms) : OrderAt (setOrder i p s) i p := by
  refine ⟨setOrder_order i p s, ?_⟩
  obtain ⟨ho, hidx⟩ := h
  rw [hp, ← hidx]
  unfold orderIdx
  congr 1
  funext k
  by_cases hk : k = i
  · subst hk
    rw [setOrder_order, ho]
    dsimp only
    rw [hp]
  · rw [show (setOrder i p s).orders[k] = s.orders[k] from set_ne _ _ _ _ hk]

theorem tryFree_of_not_freeable {s : State} {i : Fin 16} {o : Order} (ho : s.orders[i] = some o) (h : o.freeable = false) :
    tryFree i s = s := by
  simp only [tryFree, ho, h, Bool.false_eq_true, if_false]

theorem tryFree_of_freeable {s : State} {i : Fin 16} {o : Order} (ho : s.orders[i] = some o) (h : o.freeable = true) :
    tryFree i s = freeTransition i s := by
  simp only [tryFree, ho, h, if_true]

theorem tryFree_of_free {s : State} {i : Fin 16} (h : s.orders[i] = none) : tryFree i s = s := by
  simp only [tryFree, h]

/-- The account of an order that becomes FREE (R106). -/
def Account.settled (setup : Nat) (charged : Bool) (a : Account) : Account :=
  { a with held := a.held - setup, spent := if charged then satAdd a.spent setup else a.spent, openOrders := a.openOrders - 1 }

theorem settleAccount_of_at {s : State} {j : Fin 32} {a : Account} (h : AccountAt s j a) {n : Nat} (hn : a.number = n) (x : Nat)
    (charged : Bool) : settleAccount n x charged s = modAccount j (Account.settled x charged) s := by
  rw [settleAccount, accountIdx_of_at h hn]
  rfl

/-- The state of an order that has become FREE, before its summary joins the queue (R13). -/
def orderFreed (i : Fin 16) (j : Fin 32) (o : Order) (s : State) : State :=
  freeOrder i (modAccount j (Account.settled o.setupAmount (decide (0 < o.exposed))) s)

/-- The summary of an order that becomes FREE (R14). -/
def Order.summaryRecord (o : Order) : Record := .event o.settle.summaryTag o.settle.summaryEvent

section
variable {s : State} {i : Fin 16} {o : Order} {j : Fin 32} {a : Account} (ho : s.orders[i] = some o) (ha : AccountAt s j a)
  (hj : a.number = o.terms.account)
include ho ha hj

theorem freeTransition_posts (hr : Room s 1) : freeTransition i s = joinTail o.summaryRecord (orderFreed i j o s) := by
  have hpost : canPost (modAccount j (Account.settled o.setupAmount (decide (0 < o.exposed))) s).eq = true := canPost_of_room hr
  simp only [freeTransition, ho, settleAccount_of_at ha hj, hpost, if_true]
  rfl

theorem freeTransition_waits (hf : freePlaces s.eq = 0) : freeTransition i s =
    { setOrder i o.settle (modAccount j (Account.settled o.setupAmount (decide (0 < o.exposed))) s) with
      eq := { s.eq with waiters := s.eq.waiters ++ [.orderSummary i] } } := by
  have hpost : canPost (modAccount j (Account.settled o.setupAmount (decide (0 < o.exposed))) s).eq = false := not_canPost_of_full hf
  simp only [freeTransition, ho, settleAccount_of_at ha hj, hpost, Bool.false_eq_true, if_false]
  rw [modOrder_eq_setOrder (s := modAccount j _ s) ho, addWaiter_of_full (by exact hf)]
  rfl

end

theorem orderFreed_onlyChanges (i : Fin 16) (j : Fin 32) (o : Order) (s : State) :
    OnlyChanges [.orders, .accounts] s (orderFreed i j o s) :=
  ((modAccount_onlyChanges j _ s).widen).andThen (setOrders_onlyChanges _ _)

theorem setOrder_onlyChanges (i : Fin 16) (o : Order) (s : State) : OnlyChanges [.orders] s (setOrder i o s) := setOrders_onlyChanges _ s

/-- What the setting of an order's entry leaves alone (R94). -/
theorem AccountAt.congr {s t : State} {j : Fin 32} {a : Account} (h : AccountAt s j a) (hs : t.accounts = s.accounts) : AccountAt t j a := by
  unfold AccountAt accountIdx at h ⊢
  rw [hs]; exact h

theorem OrderAt.congr {s t : State} {i : Fin 16} {o : Order} (h : OrderAt s i o) (hs : t.orders = s.orders) : OrderAt t i o := by
  unfold OrderAt orderIdx at h ⊢
  rw [hs]; exact h

/-! ### ORDER_CLOSE and ORDER_CANCEL name an order (R9, R10) -/

theorem parseOrderNumber_eq_none {p : List Byte} (h : p.length ≠ 2) : parseOrderNumber p = none := by
  unfold parseOrderNumber
  split
  · exact absurd rfl h
  · rfl

theorem parseOrderNumber_be16 {n : Nat} (h : n ≤ 65535) : parseOrderNumber (be16 n) = some n := congrArg some (rd16_u8 h)

theorem namedOrder_badLength {p : List Byte} (h : p.length ≠ 2) (s : State) : namedOrder p s = .error .badLength := by
  rw [namedOrder, parseOrderNumber_eq_none h]

theorem namedOrder_badField (s : State) : namedOrder [0, 0] s = .error .badField := by
  simp only [namedOrder, parseOrderNumber, if_pos (show rd16 0 0 = 0 from rfl)]

section
variable {s : State} {n : Nat} (h1 : 1 ≤ n) (hn : n ≤ 65535)
include h1 hn

theorem namedOrder_noEntry (h : orderIdx s n = none) : namedOrder (be16 n) s = .error .noEntry := by
  simp only [namedOrder, parseOrderNumber_be16 hn, if_neg (Nat.ne_of_gt h1), h]

theorem namedOrder_of_at {i : Fin 16} {o : Order} (h : OrderAt s i o) (ho : o.terms.number = n) :
    namedOrder (be16 n) s = .ok (i, o) := by
  simp only [namedOrder, parseOrderNumber_be16 hn, if_neg (Nat.ne_of_gt h1), orderIdx_of_at h ho, h.1]

end

theorem checkClose_error {s : State} {f : LinkFrame} {code : Result} (h : namedOrder f.payload s = .error code) :
    checkClose f s = .error code := by rw [checkClose, h]

theorem checkCancel_error {s : State} {f : LinkFrame} {code : Result} (h : namedOrder f.payload s = .error code) :
    checkCancel f s = .error code := by rw [checkCancel, h]

/-- The refusals that ORDER_CLOSE and ORDER_CANCEL share. -/
theorem orderNamed_refused {s : State} {f : LinkFrame} {c : Instr} {kind : Byte} {code : Result}
    (hc : c = .orderClose ∧ kind = 0x24 ∨ c = .orderCancel ∧ kind = 0x25) (hl : Live s) (hi : InHandIs s f .manage)
    (hk : f.kind = kind) (h : namedOrder f.payload s = .error code) : Completes (exec c s) fun t => Refused s t f code := by
  rcases hc with ⟨rfl, rfl⟩ | ⟨rfl, rfl⟩
  · exact manage_refused (owner := checkClose) hl hi hk (checkClose_error h)
  · exact manage_refused (owner := checkCancel) hl hi hk (checkCancel_error h)

theorem freeable_iff {o : Order} : o.freeable = true ↔ o.closing = true ∧ o.outstanding = 0 ∧ o.summaryPending = false := by
  simp [Order.freeable, and_assoc]

theorem close_settle_event (o : Order) (tag : Byte) : (o.close tag).summaryRecord =
    .event tag (.orderSummary o.terms.number o.terms.account o.cls o.cancelling o.reserved o.exposed o.spoiled
      (decide (1 ≤ o.exposed)) o.setupAmount
      (if 1 ≤ o.exposed then min (o.charged + o.setupAmount) 4294967295 else o.charged)) := rfl

/-- An order's entry is FREE and its account settled (R13, R106). -/
theorem orderFreed_orders (i : Fin 16) (j : Fin 32) (o p : Order) (s : State) :
    (orderFreed i j o (setOrder i p s)).orders = s.orders.set i.val none i.isLt := by
  show (s.orders.set i.val (some p) i.isLt).set i.val none i.isLt = _
  rw [Vector.set_set]

theorem orderFreed_accounts {s : State} {j : Fin 32} {a : Account} (ha : s.accounts[j] = some a) (i : Fin 16) (o : Order) :
    (orderFreed i j o s).accounts = s.accounts.set j.val (some (a.settled o.setupAmount (decide (0 < o.exposed)))) j.isLt :=
  modAccount_accounts_of_present ha _

theorem settled_of_exposed (a : Account) (x n : Nat) : a.settled x (decide (0 < n)) = { a with
    held := a.held - x, openOrders := a.openOrders - 1
    spent := if 1 ≤ n then min (a.spent + x) 4294967295 else a.spent } := by
  unfold Account.settled satAdd top32
  simp only [decide_eq_true_eq]
  rfl

section
variable {s : State} {f : LinkFrame} {i : Fin 16} {o : Order}

theorem orderClose_done {P : State → Prop} (hands : Hands s f 0x24 (be16 o.terms.number)) (ho : OrderAt s i o)
    (h1 : 1 ≤ o.terms.number) (hn : o.terms.number ≤ 65535) (hc : o.closing = false)
    (hP : P (tryFree i (setOrder i (o.close f.tag) (answerHand f .done [] s)))) : Completes (exec .orderClose s) P := by
  obtain ⟨hl, hi, hk, hp⟩ := hands
  have hcheck : checkClose f s = .ok fun s => tryFree i (modOrder i (Order.close f.tag) s) := by
    rw [checkClose, hp, namedOrder_of_at h1 hn ho rfl]
    exact if_neg (by rw [hc]; nofun)
  refine manage_done (owner := checkClose) hl hi hk hcheck ?_
  have horders : (answerHand f .done [] s).orders = s.orders := answerHand_onlyChanges f .done [] s .orders (by decide)
  rw [modOrder_eq_setOrder (o := o) (by rw [horders]; exact ho.1)]
  exact hP

end

/-- The first part of R9: an accepted ORDER_CLOSE. -/
theorem orderClose_accepted (s : State) (f : LinkFrame) (i : Fin 16) (o : Order) (hands : Hands s f 0x24 (be16 o.terms.number))
    (ho : OrderAt s i o) (h1 : 1 ≤ o.terms.number) (hn : o.terms.number ≤ 65535) (hc : o.closing = false)
    (hsum : o.summaryPending = false) (hres : 1 ≤ s.eq.reserved) :
    (0 < o.outstanding → Completes (exec .orderClose s) fun t =>
      OnlyChanges [.port, .inHand, .eventQueue, .orders] s t ∧ Answered s t f .done [] []
        ∧ t.orders = s.orders.set i.val (some { o with closing := true, closingTag := some f.tag }) i.isLt)
    ∧ ∀ (j : Fin 32) (a : Account), o.outstanding = 0 → AccountAt s j a → a.number = o.terms.account →
      (Room s 1 → Completes (exec .orderClose s) fun t =>
        OnlyChanges [.port, .inHand, .eventQueue, .orders, .accounts] s t
          ∧ Answered s t f .done []
              [.event f.tag (.orderSummary o.terms.number o.terms.account o.cls o.cancelling o.reserved o.exposed o.spoiled
                (decide (1 ≤ o.exposed)) o.setupAmount
                (if 1 ≤ o.exposed then min (o.charged + o.setupAmount) 4294967295 else o.charged))]
          ∧ t.orders = s.orders.set i.val none i.isLt
          ∧ t.accounts = s.accounts.set j.val
              (some { a with
                held := a.held - o.setupAmount, openOrders := a.openOrders - 1
                spent := if 1 ≤ o.exposed then min (a.spent + o.setupAmount) 4294967295 else a.spent }) j.isLt)
      ∧ (freePlaces s.eq = 0 → s.eq.records.length + s.eq.reserved + s.eq.given.length = 16 →
        Completes (exec .orderClose s) fun t =>
          OnlyChanges [.port, .inHand, .eventQueue, .orders, .accounts] s t
            ∧ t.eq.records = s.eq.records ++ [.result f.tag .done []]
            ∧ t.eq.waiters = s.eq.waiters ++ [.orderSummary i]
            ∧ ∃ o', t.orders = s.orders.set i.val (some o') i.isLt ∧ o'.terms = o.terms ∧ o'.closing = true
                ∧ o'.closingTag = some f.tag ∧ o'.summaryPending = true ∧ o'.settled = true) := by
  have hkept := answerHand_onlyChanges f .done [] s
  have horders : (answerHand f .done [] s).orders = s.orders := hkept .orders (by decide)
  have haccounts : (answerHand f .done [] s).accounts = s.accounts := hkept .accounts (by decide)
  have hentry : (setOrder i (o.close f.tag) (answerHand f .done [] s)).orders[i] = some (o.close f.tag) := setOrder_order _ _ _
  refine ⟨fun hout => orderClose_done hands ho h1 hn hc ?_, fun j a hout ha hj => ?_⟩
  · rw [tryFree_of_not_freeable hentry (Bool.eq_false_iff.mpr fun h => Nat.ne_of_gt hout (freeable_iff.mp h).2.1)]
    obtain ⟨honly, hanswered⟩ := done_then_changes (by decide)
      (setOrder_onlyChanges i (o.close f.tag) (answerHand f .done [] s))
    exact ⟨honly, hanswered, by rw [← horders]; rfl⟩
  · have hfreeable : (o.close f.tag).freeable = true := freeable_iff.mpr ⟨rfl, hout, hsum⟩
    have hat : AccountAt (setOrder i (o.close f.tag) (answerHand f .done [] s)) j a := ha.congr haccounts
    refine ⟨fun hroom => orderClose_done hands ho h1 hn hc ?_, fun hfree hfull => orderClose_done hands ho h1 hn hc ?_⟩
    · have hroom' : Room (setOrder i (o.close f.tag) (answerHand f .done [] s)) 1 := (answerHand_room hroom hres f .done []).congr rfl
      rw [tryFree_of_freeable hentry hfreeable, freeTransition_posts hentry hat hj hroom']
      have hfreed := ((setOrder_onlyChanges i (o.close f.tag) (answerHand f .done [] s)).widen (ps := [.orders, .accounts])).andThen
        (orderFreed_onlyChanges i j (o.close f.tag) _)
      have hpost := joinTail_onlyChanges (o.close f.tag).summaryRecord
        (orderFreed i j (o.close f.tag) (setOrder i (o.close f.tag) (answerHand f .done [] s)))
      refine ⟨((hkept.widen).andThen hfreed).andThen hpost, ?_, ?_, ?_⟩
      · rw [← close_settle_event]
        exact (answerHand_answered f .done [] s).post (hfreed .port (by decide)) (hfreed .inHand (by decide))
          (hfreed .eventQueue (by decide)) _
      · exact (hpost .orders (by decide)).trans (by rw [orderFreed_orders, horders])
      · refine (hpost .accounts (by decide)).trans ?_
        rw [orderFreed_accounts hat.1, settled_of_exposed, ← haccounts]
        rfl
    · have hfull' : freePlaces (setOrder i (o.close f.tag) (answerHand f .done [] s)).eq = 0 := answerHand_full hfull hres f .done []
      rw [tryFree_of_freeable hentry hfreeable, freeTransition_waits hentry hat hj hfull']
      obtain ⟨p, hp, -⟩ := answerHand_eq f .done [] s
      rw [hp]
      refine ⟨?_, rfl, rfl, (o.close f.tag).settle, ?_, rfl, rfl, rfl, rfl, rfl⟩
      · intro q hq
        cases q with
        | port | inHand | eventQueue | orders | accounts => exact absurd (by decide) hq
        | _ => rfl
      · show (s.orders.set i.val (some (o.close f.tag)) i.isLt).set i.val (some (o.close f.tag).settle) i.isLt = _
        rw [Vector.set_set]

/-! ### ORDER_CANCEL of requests that are QUEUED (R10, R195) -/

/-- The station of a cancelled order without its removable requests (R10, R195). -/
def Station.cancelled (n : Nat) (x : Station) : Station :=
  { x with queue := x.queue.filter fun q => !removable n q, state := afterRemoval x.queue.head? n x.state }

/-- An order with its outstanding count set. -/
def Order.left (k : Nat) (o : Order) : Order := { o with outstanding := k }

theorem afterRemoval_offline (head : Option Request) (n : Nat) : afterRemoval head n .offline = .offline := by
  unfold afterRemoval
  split
  · split
    · rw [if_neg (fun h => nomatch h.2), if_neg fun h => nomatch h.2]
    · rfl
  · rfl

theorem removable_of_queued {n : Nat} {q : Request} (h : q.order = n → q.state = .queued) : removable n q = (q.order == n) := by
  unfold removable
  by_cases hn : q.order = n
  · rw [h hn]; simp
  · simp [hn]

theorem requestEnded_of_at {v : State} {i : Fin 16} {o : Order} {n : Nat} (h : OrderAt v i o) (hn : o.terms.number = n) :
    requestEnded n v = tryFree i (setOrder i (o.left (o.outstanding - 1)) v) := by
  rw [requestEnded, orderIdx_of_at h hn]
  exact congrArg (tryFree i) (modOrder_eq_setOrder h.1 _)

/-- The last of a closing order's requests ends with the FREE transition (R12, R13). -/
theorem requestsEnded {v : State} {i : Fin 16} {o : Order} {n x : Nat} {l : List Nat} (h : OrderAt v i o) (hn : o.terms.number = n)
    (hc : o.closing = true) (hs : o.summaryPending = false) (hl : o.outstanding = (x :: l).length) :
    (x :: l).foldl (fun s _ => requestEnded n s) v = freeTransition i (setOrder i (o.left 0) v) := by
  induction l generalizing v o x with
  | nil =>
    rw [List.foldl_cons, List.foldl_nil, requestEnded_of_at h hn, hl]
    exact tryFree_of_freeable (setOrder_order _ _ _) (freeable_iff.mpr ⟨hc, rfl, hs⟩)
  | cons y l ih =>
    have hleft : (o.left (y :: l).length).freeable = false :=
      Bool.eq_false_iff.mpr fun hf => nomatch (freeable_iff.mp hf).2.1
    rw [List.foldl_cons, requestEnded_of_at h hn, hl, List.length_cons, Nat.add_sub_cancel,
      tryFree_of_not_freeable (setOrder_order _ _ _) hleft,
      ih (v := setOrder i (o.left (y :: l).length) v) (o := o.left (y :: l).length) (h.set rfl) hn hc hs rfl, setOrder_setOrder]
    rfl

theorem not_abortable_other {s : State} {st : St} {n : Nat} (h : ∀ q, headOf s st = some q → q.order ≠ n) :
    (abortable s st && ((headOf s st).map (·.order)) == some n) = false := by
  cases hq : headOf s st with
  | none => exact Bool.and_false _
  | some q =>
    have hne : (some q.order == some n) = false := beq_eq_false_iff_ne.mpr fun e => h q hq (Option.some.inj e)
    rw [Option.map_some, hne, Bool.and_false]

theorem headOf_congr {s t : State} {st : St} (h : t.stations[st] = s.stations[st]) : headOf t st = headOf s st := by rw [headOf, h]; rfl

theorem cancelAt_eq {u w : State} {st : St} {n : Nat}
    (hw : (List.range (u.stations[st].queue.filter (removable n)).length).foldl (fun s _ => requestEnded n s)
      (modStation st (Station.cancelled n) u) = w)
    (hnot : (abortable w st && ((headOf w st).map (·.order)) == some n) = false) : cancelAt st n u = w := by
  subst hw
  exact if_neg fun h => absurd (hnot.symm.trans h) Bool.false_ne_true

section
variable {u : State} {i : Fin 16} {o : Order} {j : Fin 32} {a : Account} {st : St}

/-- A cancel that removes all of an order's requests, and the FREE transition that follows it (R10, R13). -/
theorem cancel_frees (ho : OrderAt u i o) (hc : o.closing = true) (hs : o.summaryPending = false)
    (hqueued : ∀ q ∈ u.stations[st].queue, q.order = o.terms.number → q.state = .queued)
    (hall : (u.stations[st].queue.filter fun q => q.order == o.terms.number).length = o.outstanding)
    (ha : AccountAt u j a) (hj : a.number = o.terms.account) (hr : Room u 1) :
    tryFree i (cancelAt st o.terms.number u) = joinTail (o.left 0).summaryRecord
      (orderFreed i j o (setOrder i (o.left 0) (modStation st (Station.cancelled o.terms.number) u))) := by
  have hremoved : (u.stations[st].queue.filter (removable o.terms.number)).length = o.outstanding := by
    rw [← hall]
    exact congrArg _ (List.filter_congr fun q hq => removable_of_queued (hqueued q hq))
  have hat : OrderAt (modStation st (Station.cancelled o.terms.number) u) i o := ho.congr rfl
  have hfree : freeTransition i (setOrder i (o.left 0) (modStation st (Station.cancelled o.terms.number) u)) =
      joinTail (o.left 0).summaryRecord (orderFreed i j o (setOrder i (o.left 0)
        (modStation st (Station.cancelled o.terms.number) u))) :=
    freeTransition_posts (setOrder_order _ _ _) (ha.congr rfl) hj (hr.congr rfl)
  have hother {w : State} (hw : w.stations = (modStation st (Station.cancelled o.terms.number) u).stations) :
      (abortable w st && ((headOf w st).map (·.order)) == some o.terms.number) = false := by
    refine not_abortable_other fun q hq hn => ?_
    have hmem : q ∈ u.stations[st].queue.filter fun q => !removable o.terms.number q := by
      rw [headOf_congr (s := modStation st (Station.cancelled o.terms.number) u) (by rw [hw]), headOf, modStation_self] at hq
      exact List.mem_of_head? hq
    obtain ⟨hq', hnot⟩ := List.mem_filter.mp hmem
    rw [removable_of_queued (hqueued q hq'), hn] at hnot
    simp at hnot
  have hsame : ∀ {w : State}, OnlyChanges [.port, .eventQueue, .orders, .accounts]
      (modStation st (Station.cancelled o.terms.number) u) w → w.stations = (modStation st (Station.cancelled o.terms.number) u).stations :=
    fun h => h .stations (by decide)
  cases hk : o.outstanding with
  | zero =>
    have hleft : o.left 0 = o := by rw [← hk]; rfl
    rw [cancelAt_eq (w := modStation st (Station.cancelled o.terms.number) u) (by rw [hremoved, hk]; rfl) (hother rfl),
      tryFree_of_freeable hat.1 (freeable_iff.mpr ⟨hc, hk, hs⟩)]
    rw [← hfree, hleft, setOrder_self hat.1]
  | succ k =>
    have hended := requestsEnded (x := 0) (l := (List.range k).map Nat.succ) hat rfl hc hs
      (by rw [hk, List.length_cons, List.length_map, List.length_range])
    rw [← List.range_succ_eq_map, hfree] at hended
    have hchanges : OnlyChanges [.port, .eventQueue, .orders, .accounts] (modStation st (Station.cancelled o.terms.number) u)
        (joinTail (o.left 0).summaryRecord (orderFreed i j o (setOrder i (o.left 0)
          (modStation st (Station.cancelled o.terms.number) u)))) :=
      (((setOrder_onlyChanges i (o.left 0) _).widen).andThen (orderFreed_onlyChanges i j o _)).andThen (joinTail_onlyChanges _ _)
    rw [cancelAt_eq (by rw [hremoved, hk]; exact hended) (hother (hsame hchanges))]
    refine tryFree_of_free ?_
    rw [show (joinTail _ _).orders = _ from joinTail_onlyChanges (o.left 0).summaryRecord _ .orders (by decide), orderFreed_orders]
    exact set_self _ _ _

end

theorem cancel_summary (o : Order) (tag : Byte) : ((o.cancel tag).left 0).summaryRecord =
    .event tag (.orderSummary o.terms.number o.terms.account o.cls true o.reserved o.exposed o.spoiled
      (decide (1 ≤ o.exposed)) o.setupAmount
      (if 1 ≤ o.exposed then min (o.charged + o.setupAmount) 4294967295 else o.charged)) := rfl

theorem cancelled_of_offline {x : Station} {n : Nat} (hstate : x.state = .offline)
    (hqueued : ∀ q ∈ x.queue, q.order = n → q.state = .queued) :
    x.cancelled n = { x with queue := x.queue.filter fun q => q.order != n } := by
  have hfilter : x.queue.filter (fun q => !removable n q) = x.queue.filter fun q => q.order != n :=
    List.filter_congr fun q hq => by rw [removable_of_queued (hqueued q hq)]; rfl
  rw [Station.cancelled, hfilter, hstate, afterRemoval_offline]

/-- An ORDER_CANCEL of an order whose requests are all QUEUED at an OFFLINE station (R10). -/
theorem orderCancel_frees (s : State) (f : LinkFrame) (i : Fin 16) (o : Order) (j : Fin 32) (a : Account) (hsteady : Steady s)
    (hands : Hands s f 0x25 (be16 o.terms.number)) (ho : OrderAt s i o) (h1 : 1 ≤ o.terms.number) (hn : o.terms.number ≤ 65535)
    (hcancel : o.cancelling = false) (hsum : o.summaryPending = false) (hstate : s.stations[o.terms.station].state = .offline)
    (hqueued : ∀ q ∈ s.stations[o.terms.station].queue, q.order = o.terms.number → q.state = .queued)
    (hall : (s.stations[o.terms.station].queue.filter fun q => q.order == o.terms.number).length = o.outstanding)
    (ha : AccountAt s j a) (hj : a.number = o.terms.account) (hres : 1 ≤ s.eq.reserved) (hroom : Room s 1) :
    Completes (exec .orderCancel s) fun t =>
      OnlyChanges [.port, .inHand, .eventQueue, .orders, .accounts, .stations] s t
        ∧ Answered s t f .done []
            [.event f.tag (.orderSummary o.terms.number o.terms.account o.cls true o.reserved o.exposed o.spoiled
              (decide (1 ≤ o.exposed)) o.setupAmount
              (if 1 ≤ o.exposed then min (o.charged + o.setupAmount) 4294967295 else o.charged))]
        ∧ t.orders = s.orders.set i.val none i.isLt
        ∧ t.accounts = s.accounts.set j.val
            (some { a with
              held := a.held - o.setupAmount, openOrders := a.openOrders - 1
              spent := if 1 ≤ o.exposed then min (a.spent + o.setupAmount) 4294967295 else a.spent }) j.isLt
        ∧ OthersSame o.terms.station s.stations t.stations
        ∧ t.stations[o.terms.station] = { s.stations[o.terms.station] with
            queue := s.stations[o.terms.station].queue.filter fun q => q.order != o.terms.number } := by
  obtain ⟨hl, hset, hbusy⟩ := hsteady
  obtain ⟨-, hi, hk, hp⟩ := hands
  have hcheck : checkCancel f s = .ok fun s =>
      finish (tryFree i (cancelAt o.terms.station o.terms.number (modOrder i (Order.cancel f.tag) s))) := by
    rw [checkCancel, hp, namedOrder_of_at h1 hn ho rfl]
    exact if_neg (by rw [hcancel, hsum]; simp)
  refine manage_done (owner := checkCancel) hl hi hk hcheck ?_
  have hkept := answerHand_onlyChanges f .done [] s
  have horders : (answerHand f .done [] s).orders = s.orders := hkept .orders (by decide)
  have haccounts : (answerHand f .done [] s).accounts = s.accounts := hkept .accounts (by decide)
  have hstations : (answerHand f .done [] s).stations = s.stations := hkept .stations (by decide)
  have hring : (answerHand f .done [] s).ring = s.ring := hkept .ring (by decide)
  obtain ⟨u, hu⟩ : ∃ u, u = setOrder i (o.cancel f.tag) (answerHand f .done [] s) := ⟨_, rfl⟩
  have hmod : modOrder i (Order.cancel f.tag) (answerHand f .done [] s) = u := by
    rw [hu]; exact modOrder_eq_setOrder (by rw [horders]; exact ho.1) _
  have hustations : u.stations = s.stations := by rw [hu]; exact hstations
  have huaccounts : u.accounts = s.accounts := by rw [hu]; exact haccounts
  have huorders : u.orders = s.orders.set i.val (some (o.cancel f.tag)) i.isLt := by rw [hu, ← horders]; rfl
  have huat : OrderAt u i (o.cancel f.tag) := by
    rw [hu]
    exact (ho.congr horders).set rfl
  have huroom : Room u 1 := by rw [hu]; exact (answerHand_room hroom hres f .done []).congr rfl
  have hfrees := cancel_frees (st := o.terms.station) huat rfl hsum (by rw [hustations]; exact hqueued) (by rw [hustations]; exact hall)
    (ha.congr huaccounts) hj huroom
  have hself : (modStation o.terms.station (Station.cancelled o.terms.number) u).stations[o.terms.station] =
      { s.stations[o.terms.station] with queue := s.stations[o.terms.station].queue.filter fun q => q.order != o.terms.number } := by
    rw [modStation_self, hustations]
    exact cancelled_of_offline hstate hqueued
  obtain ⟨w, hw⟩ : ∃ w, w = orderFreed i j (o.cancel f.tag) (setOrder i ((o.cancel f.tag).left 0)
    (modStation o.terms.station (Station.cancelled o.terms.number) u)) := ⟨_, rfl⟩
  have hchanges : OnlyChanges [.orders, .accounts, .stations] (answerHand f .done [] s) w := by
    rw [hw, hu]
    exact ((((setOrder_onlyChanges i (o.cancel f.tag) (answerHand f .done [] s)).widen).andThen
      (modStation_onlyChanges o.terms.station _ _)).andThen (setOrder_onlyChanges i _ _)).andThen (orderFreed_onlyChanges i j _ _)
  have hpost := joinTail_onlyChanges ((o.cancel f.tag).left 0).summaryRecord w
  have hfreed : tryFree i (cancelAt o.terms.station o.terms.number u) = joinTail ((o.cancel f.tag).left 0).summaryRecord w := by
    rw [hw]; exact hfrees
  have hwstations : (joinTail ((o.cancel f.tag).left 0).summaryRecord w).stations =
      upd s.stations o.terms.station (Station.cancelled o.terms.number) := by
    rw [hpost .stations (by decide), hw, ← hustations]; rfl
  have hjoined := (hchanges.widen (ps := [.port, .eventQueue, .orders, .accounts, .stations])).andThen hpost
  have hfinish : finish (joinTail ((o.cancel f.tag).left 0).summaryRecord w) = joinTail ((o.cancel f.tag).left 0).summaryRecord w := by
    refine finish_of_busy (settled_of_others (st := o.terms.station) (answerHand_settled hset f .done []) ?_ ?_
      (hjoined .bindings (by decide)) ?_ ?_) (hbusy.congr ?_)
    · rw [hwstations, hstations]; exact othersSame_upd _ _ _
    · rw [hjoined .rolls (by decide)]; exact othersSame_refl _ _
    · rw [hjoined .devices (by decide)]; exact .refl _
    · have hoffline : (joinTail ((o.cancel f.tag).left 0).summaryRecord w).stations[o.terms.station].state = .offline := by
        rw [hwstations, upd_self, cancelled_of_offline hstate hqueued]
        exact hstate
      exact atRest_of_state (by rw [hoffline]; nofun) (by rw [hoffline]; nofun)
    · exact (hjoined .ring (by decide)).trans hring
  rw [hmod, hfreed, hfinish]
  refine ⟨(hkept.widen).andThen hjoined, ?_, ?_, ?_, ?_, ?_⟩
  · rw [← cancel_summary]
    exact (answerHand_answered f .done [] s).post (hchanges .port (by decide)) (hchanges .inHand (by decide))
      (hchanges .eventQueue (by decide)) _
  · rw [hpost .orders (by decide), hw, orderFreed_orders]
    show u.orders.set i.val none i.isLt = _
    rw [huorders, Vector.set_set]
  · rw [hpost .accounts (by decide), hw, orderFreed_accounts (a := a) (by exact (ha.congr huaccounts).1), settled_of_exposed, ← huaccounts]
    rfl
  · rw [hwstations]; exact othersSame_upd _ _ _
  · rw [hwstations, upd_self]; exact cancelled_of_offline hstate hqueued

/-- Settles O18. -/
theorem orderCloseRule : Obligations.OrderCloseRule := by
  refine ⟨orderClose_accepted, ⟨fun s f c kind hc hl hi hk => ⟨fun h => ?_, fun h => ?_, fun n hp h1 hn hnone => ?_⟩,
    fun s f i o ho h1 hn hclosing => ⟨fun ⟨hl, hi, hk, hp⟩ => ?_, fun ⟨hl, hi, hk, hp⟩ h => ?_⟩⟩, orderCancel_frees⟩
  · exact orderNamed_refused hc hl hi hk (namedOrder_badLength h s)
  · exact orderNamed_refused hc hl hi hk (by rw [h]; exact namedOrder_badField s)
  · exact orderNamed_refused hc hl hi hk (by rw [hp]; exact namedOrder_noEntry h1 hn hnone)
  · refine manage_refused (owner := checkClose) hl hi hk ?_
    rw [checkClose, hp, namedOrder_of_at h1 hn ho rfl]
    exact if_pos hclosing
  · refine manage_refused (owner := checkCancel) hl hi hk ?_
    rw [checkCancel, hp, namedOrder_of_at h1 hn ho rfl]
    refine if_pos ?_
    rw [hclosing, Bool.true_and, Bool.or_eq_true]
    exact h

/-! ### Writes of the Station and Device Tables (R61, R138, R139) -/

theorem exec_stationTableWrite (s : State) : exec .stationTableWrite s = live s (tableWrite .station writeStation s) := rfl

theorem exec_deviceTableWrite (s : State) : exec .deviceTableWrite s = live s (tableWrite .device writeDevice s) := rfl

theorem writeStation_binding {st : St} {b : Binding} (hb : BindingLegal b) (s : State) :
    writeStation (u8 (st.val + 1)) [b.camera, b.lamp] s =
      if s.bindings[st].enabled then .error .inUse
      else if otherBinding s st b.camera || otherBinding s st b.lamp then .error .badField
      else .ok (setBinding st (some b)) := by
  obtain ⟨hcamera, hlamp, hne⟩ := hb
  have hok : (isRingAddress b.camera && isRingAddress b.lamp && b.camera != b.lamp) = true := by
    rw [hcamera, hlamp]; simpa using hne
  simp only [writeStation, station?_u8, parseBinding, hok, if_true, if_neg (List.cons_ne_nil _ _)]

theorem otherBinding_eq_false {s : State} {st : St} {a : Byte}
    (h : ∀ st' b, st' ≠ st → s.bindings[(st' : St)].binding = some b → b.camera ≠ a ∧ b.lamp ≠ a) : otherBinding s st a = false := by
  rw [otherBinding, List.any_eq_false]
  intro j _
  cases hj : s.bindings[j].binding with
  | none => simp
  | some b =>
    by_cases e : j = st
    · simp [e]
    · obtain ⟨hcamera, hlamp⟩ := h j b e hj
      simp [hcamera, hlamp]

theorem writeDevice_record {i : Fin 16} {a : Byte} {c : DevClass} (ha : isRingAddress a = true) (s : State) :
    writeDevice (u8 i.val) [a, c.code] s =
      if otherDevice s i (fun d => d.addr == a) then .error .badField
      else if c == .printer && otherDevice s i (fun d => d.cls == .printer) then .error .badField
      else if sameDevice s i a c then .ok id
      else if boundToEnabled s i then .error .inUse
      else .ok (replaceDevice i (some (Device.fresh a c))) := by
  have hcode : DevClass.ofCode c.code = some c := by cases c <;> rfl
  simp only [writeDevice, index?_u8 (show 16 ≤ 256 by decide), parseDevice, ha, hcode, if_true, if_neg (List.cons_ne_nil _ _),
    Option.map_some]

theorem otherDevice_eq_false {s : State} {i : Fin 16} {p : Device → Bool}
    (h : ∀ j d, j ≠ i → s.devices[(j : Fin 16)] = some d → p d = false) : otherDevice s i p = false := by
  rw [otherDevice, List.any_eq_false]
  intro j _
  cases hj : s.devices[j] with
  | none => simp
  | some d =>
    by_cases e : j = i
    · simp [e]
    · simp [h j d e hj]

/-- A new entry is ABSENT, so it makes no device UP (R63, R139). -/
theorem isUp_of_fresh {s : State} {i : Fin 16} {d : Device} (hnone : s.devices[i] = none) (hd : d.link = .absent)
    (hother : ∀ j e, j ≠ i → s.devices[(j : Fin 16)] = some e → e.addr ≠ d.addr) {x : Byte}
    (h : isUp { s with devices := s.devices.set i.val (some d) i.isLt } x = true) : isUp s x = true := by
  have hget (j : Fin 16) : ({ s with devices := s.devices.set i.val (some d) i.isLt } : State).devices[j]
      = if j = i then some d else s.devices[j] := set_get _ _ _ _
  by_cases hx : x = d.addr
  · have hidx : deviceIdx { s with devices := s.devices.set i.val (some d) i.isLt } x = some i := by
      refine find?_finRange ?_ fun k hk => ?_
      · rw [hget, if_pos rfl, hx]; simp
      · rw [hget, if_neg (Fin.ne_of_lt hk)]
        cases hk' : s.devices[k] with
        | none => rfl
        | some e => simpa [hx] using hother k e (Fin.ne_of_lt hk) hk'
    rw [isUp, hidx] at h
    dsimp only at h
    rw [hget, if_pos rfl] at h
    simp [hd] at h
  · have hidx : deviceIdx { s with devices := s.devices.set i.val (some d) i.isLt } x = deviceIdx s x := by
      unfold deviceIdx
      congr 1
      funext k
      rw [hget]
      by_cases e : k = i
      · rw [if_pos e, e, hnone]
        exact beq_eq_false_iff_ne.mpr fun e => hx e.symm
      · rw [if_neg e]
    rw [isUp, hidx] at h
    rw [isUp]
    cases hk : deviceIdx s x with
    | none => rw [hk] at h; exact h
    | some k =>
      rw [hk] at h
      dsimp only at h ⊢
      rw [hget] at h
      by_cases e : k = i
      · rw [if_pos e] at h; simp [hd] at h
      · rw [if_neg e] at h; exact h

theorem bothUp_of_isUp {s t : State} {st : St} (hb : t.bindings = s.bindings) (h : ∀ x, isUp t x = true → isUp s x = true)
    (hup : bothUp t st = true) : bothUp s st = true := by
  rw [bothUp_iff, cameraOf, lampOf, hb] at hup
  obtain ⟨hbound, hcamera, hlamp⟩ := hup
  exact bothUp_iff.mpr ⟨hbound, h _ hcamera, h _ hlamp⟩

/-- Settles O23. -/
theorem bindingWrites : Obligations.BindingWrites := by
  refine ⟨fun s f st b hb hands => ?_, fun s f i a c ⟨hl, hset, hbusy⟩ ha hands hother => ?_⟩
  · have hwrite := writeStation_binding (st := st) hb s
    rw [exec_stationTableWrite]
    refine ⟨fun hen => ?_, fun hen hothers => ?_⟩
    · exact tableWrite_refused (t := .station) (owner := writeStation) hands (hwrite.trans (if_pos hen))
    · rw [if_neg (by rw [hen]; nofun), otherBinding_eq_false fun st' b' hne hb' => ⟨(hothers st' b' hne hb').1, (hothers st' b' hne hb').2.1⟩,
        otherBinding_eq_false fun st' b' hne hb' => (hothers st' b' hne hb').2.2, Bool.or_false, if_neg nofun] at hwrite
      refine tableWrite_done (t := .station) (owner := writeStation) hands hwrite ?_
      obtain ⟨honly, hanswered⟩ := done_then_change (by decide) (setBinding_onlyChanges st (some b) (answerHand f .done [] s))
      have hbindings : (answerHand f .done [] s).bindings = s.bindings := answerHand_onlyChanges f .done [] s .bindings (by decide)
      refine ⟨honly, hanswered, ?_⟩
      rw [setBinding_bindings, hbindings, upd, hen]
  · have haddr : otherDevice s i (fun d => d.addr == a) = false :=
      otherDevice_eq_false fun j d hne hd => beq_eq_false_iff_ne.mpr (hother j d hne hd).1
    have hprinter : (c == .printer && otherDevice s i fun d => d.cls == .printer) = false := by
      by_cases hc : c = .printer
      · rw [otherDevice_eq_false fun j d hne hd => beq_eq_false_iff_ne.mpr ((hother j d hne hd).2 hc), Bool.and_false]
      · rw [beq_eq_false_iff_ne.mpr hc, Bool.false_and]
    have hwrite := writeDevice_record (i := i) (c := c) ha s
    rw [haddr, hprinter, if_neg nofun, if_neg nofun] at hwrite
    rw [exec_deviceTableWrite]
    refine ⟨fun hnone => ?_, fun d hd => ⟨fun hda hdc => ?_, fun hne st hst hen => ?_⟩⟩
    · have hsame : sameDevice s i a c = false := by simp only [sameDevice, hnone]
      have hbound : boundToEnabled s i = false := by simp only [boundToEnabled, hnone]
      rw [hsame, hbound, if_neg nofun, if_neg nofun] at hwrite
      refine tableWrite_done (t := .device) (owner := writeDevice) hands hwrite ?_
      have hkept := answerHand_onlyChanges f .done [] s
      have hdevices : (answerHand f .done [] s).devices = s.devices := hkept .devices (by decide)
      have hring : (answerHand f .done [] s).ring = s.ring := hkept .ring (by decide)
      obtain ⟨u, hu⟩ : ∃ u, u = answerHand f .done [] s := ⟨_, rfl⟩
      have hunone : u.devices[i] = none := by rw [hu, hdevices]; exact hnone
      have hdone := done_then_changes (by decide) (hu ▸ devices_onlyChanges (s.devices.set i.val (some (Device.fresh a c)) i.isLt) u)
      have hset' : Settled { u with devices := u.devices.set i.val (some (Device.fresh a c)) i.isLt } := by
        refine settled_of_fewer (s := u) (hu ▸ answerHand_settled hset f .done []) rfl rfl fun st => bothUp_of_isUp (s := u) rfl fun x hx =>
          isUp_of_fresh hunone rfl (fun j e hne he => ?_) hx
        rw [hu, hdevices] at he
        exact (hother j e hne he).1
      have hfinish : replaceDevice i (some (Device.fresh a c)) u = { u with devices := u.devices.set i.val (some (Device.fresh a c)) i.isLt } := by
        simp only [replaceDevice, hunone]
        exact finish_of_busy hset' (hbusy.congr (by rw [hu]; exact hring))
      rw [← hu, hfinish]
      rw [← hu] at hdone hdevices
      rw [hdevices]
      exact ⟨hdone.1, hdone.2, rfl⟩
    · have hsame : sameDevice s i a c = true := by simp [sameDevice, hd, hda, hdc]
      rw [hsame, if_pos rfl] at hwrite
      exact tableWrite_done (t := .device) (owner := writeDevice) hands hwrite (answerHand_reported f [] s)
    · have hsame : sameDevice s i a c = false := by
        simp only [sameDevice, hd]
        exact Bool.and_eq_false_iff.mpr (hne.imp beq_eq_false_iff_ne.mpr beq_eq_false_iff_ne.mpr)
      have hbound : boundToEnabled s i = true := by simp only [boundToEnabled, hd, hst, hen]
      rw [hsame, hbound, if_neg nofun, if_pos rfl] at hwrite
      exact tableWrite_refused (t := .device) (owner := writeDevice) hands hwrite

end Sys2Proof.Machine
end

section
/-! PROOFS. ABORT (9.4): the release of a request's frames (R36), the end of a request (R83, R84), and the requests that an ABORT ends
(R191 to R194). -/

namespace Sys2Proof.Machine

/-! ### A slot that nobody waits for (R123) -/

/-- No station waits for a header slot or for labels. -/
def NoLabelWait (s : State) : Prop := s.composer.headerList = [] ∧ s.composer.labelWaiters = []

theorem NoLabelWait.congr {s t : State} (h : NoLabelWait s) (hc : t.composer = s.composer) : NoLabelWait t := by
  unfold NoLabelWait at h ⊢
  rw [hc]; exact h

theorem freeSlot_of_noWait {s : State} (h : NoLabelWait s) (i : Fin 320) : freeSlot i s = setSlot i .free s := by
  obtain ⟨hheader, hwaiters⟩ := h
  have hheader' : (setSlot i .free s).composer.headerList = [] := hheader
  have hserve : serveHeader (setSlot i .free s) = setSlot i .free s := by
    unfold serveHeader
    split
    · next h _ => rw [hheader'] at h; cases h
    · rfl
  have hwaiters' : (setSlot i .free s).composer.labelWaiters = [] := hwaiters
  rw [freeSlot, hserve, tellWaiters, hwaiters', List.filter_nil, List.foldl_nil, modComposer, hwaiters', List.filter_nil, ← hwaiters']

theorem releaseHeld_onlyChanges (n x : Nat) (s : State) : OnlyChanges [.accounts] s (releaseHeld n x s) := by
  unfold releaseHeld
  split
  · exact modAccount_onlyChanges _ _ s
  · exact .refl _ s

theorem reportOrder_onlyChanges (n : Nat) (f : Order → Order) (s : State) : OnlyChanges [.orders] s (reportOrder n f s) := by
  unfold reportOrder
  split
  · exact modOrder_onlyChanges _ _ s
  · exact .refl _ s

/-! ### Released records (R36) -/

/-- The hold of a record leaves the account of its order (R36, R102). -/
def releaseHold (r : FrameRec) (s : State) : State :=
  match orderOf s r.order with
  | some o => releaseHeld o.terms.account r.hold s
  | none => s

theorem releaseHold_onlyChanges (r : FrameRec) (s : State) : OnlyChanges [.accounts] s (releaseHold r s) := by
  unfold releaseHold
  split
  · exact releaseHeld_onlyChanges _ _ s
  · exact .refl _ s

theorem releaseRecord_eq (r : FrameRec) (s : State) : releaseRecord r s = freeSlot r.slot (releaseHold r s) := rfl

theorem releaseRecord_spec {s : State} (h : NoLabelWait s) (r : FrameRec) :
    OnlyChanges [.accounts, .composer] s (releaseRecord r s) ∧ NoLabelWait (releaseRecord r s) := by
  have hhold := releaseHold_onlyChanges r s
  have hquiet : NoLabelWait (releaseHold r s) := h.congr (hhold .composer (by decide))
  rw [releaseRecord_eq, freeSlot_of_noWait hquiet]
  exact ⟨(hhold.widen).andThen (setSlot_onlyChanges _ _ _), hquiet⟩

theorem releaseRecords_spec (l : List FrameRec) {s : State} (h : NoLabelWait s) :
    OnlyChanges [.accounts, .composer] s (l.foldl (fun s r => releaseRecord r s) s)
      ∧ NoLabelWait (l.foldl (fun s r => releaseRecord r s) s) := by
  induction l generalizing s with
  | nil => exact ⟨.refl _ s, h⟩
  | cons r l ih =>
    obtain ⟨honly, hquiet⟩ := releaseRecord_spec h r
    obtain ⟨konly, kquiet⟩ := ih hquiet
    exact ⟨honly.andThen konly, kquiet⟩

/-- The map without the records from a frame on (R36). -/
def RollMap.released (m : RollMap) (start : Nat) : RollMap :=
  { m with
      frames := m.frames.filter fun r => decide (r.number < start)
      next := if m.frames.any (fun r => decide (start ≤ r.number)) then start else m.next }

/-- The orders keep their places, terms and class of state (R3). -/
def OrdersKept (s t : State) : Prop :=
  ∀ i o, OrderAt s i o → ∃ o', OrderAt t i o' ∧ o'.terms = o.terms ∧ o'.closing = o.closing

theorem OrdersKept.of_same {s t : State} (h : t.orders = s.orders) : OrdersKept s t := fun _ o ho => ⟨o, ho.congr h, rfl, rfl⟩

theorem OrdersKept.trans {s t u : State} (h : OrdersKept s t) (k : OrdersKept t u) : OrdersKept s u := by
  intro i o ho
  obtain ⟨p, hp, hterms, hclosing⟩ := h i o ho
  obtain ⟨q, hq, kterms, kclosing⟩ := k i p hp
  exact ⟨q, hq, kterms.trans hterms, kclosing.trans hclosing⟩

theorem orderIdx_modOrder {f : Order → Order} (hf : ∀ o, (f o).terms = o.terms) (i : Fin 16) (s : State) (n : Nat) :
    orderIdx (modOrder i f s) n = orderIdx s n := by
  unfold orderIdx
  congr 1
  funext k
  rw [modOrder_orders, upd_get]
  by_cases hk : k = i
  · rw [if_pos hk, hk]
    cases s.orders[i] with
    | none => rfl
    | some o => exact congrArg (fun t => t.number == n) (hf o)
  · rw [if_neg hk]

theorem ordersKept_modOrder {f : Order → Order} (hf : ∀ o, (f o).terms = o.terms ∧ (f o).closing = o.closing) (i : Fin 16)
    (s : State) : OrdersKept s (modOrder i f s) := by
  rintro k o ⟨ho, hidx⟩
  have hidx' (n : Nat) := orderIdx_modOrder (fun o => (hf o).1) i s n
  by_cases hk : k = i
  · subst hk
    refine ⟨f o, ⟨?_, ?_⟩, hf o⟩
    · rw [modOrder_orders, upd_self, ho]; rfl
    · rw [hidx', (hf o).1, hidx]
  · refine ⟨o, ⟨?_, ?_⟩, rfl, rfl⟩
    · rw [modOrder_orders, upd_ne _ _ _ _ hk, ho]
    · rw [hidx', hidx]

theorem ordersKept_reportOrder {f : Order → Order} (hf : ∀ o, (f o).terms = o.terms ∧ (f o).closing = o.closing) (n : Nat)
    (s : State) : OrdersKept s (reportOrder n f s) := by
  unfold reportOrder
  split
  · exact ordersKept_modOrder hf _ s
  · exact .of_same rfl

/-- What a release leaves: the records from its start on have left the map, and nothing but holds, slots and the reserved total has
changed with them (R36). -/
structure Released (st : St) (m : RollMap) (start : Nat) (s t : State) : Prop where
  only : OnlyChanges [.rolls, .orders, .accounts, .composer] s t
  labels : NoLabelWait t
  orders : OrdersKept s t
  rolls : t.rolls = upd s.rolls st fun r => { r with map := some (m.released start) }

theorem releaseRun_released {s : State} {st : St} {m : RollMap} (hm : s.rolls[st].map = some m) (h : NoLabelWait s) (f : Nat) :
    Released st m (releaseStart m f) s (releaseRun st m f s) := by
  rw [releaseRun]
  split
  · next hnil =>
    have hall : ∀ r ∈ m.frames, r.number < releaseStart m f := by
      simpa [List.filter_eq_nil_iff] using hnil
    have hsame : m.released (releaseStart m f) = m := by
      have hfilter : m.frames.filter (fun r => decide (r.number < releaseStart m f)) = m.frames :=
        List.filter_eq_self.mpr fun r hr => decide_eq_true (hall r hr)
      have hany : m.frames.any (fun r => decide (releaseStart m f ≤ r.number)) = false :=
        List.any_eq_false.mpr fun r hr => by simpa using hall r hr
      rw [RollMap.released, hfilter, hany]
      rfl
    refine ⟨.refl _ s, h, .of_same rfl, ?_⟩
    rw [hsame, ← hm]
    exact (upd_same _ _ _ rfl).symm
  · next r rest hcons =>
    have hany : m.frames.any (fun r => decide (releaseStart m f ≤ r.number)) = true := by
      have hr : r ∈ m.frames.filter fun r => decide (releaseStart m f ≤ r.number) := by rw [hcons]; exact List.mem_cons_self
      obtain ⟨hmem, hle⟩ := List.mem_filter.mp hr
      exact List.any_eq_true.mpr ⟨r, hmem, hle⟩
    obtain ⟨u, hu⟩ : ∃ u, u = modMap st (fun m' =>
      { m' with frames := m'.frames.filter fun r => decide (r.number < releaseStart m f), next := releaseStart m f }) s := ⟨_, rfl⟩
    have hmap : OnlyChanges [.rolls] s u := hu ▸ modMap_onlyChanges st _ s
    obtain ⟨honly, hquiet⟩ := releaseRecords_spec (r :: rest) (h.congr (hmap .composer (by decide)))
    dsimp only
    rw [← hu]
    have hreport := reportOrder_onlyChanges r.order (fun o => { o with reserved := o.reserved - (r :: rest).length })
      ((r :: rest).foldl (fun s r => releaseRecord r s) u)
    refine ⟨(((hmap.widen).andThen honly).andThen hreport), hquiet.congr (hreport .composer (by decide)), ?_, ?_⟩
    · exact (OrdersKept.of_same ((honly .orders (by decide)).trans (hmap .orders (by decide)))).trans
        (ordersKept_reportOrder (f := fun o => { o with reserved := o.reserved - (r :: rest).length }) (fun _ => ⟨rfl, rfl⟩) _ _)
    · rw [hreport .rolls (by decide), honly .rolls (by decide), hu]
      simp only [modMap, modRoll, upd, hm, Option.map_some, RollMap.released, hany, if_true]

theorem release_of_open {s : State} {st : St} {m : RollMap} (h : openMap s st m.roll = some m) (f : Nat) :
    release st m.roll f s = (true, releaseRun st m f s) := by rw [release, h]

/-! ### The end of a request (R83, R84) -/

theorem endRequest_posts {s : State} {st : St} {q : Request} (hq : headOf s st = some q) (hr : Room s 1) (x : RequestOutcome) :
    endRequest st x s = finishRequest st (joinTail (.event q.tag (q.doneEvent x)) s) := by
  simp only [endRequest, hq, canPost_of_room hr, if_true]

/-- The ended request has left the queue and its order counts it down (R12, R83). -/
def requestGone (st : St) (i : Fin 16) (o : Order) (v : Vector (Option Device) 16) (s : State) : State :=
  { setOrder i (o.left (o.outstanding - 1)) (modStation st Station.dequeue s) with devices := v }

theorem finishRequest_eq {s : State} {st : St} {q : Request} {i : Fin 16} {o : Order} (hq : headOf s st = some q)
    (ho : OrderAt s i o) (hn : o.terms.number = q.order) (hc : o.closing = false) : finishRequest st s =
      afterRequest st s.stations[st].leftUp (clearBusyStation st (setOrder i (o.left (o.outstanding - 1)) (modStation st Station.dequeue s))) := by
  have hat : OrderAt (modStation st Station.dequeue s) i o := ho.congr rfl
  have hended : requestEnded q.order (modStation st Station.dequeue s) =
      setOrder i (o.left (o.outstanding - 1)) (modStation st Station.dequeue s) := by
    rw [requestEnded_of_at hat hn]
    exact tryFree_of_not_freeable (setOrder_order _ _ _) (Bool.eq_false_iff.mpr fun h => nomatch hc.symm.trans (freeable_iff.mp h).1)
  simp only [finishRequest, hq]
  rw [hended]

theorem finishRequest_gone {s : State} {st : St} {q : Request} {i : Fin 16} {o : Order} (hq : headOf s st = some q)
    (ho : OrderAt s i o) (hn : o.terms.number = q.order) (hc : o.closing = false) : ∃ v, DevicesKept s.devices v ∧
    finishRequest st s = afterRequest st s.stations[st].leftUp (requestGone st i o v s) := by
  obtain ⟨v, hv, he⟩ := clearBusyStation_change st (setOrder i (o.left (o.outstanding - 1)) (modStation st Station.dequeue s))
  refine ⟨v, hv, ?_⟩
  rw [finishRequest_eq hq ho hn hc, he]
  rfl

theorem requestGone_onlyChanges (st : St) (i : Fin 16) (o : Order) (v : Vector (Option Device) 16) (s : State) :
    OnlyChanges [.stations, .orders, .devices] s (requestGone st i o v s) :=
  (((modStation_onlyChanges st Station.dequeue s).widen).andThen (setOrder_onlyChanges i _ _)).andThen (devices_onlyChanges v _)

theorem requestGone_station (st : St) (i : Fin 16) (o : Order) (v : Vector (Option Device) 16) (s : State) :
    (requestGone st i o v s).stations[st] = s.stations[st].dequeue := upd_self _ _ _

/-- A station that stands SUSPENDED keeps its state when its request has ended (R83, R194). -/
theorem afterRequest_suspended {s : State} {st : St} {m : RollMap} (hend : s.stations[st].rollEnd = false)
    (hm : s.rolls[st].map = some m) (hs : s.stations[st].state = .suspended) (leftUp : Bool) : afterRequest st leftUp s = s := by
  simp only [afterRequest, hend, hm, hs, Bool.false_eq_true, if_false, if_true]

/-- A station with its devices UP and its map open is READY for the next request (R83). -/
theorem afterRequest_ready {s : State} {st : St} {m : RollMap} (hend : s.stations[st].rollEnd = false)
    (hm : s.rolls[st].map = some m) (hs : s.stations[st].state ≠ .suspended) (hup : bothUp s st = true) :
    afterRequest st false s = modStation st (fun x => { x with state := .ready }) s := by
  simp only [afterRequest, hend, hm, if_neg hs, hup, Bool.false_eq_true, if_false, if_true]

/-! ### A release that ends the request (R36, R192, R194) -/

/-- The state in which a head request's frames can be released: it holds frames of the station's open map (R31). -/
structure HoldsFrames (s : State) (st : St) (q : Request) (m : RollMap) : Prop where
  head : headOf s st = some q
  frames : ∃ r, q.frames = some r ∧ r.roll = m.roll
  map : s.rolls[st].map = some m
  open_ : m.closing = none

theorem HoldsFrames.headRoll {s : State} {st : St} {q : Request} {m : RollMap} (h : HoldsFrames s st q m) :
    headRoll s st = m.roll := by
  obtain ⟨hq, ⟨r, hr, hroll⟩, -, -⟩ := h
  simp only [Machine.headRoll, hq, hr, hroll]

theorem HoldsFrames.gateOf {s : State} {st : St} {q : Request} {m : RollMap} (h : HoldsFrames s st q m) :
    gateOf s st = m.gate := by rw [Machine.gateOf, h.map]; rfl

theorem HoldsFrames.openMap {s : State} {st : St} {q : Request} {m : RollMap} (h : HoldsFrames s st q m) :
    openMap s st m.roll = some m := by simp only [Machine.openMap, h.map, h.open_, and_self, if_true]

theorem releaseAndEnd_eq {s : State} {st : St} {q : Request} {m : RollMap} (h : HoldsFrames s st q m) :
    releaseAndEnd st s = endRequest st .aborted (releaseRun st m m.gate s) := by
  rw [releaseAndEnd, h.headRoll, h.gateOf, release_of_open h.openMap]

/-- What the end of an aborted request leaves before the station goes on: its frames released, its REQUEST_DONE posted, itself gone
from the queue and from its order's count (R36, R83). -/
structure AbortEnds (st : St) (q : Request) (m : RollMap) (s t : State) : Prop where
  only : OnlyChanges [.stations, .rolls, .orders, .accounts, .composer, .devices, .port, .eventQueue] s t
  stations : t.stations = upd s.stations st Station.dequeue
  rolls : t.rolls = upd s.rolls st fun r => { r with map := some (m.released (releaseStart m m.gate)) }
  devices : DevicesKept s.devices t.devices
  posted : ∀ {r u f code data events}, Answered r u f code data events → s.port = u.port → s.inHand = u.inHand → s.eq = u.eq →
    Answered r t f code data (events ++ [.event q.tag (q.doneEvent .aborted)])

theorem releaseAndEnd_goes {s : State} {st : St} {q : Request} {m : RollMap} {i : Fin 16} {o : Order} (h : HoldsFrames s st q m)
    (hl : NoLabelWait s) (ho : OrderAt s i o) (hn : o.terms.number = q.order) (hc : o.closing = false) (hr : Room s 1) :
    ∃ t, AbortEnds st q m s t ∧ releaseAndEnd st s = afterRequest st s.stations[st].leftUp t := by
  obtain ⟨honly, -, horders, hrolls⟩ := releaseRun_released h.map hl m.gate
  obtain ⟨w, hw⟩ : ∃ w, w = releaseRun st m m.gate s := ⟨_, rfl⟩
  rw [← hw] at honly horders hrolls
  have hstations : w.stations = s.stations := honly .stations (by decide)
  have heq : w.eq = s.eq := honly .eventQueue (by decide)
  obtain ⟨p, hp, hterms, hclosing⟩ := horders i o ho
  have hhead : headOf w st = some q := (headOf_congr (by rw [hstations])).trans h.head
  have hpost := joinTail_onlyChanges (.event q.tag (q.doneEvent .aborted)) w
  obtain ⟨x, hx⟩ : ∃ x, x = joinTail (.event q.tag (q.doneEvent .aborted)) w := ⟨_, rfl⟩
  rw [← hx] at hpost
  have hxstations : x.stations = s.stations := (hpost .stations (by decide)).trans hstations
  have hxdevices : x.devices = s.devices := (hpost .devices (by decide)).trans (honly .devices (by decide))
  obtain ⟨v, hv, hgone⟩ := finishRequest_gone (s := x) ((headOf_congr (by rw [hxstations])).trans h.head)
    (hp.congr (hpost .orders (by decide))) (by rw [hterms]; exact hn) (hclosing.trans hc)
  have hgoneOnly := requestGone_onlyChanges st i p v x
  refine ⟨requestGone st i p v x, ⟨((honly.widen).andThen hpost).andThen hgoneOnly, ?_, ?_, ?_, ?_⟩, ?_⟩
  · rw [← hxstations]; rfl
  · rw [hgoneOnly .rolls (by decide), hpost .rolls (by decide), hrolls]
  · show DevicesKept s.devices v
    rw [← hxdevices]; exact hv
  · intro r u f code data events hanswered hport hhand hqueue
    have hposted := hanswered.post ((honly .port (by decide)).trans hport) ((honly .inHand (by decide)).trans hhand)
      (heq.trans hqueue) (.event q.tag (q.doneEvent .aborted))
    rw [← hx] at hposted
    exact hposted.of_same (hgoneOnly .port (by decide)) (hgoneOnly .inHand (by decide)) (hgoneOnly .eventQueue (by decide))
  · rw [releaseAndEnd_eq h, ← hw, endRequest_posts hhead (hr.congr heq), ← hx, hgone, hxstations]

/-! ### ABORT (R191) -/

theorem abortable_iff {s : State} {st : St} : abortable s st = true ↔
    ∃ q, headOf s st = some q ∧ (q.state = .running ∨ q.state = .suspended) ∧ q.abort = false ∧ q.outcome = none := by
  unfold abortable
  cases headOf s st with
  | none => simp
  | some q => simp [and_assoc]

/-- The head request carries its abort marker (R192). -/
def abortMarked (st : St) (s : State) : State := modHead st (fun q => { q with abort := true }) s

theorem abortMarked_station (st : St) (s : State) : (abortMarked st s).stations[st] =
    { s.stations[st] with queue := s.stations[st].queue.modifyHead fun q => { q with abort := true } } := upd_self _ _ _

theorem applyAbort_suspended {s : State} {st : St} (h : s.stations[st].state = .suspended) :
    applyAbort st s = abortSuspended st (abortMarked st s) := by
  have hstate : (abortMarked st s).stations[st].state = .suspended := by rw [abortMarked_station]; exact h
  rw [abortMarked] at hstate
  simp only [applyAbort, hstate, abortMarked]

theorem applyAbort_held {s : State} {st : St} (h : s.stations[st].state = .held) :
    applyAbort st s = completeAbort st (abortMarked st s) := by
  have hstate : (abortMarked st s).stations[st].state = .held := by rw [abortMarked_station]; exact h
  rw [abortMarked] at hstate
  simp only [applyAbort, hstate, abortMarked]

/-- After the SHOOT the marker alone is set, and the frame finishes (R193). -/
theorem applyAbort_afterShoot {s : State} {st : St} {ph : Phase} (h : s.stations[st].state = .running)
    (hphase : s.stations[st].phase = some ph) (hph : ph = .shotWait ∨ ph = .advance ∨ ph = .advanceWait) :
    applyAbort st s = abortMarked st s := by
  have hstate : (abortMarked st s).stations[st].state = .running := by rw [abortMarked_station]; exact h
  have hphase' : (abortMarked st s).stations[st].phase = some ph := by rw [abortMarked_station]; exact hphase
  rw [abortMarked] at hstate hphase'
  rcases hph with rfl | rfl | rfl <;> simp only [applyAbort, hstate, hphase', abortMarked]

theorem abort_done {s : State} {f : LinkFrame} {st : St} {P : State → Prop} (hands : Hands s f 0x26 [u8 (st.val + 1), 0x03])
    (h : abortable s st = true) (hP : P (finish (applyAbort st (answerHand f .done [] s)))) : Completes (exec .abort s) P := by
  rw [exec_abort]
  exact stationControl_done (owner := checkAbort) hands rfl (if_pos h) hP

/-- An ABORT of a request in SHOT_WAIT, ADVANCE or ADVANCE_WAIT (R193). -/
theorem abort_afterShoot {s : State} {f : LinkFrame} {st : St} {q : Request} {m : RollMap} {ph : Phase} (hs : Steady s)
    (hands : Hands s f 0x26 [u8 (st.val + 1), 0x03]) (hrun : RunsFrame s st q m ph)
    (hph : ph = .shotWait ∨ ph = .advance ∨ ph = .advanceWait) :
    Completes (exec .abort s) fun t => OnlyChanges [.port, .inHand, .eventQueue, .stations] s t
      ∧ Answered s t f .done [] [] ∧ OthersSame st s.stations t.stations
      ∧ t.stations[st] = { s.stations[st] with queue := { q with abort := true } :: s.stations[st].queue.tail } := by
  obtain ⟨hl, hset, hbusy⟩ := hs
  have hqueue := hrun.queue_eq
  obtain ⟨hstate, hphase, -, hhead, hqstate, habort, hout, -⟩ := hrun
  have hkept := answerHand_onlyChanges f .done [] s
  have hstations : (answerHand f .done [] s).stations = s.stations := hkept .stations (by decide)
  have hring : (answerHand f .done [] s).ring = s.ring := hkept .ring (by decide)
  refine abort_done hands (abortable_iff.mpr ⟨q, hhead, .inl hqstate, habort, hout⟩) ?_
  rw [applyAbort_afterShoot (s := answerHand f .done [] s) (by rw [hstations]; exact hstate) (by rw [hstations]; exact hphase) hph]
  have hrest : AtRest (abortMarked st (answerHand f .done [] s)) st := by
    refine running_atRest ?_
    rw [abortMarked_station, hstations]; exact hstate
  rw [show finish (abortMarked st (answerHand f .done [] s)) = _ from
    finish_modStation_busy (answerHand_settled hset f .done []) (hbusy.congr hring) hrest]
  obtain ⟨honly, hanswered⟩ := done_then_changes (by decide)
    (modHead_onlyChanges st (fun q => { q with abort := true }) (answerHand f .done [] s))
  refine ⟨honly, hanswered, ?_, ?_⟩
  · rw [← hstations]; exact othersSame_upd _ _ _
  · show (abortMarked st (answerHand f .done [] s)).stations[st] = _
    rw [abortMarked_station, hstations, hqueue]
    rfl

/-- An ABORT that finds no request to abort (R191). -/
theorem abort_refused {s : State} {f : LinkFrame} {st : St} (hands : Hands s f 0x26 [u8 (st.val + 1), 0x03])
    (h : ∀ q, headOf s st = some q → (q.state ≠ .running ∧ q.state ≠ .suspended) ∨ q.abort = true ∨ q.outcome.isSome = true) :
    Completes (exec .abort s) fun t => Refused s t f .wrongState := by
  rw [exec_abort]
  refine stationControl_refused (owner := checkAbort) hands rfl (if_neg fun ha => ?_)
  obtain ⟨q, hq, hstate, habort, hout⟩ := abortable_iff.mp ha
  rcases h q hq with ⟨h1, h2⟩ | h | h
  · exact hstate.elim h1 h2
  · exact nomatch habort.symm.trans h
  · rw [hout] at h; cases h

/-! ### ABORT of the request of a HELD station (R192) -/

/-- A station whose gap is withdrawn (R192). -/
def Station.gapless (x : Station) : Station := { x with gap := none, waits := 0 }

theorem completeAbort_eq (st : St) (s : State) : completeAbort st s = releaseAndEnd st (dropAsk st (modStation st Station.gapless s)) :=
  rfl

theorem dropAsk_onlyChanges (st : St) (s : State) : OnlyChanges [.ring] s (dropAsk st s) := ring_onlyChanges _ s

theorem recordAt_mem {m : RollMap} {f : Nat} {r : FrameRec} (h : recordAt m f = some r) : r ∈ m.frames ∧ r.number = f :=
  ⟨List.mem_of_find?_eq_some h, beq_iff_eq.mp (List.find?_some (p := fun r : FrameRec => r.number == f) h)⟩

theorem isMarked_of_record {m : RollMap} {f : Nat} {r : FrameRec} (h : recordAt m f = some r) :
    isMarked m f = (r.state != .reserved) := by simp only [isMarked, h]

theorem isMarked_of_reserved {m : RollMap} {f : Nat} (h : ∀ r ∈ m.frames, r.number = f → r.state = .reserved) : isMarked m f = false := by
  cases hr : recordAt m f with
  | none => simp only [isMarked, hr]
  | some r =>
    obtain ⟨hmem, hnumber⟩ := recordAt_mem hr
    rw [isMarked_of_record hr, h r hmem hnumber]
    rfl

/-- Settles O29. -/
theorem abortInHeldEndsRequest : Obligations.AbortInHeldEndsRequest := by
  intro s f st q r m b i o ⟨hl, hset, hbusy⟩ hands hstate hpost hend hqueue hqstate habort hout hframes hroll hm hclose hreserved hup
    hleft ho hn hc hheader hwaiters hres hroom hexists
  have hhead : headOf s st = some q := by rw [headOf, hqueue]; rfl
  refine abort_done hands (abortable_iff.mpr ⟨q, hhead, .inl hqstate, habort, hout⟩) ?_
  have hkept := answerHand_onlyChanges f .done [] s
  have hstations : (answerHand f .done [] s).stations = s.stations := hkept .stations (by decide)
  have hrolls : (answerHand f .done [] s).rolls = s.rolls := hkept .rolls (by decide)
  have hring : (answerHand f .done [] s).ring = s.ring := hkept .ring (by decide)
  have horders : (answerHand f .done [] s).orders = s.orders := hkept .orders (by decide)
  have hcomposer : (answerHand f .done [] s).composer = s.composer := hkept .composer (by decide)
  rw [applyAbort_held (s := answerHand f .done [] s) (by rw [hstations]; exact hstate), completeAbort_eq]
  obtain ⟨u, hu⟩ : ∃ u, u = dropAsk st (modStation st Station.gapless (abortMarked st (answerHand f .done [] s))) := ⟨_, rfl⟩
  have honly : OnlyChanges [.stations, .ring] (answerHand f .done [] s) u := by
    rw [hu]
    exact (((modHead_onlyChanges st _ _).widen).andThen (modStation_onlyChanges st Station.gapless _)).andThen (dropAsk_onlyChanges st _)
  have hustation : u.stations[st] = { s.stations[st] with queue := [{ q with abort := true }], gap := none, waits := 0 } := by
    rw [hu]
    show (modStation st Station.gapless (abortMarked st (answerHand f .done [] s))).stations[st] = _
    rw [modStation_self, abortMarked_station, hstations, hqueue]
    rfl
  have huothers : OthersSame st s.stations u.stations := by
    rw [hu, ← hstations]
    exact (othersSame_upd _ _ _).trans (othersSame_upd _ _ _)
  have hurolls : u.rolls = s.rolls := (honly .rolls (by decide)).trans hrolls
  have hholds : HoldsFrames u st { q with abort := true } m :=
    ⟨by rw [headOf, hustation]; rfl, ⟨r, hframes, hroll⟩, by rw [hurolls]; exact hm, hclose⟩
  have hlabels : NoLabelWait u := NoLabelWait.congr (s := s) ⟨hheader, hwaiters⟩ ((honly .composer (by decide)).trans hcomposer)
  have huorder : OrderAt u i o := ho.congr ((honly .orders (by decide)).trans horders)
  have huroom : Room u 1 := (answerHand_room hroom hres f .done []).congr (honly .eventQueue (by decide))
  obtain ⟨t, hends, hgoes⟩ := releaseAndEnd_goes hholds hlabels huorder hn hc huroom
  have htstation : t.stations[st] = { s.stations[st].quiet with queue := [], pendingPost := none, leftUp := false } := by
    rw [hends.stations, upd_self, Station.dequeue, if_neg (by rw [hustation, hstate]; nofun), hustation]
    rfl
  have hstart : releaseStart m m.gate = m.gate := by
    rw [releaseStart, isMarked_of_reserved fun x hx hx' => hreserved x hx (Nat.le_of_eq hx'.symm)]
    rfl
  have hreleased : m.released m.gate =
      { m with frames := m.frames.filter fun x => decide (x.number < m.gate), next := m.gate } := by
    obtain ⟨x, hx, hle⟩ := hexists
    rw [RollMap.released, if_pos (List.any_eq_true.mpr ⟨x, hx, decide_eq_true hle⟩)]
  have htmap : t.rolls[st].map =
      some { m with frames := m.frames.filter fun x => decide (x.number < m.gate), next := m.gate } := by
    rw [hends.rolls, upd_self, hstart, hreleased]
  have hall := ((hkept.widen (ps := [.port, .inHand, .eventQueue, .stations, .rolls, .orders, .accounts, .composer, .devices,
    .ring])).andThen honly).andThen hends.only
  have htup : BoundUp t st b := by
    refine (answerHand_boundUp hup f .done []).kept ?_ ?_
    · rw [hends.only .bindings (by decide), honly .bindings (by decide)]
    · rw [← honly .devices (by decide)]; exact hends.devices
  have hready : releaseAndEnd st u = modStation st (fun x => { x with state := .ready }) t := by
    rw [hgoes, hustation, hleft]
    refine afterRequest_ready (by rw [htstation]; exact hend) htmap (by rw [htstation]; exact fun h => nomatch hstate.symm.trans h) htup.2
  have hself : (modStation st (fun x => { x with state := .ready }) t).stations[st] =
      { s.stations[st].quiet with state := .ready, queue := [], pendingPost := none, leftUp := false } := by
    rw [modStation_self, htstation]
  have htothers : OthersSame st s.stations (modStation st (fun x => { x with state := .ready }) t).stations := by
    have hdequeued : OthersSame st u.stations t.stations := by rw [hends.stations]; exact othersSame_upd _ _ _
    exact (huothers.trans hdequeued).trans (othersSame_upd _ _ _)
  have htrolls : OthersSame st s.rolls t.rolls := by
    rw [hends.rolls, ← hurolls]; exact othersSame_upd _ _ _
  have hfinish : finish (modStation st (fun x => { x with state := .ready }) t) = modStation st (fun x => { x with state := .ready }) t := by
    refine finish_of_busy (settled_of_others (st := st) hset htothers htrolls (hall .bindings (by decide)) ?_ ?_) ?_
    · have hdevices : u.devices = s.devices := (honly .devices (by decide)).trans (hkept .devices (by decide))
      rw [← hdevices]; exact hends.devices
    · exact atRest_of_empty (by rw [hself]; nofun) (by rw [hself])
    · have hengine : u.ring.engine = s.ring.engine := by rw [hu, ← hring]; rfl
      show t.ring.engine.isSome = true
      rw [hends.only .ring (by decide), hengine]
      exact hbusy
  rw [← hu, hready, hfinish]
  refine ⟨?_, by rw [hself], by rw [hself], by rw [hself]; rfl, htothers, htrolls, htmap, 
    hall.andThen (modStation_onlyChanges st (fun x => { x with state := .ready }) t)⟩
  have hposted := hends.posted (answerHand_answered f .done [] s) (honly .port (by decide)) (honly .inHand (by decide))
    (honly .eventQueue (by decide))
  rw [Request.doneEvent, hframes] at hposted
  exact hposted.of_same rfl rfl rfl

/-! ### ABORT of a SUSPENDED request (R194) -/

/-- The request's spoiled count, raised when its gate frame has been spoiled. -/
def Request.countedIf (spoils : Bool) (q : Request) : Request := if spoils then { q with spoiled := q.spoiled + 1 } else q

/-- The map, its gate frame spoiled as ABORTED when the abort spoils it. -/
def RollMap.abortedIf (spoils : Bool) (m : RollMap) : RollMap := if spoils then m.marked m.gate (.spoiled .aborted) else m

/-- A SUSPENDED station that holds no request any longer (R194). -/
def Station.unheld (owes : Bool) (x : Station) : Station :=
  { x with susp := { x.susp with requestHeld := false, phase := if owes then .advance else .boundary } }

theorem abortSuspended_eq (st : St) (s : State) : abortSuspended st s =
    (fun u => releaseAndEnd st (modStation st (Station.unheld ((u.rolls[st].map.map fun m => isMarked m m.gate).getD false)) u))
      (if s.stations[st].susp.phase = .shotWait then (markGateSpoiled st .aborted s).2 else s) := rfl

theorem spoilFrame_spec (st : St) (reason : SpoilReason) (r : FrameRec) (s : State) :
    OnlyChanges [.orders, .accounts, .composer] s (spoilFrame st reason r s) ∧ (NoLabelWait s → NoLabelWait (spoilFrame st reason r s))
      ∧ OrdersKept s (spoilFrame st reason r s) := by
  have hhold := releaseHold_onlyChanges r s
  have hslot := setSlot_onlyChanges r.slot (.composed (.frame st r.number) (voidLabel reason r)) (releaseHold r s)
  have hreport := reportOrder_onlyChanges r.order (fun o => { o with spoiled := satAdd o.spoiled 1 })
    (setSlot r.slot (.composed (.frame st r.number) (voidLabel reason r)) (releaseHold r s))
  refine ⟨((hhold.widen).andThen hslot).andThen hreport, fun h => ?_, ?_⟩
  · have hquiet : NoLabelWait (releaseHold r s) := h.congr (hhold .composer (by decide))
    exact NoLabelWait.congr (s := setSlot r.slot (.composed (.frame st r.number) (voidLabel reason r)) (releaseHold r s)) hquiet
      (hreport .composer (by decide))
  · exact (OrdersKept.of_same ((hslot .orders (by decide)).trans (hhold .orders (by decide)))).trans
      (ordersKept_reportOrder (f := fun o => { o with spoiled := satAdd o.spoiled 1 }) (fun _ => ⟨rfl, rfl⟩) _ _)

theorem markSpoiled_of_marked {s : State} {st : St} {m : RollMap} {roll f : Nat} {r : FrameRec}
    (hm : openMap s st roll = some m) (hr : recordAt m f = some r) (hres : r.state ≠ .reserved) (reason : SpoilReason) :
    markSpoiled st roll f reason s = (.already, s) := by
  simp only [markSpoiled, hm, hr, if_neg hres]

section
variable {s : State} {st : St} {q : Request} {m : RollMap} (h : HoldsFrames s st q m) {gate : FrameRec}
  (hg : recordAt m m.gate = some gate)
include h hg

theorem HoldsFrames.markGateSpoiled_reserved (hres : gate.state = .reserved) (reason : SpoilReason) : markGateSpoiled st reason s =
    (.marked, countSpoiled st (spoilFrame st reason gate (modMap st (·.marked m.gate (.spoiled reason)) s))) := by
  rw [markGateSpoiled, h.headRoll, h.gateOf, markSpoiled_of_reserved h.openMap hg hres, setFrameState_eq]

theorem HoldsFrames.markGateSpoiled_marked (hres : gate.state ≠ .reserved) (reason : SpoilReason) :
    markGateSpoiled st reason s = (.already, s) := by
  rw [markGateSpoiled, h.headRoll, h.gateOf, markSpoiled_of_marked h.openMap hg hres]

/-- What the first act of the abort of a SUSPENDED request leaves: a RESERVED gate frame in SHOT_WAIT is spoiled, any other stands
(R194). -/
theorem abortGate {spoils : Bool} (hs : spoils = decide (s.stations[st].susp.phase = .shotWait ∧ gate.state = .reserved)) :
    ∃ t, (if s.stations[st].susp.phase = .shotWait then (markGateSpoiled st .aborted s).2 else s) = t
      ∧ OnlyChanges [.stations, .rolls, .orders, .accounts, .composer] s t ∧ (NoLabelWait s → NoLabelWait t) ∧ OrdersKept s t
      ∧ t.stations = upd s.stations st (fun x => { x with queue := x.queue.modifyHead (Request.countedIf spoils) })
      ∧ t.rolls = upd s.rolls st fun r => { r with map := some (m.abortedIf spoils) } := by
  have hstands : spoils = false → OnlyChanges [.stations, .rolls, .orders, .accounts, .composer] s s ∧ (NoLabelWait s → NoLabelWait s)
      ∧ OrdersKept s s ∧ s.stations = upd s.stations st (fun x => { x with queue := x.queue.modifyHead (Request.countedIf spoils) })
      ∧ s.rolls = upd s.rolls st fun r => { r with map := some (m.abortedIf spoils) } := by
    rintro rfl
    refine ⟨.refl _ s, id, .of_same rfl, (upd_same _ _ _ ?_).symm, (upd_same _ _ _ ?_).symm⟩
    · rw [show Request.countedIf false = id from rfl, List.modifyHead_id]
      rfl
    · rw [show m.abortedIf false = m from rfl, ← h.map]
  by_cases hphase : s.stations[st].susp.phase = .shotWait
  · rw [if_pos hphase]
    by_cases hres : gate.state = .reserved
    · have hspoils : spoils = true := by rw [hs]; exact decide_eq_true ⟨hphase, hres⟩
      subst hspoils
      obtain ⟨honly, hlabels, horders⟩ := spoilFrame_spec st .aborted gate (modMap st (·.marked m.gate (.spoiled .aborted)) s)
      have hmap := modMap_onlyChanges st (·.marked m.gate (.spoiled .aborted)) s
      have hcount := modHead_onlyChanges st (fun q => { q with spoiled := q.spoiled + 1 })
        (spoilFrame st .aborted gate (modMap st (·.marked m.gate (.spoiled .aborted)) s))
      refine ⟨_, congrArg Prod.snd (h.markGateSpoiled_reserved hg hres .aborted), ((hmap.widen).andThen honly).andThen hcount, fun hl => ?_,
        ?_, ?_, ?_⟩
      · exact (hlabels (hl.congr (hmap .composer (by decide)))).congr (hcount .composer (by decide))
      · exact ((OrdersKept.of_same (hmap .orders (by decide))).trans horders).trans (.of_same (hcount .orders (by decide)))
      · show (modHead st _ _).stations = _
        rw [modHead_stations, honly .stations (by decide), hmap .stations (by decide)]
        rfl
      · rw [show (countSpoiled st _).rolls = _ from hcount .rolls (by decide), honly .rolls (by decide), modMap_rolls, upd, upd, h.map]
        rfl
    · have hspoils : spoils = false := by rw [hs]; exact decide_eq_false fun h => hres h.2
      exact ⟨s, congrArg Prod.snd (h.markGateSpoiled_marked hg hres .aborted), hstands hspoils⟩
  · rw [if_neg hphase]
    have hspoils : spoils = false := by rw [hs]; exact decide_eq_false fun h => hphase h.1
    exact ⟨s, rfl, hstands hspoils⟩

end

theorem recordAt_marked (m : RollMap) (f : Nat) (x : FrameState) :
    recordAt (m.marked f x) f = (recordAt m f).map fun r => { r with state := x } := by
  rw [recordAt, RollMap.marked, List.find?_map]
  have hsame : ((fun r : FrameRec => r.number == f) ∘ fun r => if r.number = f then { r with state := x } else r) =
      fun r => r.number == f := by
    funext r
    show ((if r.number = f then { r with state := x } else r : FrameRec).number == f) = _
    split <;> rfl
  rw [hsame]
  cases hr : recordAt m f with
  | none =>
    rw [recordAt] at hr
    rw [hr]; rfl
  | some r =>
    have hnumber := (recordAt_mem hr).2
    rw [recordAt] at hr
    rw [hr, Option.map_some, Option.map_some, if_pos hnumber]

theorem recordAt_released {m : RollMap} {f start : Nat} (h : f < start) : recordAt (m.released start) f = recordAt m f := by
  rw [recordAt, RollMap.released, List.find?_filter, recordAt]
  congr 1
  funext r
  by_cases hr : r.number = f
  · simp [hr, h]
  · simp [hr]

section
variable {m : RollMap} {gate : FrameRec} {spoils marked : Bool}

theorem abortedIf_isMarked (hg : recordAt m m.gate = some gate)
    (hmarked : marked = (spoils || decide (gate.state ≠ .reserved))) : isMarked (m.abortedIf spoils) m.gate = marked := by
  cases spoils with
  | false =>
    rw [show m.abortedIf false = m from rfl, isMarked_of_record hg, hmarked, Bool.false_or]
    exact Bool.eq_iff_iff.mpr (bne_iff_ne.trans (decide_eq_true_iff).symm)
  | true =>
    have hr : recordAt (m.abortedIf true) m.gate = some { gate with state := .spoiled .aborted } := by
      rw [show m.abortedIf true = m.marked m.gate (.spoiled .aborted) from rfl, recordAt_marked, hg, Option.map_some]
    rw [isMarked_of_record hr, hmarked]
    rfl

theorem abortedIf_kept (m : RollMap) (spoils : Bool) : (m.abortedIf spoils).roll = m.roll ∧ (m.abortedIf spoils).stock = m.stock
    ∧ (m.abortedIf spoils).gate = m.gate ∧ (m.abortedIf spoils).header = m.header ∧ (m.abortedIf spoils).closing = m.closing
    ∧ (m.abortedIf spoils).frames.map (·.number) = m.frames.map (·.number) := by
  cases spoils with
  | false => exact ⟨rfl, rfl, rfl, rfl, rfl, rfl⟩
  | true =>
    refine ⟨rfl, rfl, rfl, rfl, rfl, ?_⟩
    show (m.frames.map fun r => if r.number = m.gate then { r with state := .spoiled .aborted } else r).map _ = _
    rw [List.map_map]
    refine List.map_congr_left fun r _ => ?_
    show (if r.number = m.gate then { r with state := FrameState.spoiled .aborted } else r).number = _
    split <;> rfl

end

theorem released_numbers (m : RollMap) (start : Nat) :
    (m.released start).frames.map (·.number) = (m.frames.map (·.number)).filter fun n => decide (n < start) := by
  rw [List.filter_map]; rfl

theorem released_next {m : RollMap} {start : Nat} (h : ∃ n ∈ m.frames.map (·.number), start ≤ n) : (m.released start).next = start := by
  obtain ⟨n, hn, hle⟩ := h
  obtain ⟨r, hr, rfl⟩ := List.mem_map.mp hn
  exact if_pos (List.any_eq_true.mpr ⟨r, hr, decide_eq_true hle⟩)

/-- The state in which the release of an aborted SUSPENDED request begins: its marker set, its gate frame spoiled when it has to be,
and no request held (R194). -/
structure AbortStands (st : St) (q : Request) (m : RollMap) (spoils marked : Bool) (s u : State) : Prop where
  only : OnlyChanges [.stations, .rolls, .orders, .accounts, .composer] s u
  labels : NoLabelWait s → NoLabelWait u
  orders : OrdersKept s u
  others : OthersSame st s.stations u.stations
  station : u.stations[st] = Station.unheld marked { s.stations[st] with
    queue := Request.countedIf spoils { q with abort := true } :: s.stations[st].queue.tail }
  rolls : u.rolls = upd s.rolls st fun r => { r with map := some (m.abortedIf spoils) }

theorem applyAbort_stands {s : State} {st : St} {q : Request} {m : RollMap} (hstate : s.stations[st].state = .suspended)
    (h : HoldsFrames s st q m) {gate : FrameRec} (hg : recordAt m m.gate = some gate) {spoils marked : Bool}
    (hs : spoils = decide (s.stations[st].susp.phase = .shotWait ∧ gate.state = .reserved))
    (hmarked : marked = (spoils || decide (gate.state ≠ .reserved))) :
    ∃ u, AbortStands st q m spoils marked s u ∧ applyAbort st s = releaseAndEnd st u := by
  have hmark := modHead_onlyChanges st (fun q => { q with abort := true }) s
  have hqueue : s.stations[st].queue = q :: s.stations[st].queue.tail := by
    have hq : s.stations[st].queue.head? = some q := h.head
    obtain ⟨l, hl⟩ := List.head?_eq_some_iff.mp hq
    rw [hl]
    rfl
  have hholds : HoldsFrames (abortMarked st s) st { q with abort := true } m :=
    ⟨headOf_modHead h.head _, h.frames, h.map, h.open_⟩
  obtain ⟨t, ht, honly, hlabels, horders, hstations, hrolls⟩ := abortGate hholds hg (spoils := spoils) (by
    rw [abortMarked_station]; exact hs)
  have howes : (t.rolls[st].map.map fun m => isMarked m m.gate).getD false = marked := by
    rw [hrolls, upd_self, Option.map_some, Option.getD_some, (abortedIf_kept m spoils).2.2.1]
    exact abortedIf_isMarked hg hmarked
  have hlast := modStation_onlyChanges st (Station.unheld marked) t
  refine ⟨modStation st (Station.unheld marked) t, ⟨((hmark.widen).andThen honly).andThen hlast, fun hl => ?_, ?_, ?_, ?_, ?_⟩, ?_⟩
  · exact (hlabels (hl.congr (hmark .composer (by decide)))).congr (hlast .composer (by decide))
  · exact ((OrdersKept.of_same (hmark .orders (by decide))).trans horders).trans (.of_same (hlast .orders (by decide)))
  · have hothers : OthersSame st (abortMarked st s).stations t.stations := by rw [hstations]; exact othersSame_upd _ _ _
    have hfirst : OthersSame st s.stations (abortMarked st s).stations := othersSame_upd _ _ _
    exact (hfirst.trans hothers).trans (othersSame_upd _ _ _)
  · rw [modStation_self, hstations, upd_self, abortMarked_station, hqueue]
    rfl
  · show t.rolls = _
    rw [hrolls]
    rfl
  · rw [applyAbort_suspended hstate, abortSuspended_eq, ht]
    show releaseAndEnd st (modStation st (Station.unheld _) t) = _
    rw [howes]

theorem AbortStands.holds {st : St} {q : Request} {m : RollMap} {spoils marked : Bool} {s u : State}
    (h : AbortStands st q m spoils marked s u) (hq : ∃ r, q.frames = some r ∧ r.roll = m.roll) (hc : m.closing = none) :
    HoldsFrames u st (Request.countedIf spoils { q with abort := true }) (m.abortedIf spoils) := by
  obtain ⟨hroll, -, -, -, hclosing, -⟩ := abortedIf_kept m spoils
  refine ⟨by rw [headOf, h.station]; rfl, ?_, by rw [h.rolls, upd_self], hclosing.trans hc⟩
  rw [hroll]
  cases spoils <;> exact hq

/-- The event of an aborted SUSPENDED request (R83, R194). -/
theorem aborted_doneEvent {q : Request} {r : Reserved} (hr : q.frames = some r) (spoils : Bool) :
    (Request.countedIf spoils { q with abort := true }).doneEvent .aborted =
      .requestDone q.order q.original r.first r.count q.exposed (if spoils then q.spoiled + 1 else q.spoiled) .aborted := by
  cases spoils <;> simp [Request.countedIf, Request.doneEvent, hr]

theorem dequeue_of_suspended {x : Station} (h : x.state = .suspended) :
    x.dequeue = { x with queue := x.queue.tail, pendingPost := none, leftUp := false } := by rw [Station.dequeue, if_pos h]

/-- A station that stays SUSPENDED with the same step, post, release owed and map is as much at rest as before (R186). -/
theorem atRest_suspended {s t : State} {st : St} (h : AtRest s st) (hs : s.stations[st].state = .suspended)
    (ht : t.stations[st].state = .suspended) (hpost : t.stations[st].pendingPost = s.stations[st].pendingPost)
    (howed : t.stations[st].susp.releaseOwed = s.stations[st].susp.releaseOwed)
    (hstep : t.stations[st].susp.step = s.stations[st].susp.step) (hclose : closeUnderWay t st = closeUnderWay s st)
    (hmap : t.rolls[st].map.isSome = s.rolls[st].map.isSome) (hup : bothUp t st = bothUp s st) : AtRest t st := by
  rw [atRest_iff] at h ⊢
  rw [hpost, howed, hstep, hclose, hmap, hup]
  exact ⟨fun _ => h.1 hs, fun hr => nomatch ht.symm.trans hr⟩

section
variable {s : State} {f : LinkFrame} {st : St} {q : Request} {r : Reserved} {m : RollMap} {i : Fin 16} {o : Order} {gate : FrameRec}

/-- What R194 asks of a SUSPENDED station and its head request. -/
structure AbortsSuspended (s : State) (f : LinkFrame) (st : St) (q : Request) (r : Reserved) (m : RollMap) (i : Fin 16) (o : Order)
    (gate : FrameRec) : Prop where
  hands : Hands s f 0x26 [u8 (st.val + 1), 0x03]
  steady : Steady s
  state : s.stations[st].state = .suspended
  rollEnd : s.stations[st].rollEnd = false
  post : s.stations[st].pendingPost = none
  head : headOf s st = some q
  qstate : q.state = .suspended
  abort : q.abort = false
  outcome : q.outcome = none
  frames : q.frames = some r
  roll : r.roll = m.roll
  map : s.rolls[st].map = some m
  closing : m.closing = none
  gate : recordAt m m.gate = some gate
  labels : NoLabelWait s
  order : OrderAt s i o
  number : o.terms.number = q.order
  open_ : o.closing = false

theorem AbortsSuspended.abortable (h : AbortsSuspended s f st q r m i o gate) : abortable s st = true :=
  abortable_iff.mpr ⟨q, h.head, .inr h.qstate, h.abort, h.outcome⟩

/-- The answer leaves the station, its head request and its map as they were. -/
theorem AbortsSuspended.holds (h : AbortsSuspended s f st q r m i o gate) : HoldsFrames (answerHand f .done [] s) st q m := by
  have hkept := answerHand_onlyChanges f .done [] s
  have hstations : (answerHand f .done [] s).stations = s.stations := hkept .stations (by decide)
  have hrolls : (answerHand f .done [] s).rolls = s.rolls := hkept .rolls (by decide)
  exact ⟨(headOf_congr (by rw [hstations])).trans h.head, ⟨r, h.frames, h.roll⟩, by rw [hrolls]; exact h.map, h.closing⟩

/-- With room for the REQUEST_DONE the request ends at once (R194). -/
theorem AbortsSuspended.ends (h : AbortsSuspended s f st q r m i o gate) (hroom : Room s 1) (hres : 1 ≤ s.eq.reserved)
    (spoils marked : Bool) (hs : spoils = decide (s.stations[st].susp.phase = .shotWait ∧ gate.state = .reserved))
    (hmarked : marked = (spoils || decide (gate.state ≠ .reserved))) :
    Completes (exec .abort s) fun t =>
      OnlyChanges [.port, .inHand, .eventQueue, .stations, .rolls, .orders, .accounts, .composer, .devices] s t
        ∧ OthersSame st s.stations t.stations ∧ OthersSame st s.rolls t.rolls
        ∧ Answered s t f .done [] [.event q.tag (.requestDone q.order q.original r.first r.count q.exposed
            (if spoils then q.spoiled + 1 else q.spoiled) .aborted)]
        ∧ t.stations[st] = { s.stations[st] with
            queue := s.stations[st].queue.tail, leftUp := false
            susp := { s.stations[st].susp with
              requestHeld := false, phase := if marked then .advance else .boundary } }
        ∧ t.rolls[st].map.map (fun m' => (m'.roll, m'.stock, m'.gate, m'.header, m'.closing))
          = some (m.roll, m.stock, m.gate, m.header, m.closing)
        ∧ ∃ m', t.rolls[st].map = some m' ∧ m'.frames.map (·.number)
            = (m.frames.map (·.number)).filter (fun n => decide (n < if marked then m.gate + 1 else m.gate))
          ∧ (spoils = true → isMarked m' m.gate = true)
          ∧ ((∃ x ∈ m.frames, (if marked then m.gate + 1 else m.gate) ≤ x.number) →
              m'.next = if marked then m.gate + 1 else m.gate) := by
  obtain ⟨hl, hset, hbusy⟩ := h.steady
  refine abort_done h.hands h.abortable ?_
  have hkept := answerHand_onlyChanges f .done [] s
  have hstations : (answerHand f .done [] s).stations = s.stations := hkept .stations (by decide)
  have hrolls : (answerHand f .done [] s).rolls = s.rolls := hkept .rolls (by decide)
  have hring : (answerHand f .done [] s).ring = s.ring := hkept .ring (by decide)
  obtain ⟨u, hu, happly⟩ := applyAbort_stands (s := answerHand f .done [] s) (by rw [hstations]; exact h.state) h.holds h.gate
    (spoils := spoils) (by rw [hstations]; exact hs) hmarked
  obtain ⟨p, hp, hterms, hclosing⟩ := hu.orders i o (h.order.congr (hkept .orders (by decide)))
  have hlabels : NoLabelWait u := hu.labels (h.labels.congr (hkept .composer (by decide)))
  have huroom : Room u 1 := (answerHand_room hroom hres f .done []).congr (hu.only .eventQueue (by decide))
  have hnumber : p.terms.number = (Request.countedIf spoils { q with abort := true }).order := by
    rw [hterms, h.number]
    cases spoils <;> rfl
  obtain ⟨t, hends, hgoes⟩ := releaseAndEnd_goes (hu.holds ⟨r, h.frames, h.roll⟩ h.closing) hlabels hp hnumber
    (hclosing.trans h.open_) huroom
  have hustate : u.stations[st].state = .suspended := by rw [hu.station, hstations]; exact h.state
  have htstation : t.stations[st] = { s.stations[st] with
      queue := s.stations[st].queue.tail, leftUp := false
      susp := { s.stations[st].susp with requestHeld := false, phase := if marked then .advance else .boundary } } := by
    rw [hends.stations, upd_self, dequeue_of_suspended hustate, hu.station, hstations, ← h.post]
    rfl
  obtain ⟨hroll, hstock, hgate, hheader, hclose, hnumbers⟩ := abortedIf_kept m spoils
  have hstart : releaseStart (m.abortedIf spoils) (m.abortedIf spoils).gate = if marked then m.gate + 1 else m.gate := by
    rw [releaseStart, hgate, abortedIf_isMarked h.gate hmarked]
  have htmap : t.rolls[st].map = some ((m.abortedIf spoils).released (if marked then m.gate + 1 else m.gate)) := by
    rw [hends.rolls, upd_self, hstart]
  have hall := ((hkept.widen (ps := [.port, .inHand, .eventQueue, .stations, .rolls, .orders, .accounts, .composer,
    .devices])).andThen hu.only).andThen hends.only
  have htothers : OthersSame st s.stations t.stations := by
    have hlast : OthersSame st u.stations t.stations := by rw [hends.stations]; exact othersSame_upd _ _ _
    rw [← hstations]
    exact hu.others.trans hlast
  have htrolls : OthersSame st s.rolls t.rolls := by
    rw [hends.rolls, hu.rolls, ← hrolls]
    exact (othersSame_upd _ _ _).trans (othersSame_upd _ _ _)
  have htdevices : DevicesKept s.devices t.devices := by
    rw [← (hu.only .devices (by decide)).trans (hkept .devices (by decide))]
    exact hends.devices
  have hafter : afterRequest st u.stations[st].leftUp t = t :=
    afterRequest_suspended (by rw [htstation]; exact h.rollEnd) htmap (by rw [htstation]; exact h.state) _
  have hfinish : finish t = t := by
    refine finish_of_busy (settled_of_others (st := st) hset htothers htrolls (hall .bindings (by decide)) htdevices ?_)
      (hbusy.congr (hall .ring (by decide)))
    refine atRest_suspended (hset st) h.state (by rw [htstation]; exact h.state) (by rw [htstation]) (by rw [htstation])
      (by rw [htstation]) ?_ (by rw [htmap, h.map]; rfl) (bothUp_kept (by rw [hall .bindings (by decide)]) htdevices)
    rw [closeUnderWay_of_map htmap, closeUnderWay_of_map h.map]
    exact congrArg Option.isSome hclose
  rw [happly, hgoes, hafter, hfinish]
  refine ⟨hall, htothers, htrolls, ?_, htstation, ?_, _, htmap, ?_, fun hspoils => ?_, fun hexists => ?_⟩
  · have hposted := hends.posted (answerHand_answered f .done [] s) (hu.only .port (by decide)) (hu.only .inHand (by decide))
      (hu.only .eventQueue (by decide))
    rw [aborted_doneEvent h.frames] at hposted
    have htag : (Request.countedIf spoils { q with abort := true }).tag = q.tag := by cases spoils <;> rfl
    rw [htag] at hposted
    exact hposted
  · rw [htmap, Option.map_some]
    show some ((m.abortedIf spoils).roll, (m.abortedIf spoils).stock, (m.abortedIf spoils).gate, (m.abortedIf spoils).header,
      (m.abortedIf spoils).closing) = _
    rw [hroll, hstock, hgate, hheader, hclose]
  · rw [released_numbers, hnumbers]
  · have hmark : marked = true := by rw [hmarked, hspoils, Bool.true_or]
    have hlt : m.gate < if marked then m.gate + 1 else m.gate := by rw [if_pos hmark]; exact Nat.lt_succ_self _
    rw [isMarked, recordAt_released hlt, ← isMarked, abortedIf_isMarked h.gate hmarked, hmark]
  · refine released_next ?_
    obtain ⟨x, hx, hle⟩ := hexists
    rw [hnumbers]
    exact ⟨x.number, List.mem_map_of_mem hx, hle⟩

end

/-! ### The REQUEST_DONE that finds no room (R84) -/

/-- The station's own entry after a failed step of its resume (R183). -/
def Station.stepFailed (owed : Bool) (x : Station) : Station :=
  { x.quiet with susp := { x.susp with
      step := .awaiting, phase := x.susp.failedPhase, releaseOwed := x.susp.releaseOwed || owed } }

/-- The state after a failed step: the ask withdrawn, the transaction left to itself (R183). -/
def stepFailed (st : St) (owed : Bool) (s : State) : State :=
  { s with
      stations := upd s.stations st (Station.stepFailed owed)
      ring := { s.ring with asks := s.ring.asks.set st.val none st.isLt, engine := detachFrom (.station st) s.ring.engine } }

theorem failStep_eq (st : St) (owed : Bool) (s : State) : failStep st owed s = stepFailed st owed s := rfl

/-- A station whose head request has ended and whose REQUEST_DONE waits (R84). -/
def Station.posting (e : Event) (x : RequestOutcome) (y : Station) : Station :=
  { y with queue := y.queue.modifyHead (fun q => { q with outcome := some x }), pendingPost := some e }

/-- A SUSPENDED station's request has ended and its REQUEST_DONE waits for a place; its check is given up (R84, R194). -/
theorem endRequest_waits {s : State} {st : St} {q : Request} (hq : headOf s st = some q) (hf : freePlaces s.eq = 0)
    (hs : s.stations[st].state = .suspended) (x : RequestOutcome) : endRequest st x s =
      { stepFailed st false (modStation st (Station.posting (q.doneEvent x) x) s) with
        eq := { s.eq with waiters := s.eq.waiters ++ [.requestDone st] } } := by
  obtain ⟨u, hu⟩ : ∃ u, u = modStation st (Station.posting (q.doneEvent x) x) s := ⟨_, rfl⟩
  have hmods : modStation st (fun y => { y with pendingPost := some (q.doneEvent x) })
      (modHead st (fun q => { q with outcome := some x }) s) = u := by
    rw [hu, modHead, modStation_modStation]
    rfl
  have hustate : u.stations[st].state = .suspended := by rw [hu, modStation_self]; exact hs
  have hueq : u.eq = s.eq := by rw [hu]; rfl
  have hgive : giveUpCheck st u = stepFailed st false u := by rw [giveUpCheck, if_pos hustate, failStep_eq]
  simp only [endRequest, hq, not_canPost_of_full hf, Bool.false_eq_true, if_false]
  rw [hmods, hgive, addWaiter_of_full (s := stepFailed st false u) (by exact hueq ▸ hf), ← hu, ← hueq]
  rfl

section
variable {s : State} {f : LinkFrame} {st : St} {q : Request} {r : Reserved} {m : RollMap} {i : Fin 16} {o : Order} {gate : FrameRec}

/-- With no room the post waits, and the station stands in AWAITING (R84, R194). -/
theorem AbortsSuspended.waits (h : AbortsSuspended s f st q r m i o gate)
    (hfull : s.eq.records.length + s.eq.reserved + s.eq.given.length = 16) (hres : 1 ≤ s.eq.reserved) :
    Completes (exec .abort s) fun t =>
      t.stations[st].state = .suspended ∧ t.stations[st].pendingPost.isSome = true
        ∧ t.stations[st].susp.requestHeld = false ∧ t.stations[st].susp.step = .awaiting
        ∧ t.stations[st].susp.releaseOwed = s.stations[st].susp.releaseOwed
        ∧ t.stations[st].susp.notedShot = s.stations[st].susp.notedShot
        ∧ (headOf t st).map (·.outcome) = some (some .aborted) ∧ t.ring.asks[st] = none
        ∧ t.eq.records = s.eq.records ++ [.result f.tag .done []]
        ∧ t.eq.waiters = s.eq.waiters ++ [.requestDone st] := by
  obtain ⟨hl, hset, hbusy⟩ := h.steady
  refine abort_done h.hands h.abortable ?_
  have hkept := answerHand_onlyChanges f .done [] s
  have hstations : (answerHand f .done [] s).stations = s.stations := hkept .stations (by decide)
  have hrolls : (answerHand f .done [] s).rolls = s.rolls := hkept .rolls (by decide)
  have hring : (answerHand f .done [] s).ring = s.ring := hkept .ring (by decide)
  obtain ⟨spoils, hspoils⟩ : ∃ b, b = decide ((answerHand f .done [] s).stations[st].susp.phase = .shotWait
    ∧ gate.state = .reserved) := ⟨_, rfl⟩
  obtain ⟨marked, hmarked⟩ : ∃ b, b = (spoils || decide (gate.state ≠ .reserved)) := ⟨_, rfl⟩
  obtain ⟨u, hu, happly⟩ := applyAbort_stands (s := answerHand f .done [] s) (by rw [hstations]; exact h.state) h.holds h.gate
    hspoils hmarked
  have hholds := hu.holds ⟨r, h.frames, h.roll⟩ h.closing
  have hreleased := releaseRun_released hholds.map (hu.labels (h.labels.congr (hkept .composer (by decide)))) (m.abortedIf spoils).gate
  have hgoes := releaseAndEnd_eq hholds
  obtain ⟨w, hw⟩ : ∃ w, w = releaseRun st (m.abortedIf spoils) (m.abortedIf spoils).gate u := ⟨_, rfl⟩
  rw [← hw] at hreleased hgoes
  have hall := (((hkept.widen (ps := [.port, .inHand, .eventQueue, .stations, .rolls, .orders, .accounts, .composer])).andThen
    hu.only).andThen hreleased.only)
  have hwstations : w.stations = u.stations := hreleased.only .stations (by decide)
  have hweq : w.eq = (answerHand f .done [] s).eq :=
    (hreleased.only .eventQueue (by decide)).trans (hu.only .eventQueue (by decide))
  have hwfull : freePlaces w.eq = 0 := by rw [hweq]; exact answerHand_full hfull hres f .done []
  have hwhead := (headOf_congr (s := u) (st := st) (by rw [hwstations])).trans hholds.head
  have hwstation : w.stations[st] = Station.unheld marked { s.stations[st] with
      queue := Request.countedIf spoils { q with abort := true } :: s.stations[st].queue.tail } := by
    rw [hwstations, hu.station, hstations]
  have hwaits := endRequest_waits hwhead hwfull (by rw [hwstation]; exact h.state) .aborted
  obtain ⟨t, ht⟩ : ∃ t, t = endRequest st .aborted w := ⟨_, rfl⟩
  rw [← ht] at hgoes hwaits
  have htstation : t.stations[st] = Station.stepFailed false (Station.posting
      ((Request.countedIf spoils { q with abort := true }).doneEvent .aborted) .aborted w.stations[st]) := by
    rw [hwaits]
    show (upd (upd w.stations st _) st _)[st] = _
    rw [upd_self, upd_self]
  have htothers : OthersSame st s.stations t.stations := by
    have hfirst : OthersSame st s.stations w.stations := by rw [hwstations, ← hstations]; exact hu.others
    rw [hwaits]
    exact (hfirst.trans (othersSame_upd _ _ _)).trans (othersSame_upd _ _ _)
  have htrolls : OthersSame st s.rolls t.rolls := by
    rw [show t.rolls = w.rolls by rw [hwaits]; rfl, hreleased.rolls, hu.rolls, ← hrolls]
    exact (othersSame_upd _ _ _).trans (othersSame_upd _ _ _)
  have hfinish : finish t = t := by
    refine finish_of_busy (settled_of_others (st := st) hset htothers htrolls ?_ ?_ ?_) ?_
    · rw [show t.bindings = w.bindings by rw [hwaits]; rfl, hall .bindings (by decide)]
    · rw [show t.devices = w.devices by rw [hwaits]; rfl, hall .devices (by decide)]
      exact .refl _
    · exact atRest_of_post (by rw [htstation]; rfl)
    · have hengine : t.ring.engine = detachFrom (.station st) w.ring.engine := by rw [hwaits]; rfl
      show t.ring.engine.isSome = true
      rw [hengine, detachFrom, Option.isSome_map, hall .ring (by decide)]
      exact hbusy
  rw [happly, hgoes, hfinish]
  have hteq : t.eq = { w.eq with waiters := w.eq.waiters ++ [.requestDone st] } := by rw [hwaits]
  obtain ⟨p, hp, -⟩ := answerHand_eq f .done [] s
  rw [headOf, htstation, hwstation, hteq, hweq, hp]
  refine ⟨h.state, rfl, rfl, rfl, Bool.or_false _, rfl, rfl, ?_, rfl, rfl⟩
  rw [hwaits]
  exact set_self _ _ _

end

/-- Settles O28. -/
theorem abortRule : Obligations.AbortRule := by
  refine fun s f st hands => ⟨fun q m ph hs hrun hph => abort_afterShoot hs hands hrun hph, ?_, abort_refused hands⟩
  intro q r m i o gate hs hstate hend hpost _ hq hqstate habort hout hframes hroll hm hclose hgate hheader hwaiters ho hn hopen
  have h : AbortsSuspended s f st q r m i o gate := ⟨hands, hs, hstate, hend, hpost, hq, hqstate, habort, hout, hframes, hroll, hm,
    hclose, hgate, ⟨hheader, hwaiters⟩, ho, hn, hopen⟩
  exact ⟨fun hroom hres spoils marked => h.ends hroom hres spoils marked, fun _ hfull hres => h.waits hfull hres⟩

end Sys2Proof.Machine
end

section
/-! PROOFS. The stages of a lamp time (R43 to R52) and the ranges of R55. -/

namespace Sys2Proof.Machine

/-! ### Stages 1 to 3: level sum, saturation, split (R44, R45) -/

theorem clampInt_eq {lo hi : Int} (h : lo ≤ hi) (z : Int) : clampInt lo hi z = max lo (min hi z) := by
  unfold clampInt
  split
  · omega
  · split <;> omega

theorem levelSum_eq (index balance trim offset : Int) (inSet : Bool) :
    levelSum index balance trim offset inSet = index + balance + trim + if inSet then 4 * offset else 0 := by
  unfold levelSum
  cases inSet <;> simp

theorem level_split (level : Int) : level = 12 * stops level + twelfths level ∧ twelfths level ≤ 11 := by
  unfold stops twelfths
  omega

theorem stops_bounds {level : Int} (h : -144 ≤ level) (h' : level ≤ 144) : -12 ≤ stops level ∧ stops level ≤ 12 := by
  unfold stops
  omega

/-- The split is the only one with fewer than twelve twelfths (R45). -/
theorem split_unique {level q : Int} {r : Nat} (h : level = 12 * q + r) (hr : r ≤ 11) : stops level = q ∧ twelfths level = r := by
  unfold stops twelfths
  omega

/-! ### Stage 4: the scale (R46, R47) -/

theorem mantissa_bounds {r : Nat} (h : r ≤ 11) : 32768 ≤ mantissa r ∧ mantissa r ≤ 61858 := by
  revert h
  revert r
  decide

theorem scale_spec (tRef r : Nat) :
    32768 * scale tRef r ≤ tRef * mantissa r + 16384 ∧ tRef * mantissa r + 16384 < 32768 * (scale tRef r + 1) := by
  unfold scale
  omega

theorem scaled_bounds {tRef r : Nat} (h : 1 ≤ tRef) (h' : tRef ≤ 65535) (hr : r ≤ 11) :
    49152 ≤ tRef * mantissa r + 16384 ∧ tRef * mantissa r + 16384 ≤ 4053880414 := by
  obtain ⟨hlow, hhigh⟩ := mantissa_bounds hr
  have h1 : 1 * 32768 ≤ tRef * mantissa r := Nat.mul_le_mul h hlow
  have h2 : tRef * mantissa r ≤ 65535 * 61858 := Nat.mul_le_mul h' hhigh
  omega

theorem scale_bounds {tRef r : Nat} (h : 1 ≤ tRef) (h' : tRef ≤ 65535) (hr : r ≤ 11) : 1 ≤ scale tRef r ∧ scale tRef r ≤ 123714 := by
  have hscaled := scaled_bounds h h' hr
  unfold scale
  omega

theorem scale_zero (tRef : Nat) : scale tRef 0 = tRef := by
  show (tRef * 32768 + 16384) / 32768 = tRef
  omega

/-! ### Stage 5: the stop shift (R48) -/

theorem shifted_up {a : Nat} {q : Int} (h : 0 ≤ q) : shifted a q = a * 2 ^ q.toNat := if_pos h

theorem shifted_down {a n : Nat} (h : 1 ≤ n) : shifted a (-(n : Int)) = (a + 2 ^ (n - 1)) / 2 ^ n := by
  rw [shifted, if_neg (by omega), Int.neg_neg, Int.toNat_natCast]

theorem two_pow_pred {n : Nat} (h : 1 ≤ n) : 2 ^ n = 2 * 2 ^ (n - 1) := by
  obtain ⟨m, rfl⟩ := Nat.exists_eq_add_of_le' h
  rw [Nat.add_sub_cancel, Nat.pow_succ, Nat.mul_comm]

theorem shifted_down_le {a n : Nat} (h : 1 ≤ n) (ha : a ≤ 123714) : shifted a (-(n : Int)) ≤ 61857 := by
  have hpos : 1 ≤ 2 ^ (n - 1) := Nat.one_le_two_pow
  rw [shifted_down h, two_pow_pred h]
  refine Nat.le_of_lt_succ (Nat.div_lt_of_lt_mul ?_)
  omega

theorem shifted_up_bounds {a : Nat} {q : Int} (ha : 1 ≤ a) (ha' : a ≤ 123714) (hq : q ≤ 12) :
    1 ≤ a * 2 ^ q.toNat ∧ a * 2 ^ q.toNat ≤ 506732544 := by
  have hpow : 2 ^ q.toNat ≤ 2 ^ 12 := Nat.pow_le_pow_right (by decide) (by omega)
  have h1 : 1 * 1 ≤ a * 2 ^ q.toNat := Nat.mul_le_mul ha Nat.one_le_two_pow
  have h2 : a * 2 ^ q.toNat ≤ 123714 * 2 ^ 12 := Nat.mul_le_mul ha' hpow
  omega

theorem stopShift_down {a n : Nat} (h : 1 ≤ n) (ha : a ≤ 123714) :
    2 ^ n * stopShift a (-(n : Int)) ≤ a + 2 ^ (n - 1) ∧ a + 2 ^ (n - 1) < 2 ^ n * (stopShift a (-(n : Int)) + 1)
      ∧ stopShift a (-(n : Int)) ≤ 61857 := by
  have hle := shifted_down_le h ha
  have hsame : stopShift a (-(n : Int)) = shifted a (-(n : Int)) := Nat.min_eq_left (by omega)
  rw [hsame]
  refine ⟨?_, ?_, hle⟩
  · rw [shifted_down h]
    exact Nat.mul_div_le _ _
  · rw [shifted_down h]
    exact Nat.lt_mul_div_succ _ (Nat.two_pow_pos n)

/-! ### Stages 6 and 7: reciprocity and limits (R49, R50) -/

theorem reciprocity_below {b knee : Nat} (h : b ≤ knee) (slope : Nat) : reciprocity b knee slope = b := if_neg (Nat.not_lt.mpr h)

theorem reciprocity_above {b knee : Nat} (h : knee < b) (slope : Nat) :
    reciprocity b knee slope = knee + ((b - knee) * slope + 128) / 256 := if_pos h

section
variable {k : Stock} (hk : StockLegal k) {b : Nat} (hb : b ≤ 65535)
include hk

theorem correction_low : 256 * (b - k.knee) ≤ (b - k.knee) * k.slope := by
  obtain ⟨-, -, -, -, -, -, -, -, -, -, -, -, -, hslope, -⟩ := hk
  rw [Nat.mul_comm]
  exact Nat.mul_le_mul_left _ hslope

include hb

theorem correction_high : (b - k.knee) * k.slope ≤ (65535 - k.knee) * 1023 := by
  obtain ⟨-, -, -, -, -, -, -, -, -, -, -, -, -, -, hslope⟩ := hk
  exact Nat.mul_le_mul (Nat.sub_le_sub_right hb _) hslope

theorem reciprocity_le : b ≤ reciprocity b k.knee k.slope ∧ reciprocity b k.knee k.slope ≤ 261881 := by
  have hhigh := correction_high hk hb
  by_cases h : k.knee < b
  · have hlow := correction_low hk (b := b)
    obtain ⟨-, -, -, -, -, -, -, -, -, h1, hmin, -⟩ := hk
    rw [reciprocity_above h]
    omega
  · rw [reciprocity_below (Nat.not_lt.mp h)]
    omega

theorem reciprocity_above_bounds (h : k.knee < b) : k.knee + 1 ≤ reciprocity b k.knee k.slope
    ∧ 384 ≤ (b - k.knee) * k.slope + 128 ∧ (b - k.knee) * k.slope + 128 ≤ 67041410 ∧ k.tMin ≤ reciprocity b k.knee k.slope := by
  have hlow := correction_low hk (b := b)
  have hhigh := correction_high hk hb
  obtain ⟨-, -, -, -, -, -, -, -, -, h1, hmin, -⟩ := hk
  rw [reciprocity_above h]
  omega

end

theorem reciprocity_unit {b knee slope : Nat} (h : slope = 256) : reciprocity b knee slope = b := by
  unfold reciprocity
  split
  · rw [h]; omega
  · rfl

theorem limitTime_eq {c tMin tMax : Nat} (h : tMin ≤ tMax) : limitTime c tMin tMax = max tMin (min tMax c) := by
  unfold limitTime
  split
  · omega
  · split <;> omega

theorem StockLegal.limits {k : Stock} (h : StockLegal k) : 1 ≤ k.tMin ∧ k.tMin ≤ k.tMax ∧ k.tMax ≤ 65535 := by
  obtain ⟨-, -, -, -, -, -, -, -, -, h1, hknee, hmax, htop, -⟩ := h
  omega

theorem StockLegal.reference {k : Stock} (h : StockLegal k) : 1 ≤ k.tRef ∧ k.tRef ≤ 65535 := by
  obtain ⟨-, -, -, -, h1, h2, -⟩ := h
  exact ⟨h1, h2⟩

/-! ### A channel, a step and a shot limit (R43, R51, R52) -/

theorem mantissa_of_mem {r v : Nat} (h : (r, v) ∈ ([(0, 32768), (1, 34716), (2, 36781), (3, 38968), (4, 41285), (5, 43740),
    (6, 46341), (7, 49097), (8, 52016), (9, 55109), (10, 58386), (11, 61858)] : List (Nat × Nat))) : r ≤ 11 ∧ mantissa r = v := by
  have hall : ∀ p ∈ ([(0, 32768), (1, 34716), (2, 36781), (3, 38968), (4, 41285), (5, 43740), (6, 46341), (7, 49097), (8, 52016),
      (9, 55109), (10, 58386), (11, 61858)] : List (Nat × Nat)), p.1 ≤ 11 ∧ mantissa p.1 = p.2 := by decide
  exact hall (r, v) h

/-- The stop shift by a signed number of stops, as R48 writes it. -/
theorem shifted_eq (a : Nat) (q : Int) :
    shifted a q = if 0 ≤ q then a * 2 ^ q.toNat else (a + 2 ^ (q.natAbs - 1)) / 2 ^ q.natAbs := by
  unfold shifted
  split
  · rfl
  · next h =>
    have habs : (-q).toNat = q.natAbs := by omega
    rw [habs]

/-- A downward shift does not reach saturation (R48, R51). -/
theorem shifted_high {a : Nat} {q : Int} (ha : a ≤ 123714) : 65535 < shifted a q ↔ 0 ≤ q ∧ 65535 < shifted a q := by
  refine ⟨fun h => ⟨Decidable.byContradiction fun hq => ?_, h⟩, fun h => h.2⟩
  have hn : q = -(q.natAbs : Int) := by omega
  have hle := shifted_down_le (a := a) (n := q.natAbs) (by omega) ha
  rw [← hn] at hle
  omega

theorem channelTime_eq {k : Stock} (hk : StockLegal k) (balance index trim offset : Int) (inSet : Bool) (admission : Mark) {sum level q : Int}
    {r v a b c : Nat} (hsum : sum = index + balance + trim + (if inSet then 4 * offset else 0))
    (hlevel : level = max (-144) (min 144 sum)) (hsplit : level = 12 * q + r)
    (hr : (r, v) ∈ ([(0, 32768), (1, 34716), (2, 36781), (3, 38968), (4, 41285), (5, 43740), (6, 46341), (7, 49097), (8, 52016),
      (9, 55109), (10, 58386), (11, 61858)] : List (Nat × Nat))) (ha : a = (k.tRef * v + 16384) / 32768)
    (hb : b = if 0 ≤ q then a * 2 ^ q.toNat else (a + 2 ^ (q.natAbs - 1)) / 2 ^ q.natAbs)
    (hc : c = if k.knee < min b 65535 then k.knee + ((min b 65535 - k.knee) * k.slope + 128) / 256 else min b 65535) :
    channelTime k balance index trim offset inSet admission =
      (max k.tMin (min k.tMax c), ⟨admission.low || decide (sum < -144) || decide (c < k.tMin),
        admission.high || decide (144 < sum) || decide (0 ≤ q ∧ 65535 < b) || decide (k.tMax < c)⟩) := by
  obtain ⟨hr11, hmantissa⟩ := mantissa_of_mem hr
  have hlevel' : clampInt (-144) 144 (levelSum index balance trim offset inSet) = level := by
    rw [clampInt_eq (by decide), levelSum_eq, hlevel, hsum]
  have hsum' : levelSum index balance trim offset inSet = sum := by rw [levelSum_eq, hsum]
  obtain ⟨hstops, htwelfths⟩ := split_unique hsplit hr11
  have hscale : scale k.tRef (twelfths level) = a := by rw [htwelfths, scale, hmantissa, ha]
  have hshift : shifted a q = b := by rw [shifted_eq, hb]
  have hrec : reciprocity (min b 65535) k.knee k.slope = c := by rw [hc]; rfl
  have hlimit : limitTime c k.tMin k.tMax = max k.tMin (min k.tMax c) := limitTime_eq hk.limits.2.1
  have hale : a ≤ 123714 := by
    rw [← hscale]
    exact (scale_bounds hk.reference.1 hk.reference.2 (level_split level).2).2
  have hhigh : decide (65535 < b) = decide (0 ≤ q ∧ 65535 < b) := by
    rw [← hshift]
    exact decide_eq_decide.mpr (shifted_high hale)
  unfold channelTime
  dsimp only
  rw [hlevel', hsum', hscale, hstops, hshift, hrec, hlimit]
  simp only [Mark.join, cutMark, Bool.or_false, ← hhigh]

theorem channelTime_bounds {k : Stock} (hk : StockLegal k) (balance index trim offset : Int) (inSet : Bool) (admission : Mark) :
    k.tMin ≤ (channelTime k balance index trim offset inSet admission).1
      ∧ (channelTime k balance index trim offset inSet admission).1 ≤ k.tMax := by
  obtain ⟨-, hle, -⟩ := hk.limits
  unfold channelTime
  dsimp only
  rw [limitTime_eq hle]
  omega

/-- Settles O51. -/
theorem lampTimeStages : Obligations.LampTimeStages := by
  refine ⟨fun z => ?_, fun z => ?_, fun index balance trim offset inSet => ?_, fun level h h' => ?_, ?_, ?_, ?_, ?_⟩
  · rw [admitIndex, clampInt_eq (by decide)]; omega
  · rw [clampInt_eq (by decide)]; omega
  · intro h1 h2 h3 h4 h5 h6 h7 h8
    rw [levelSum_eq]
    split <;> omega
  · obtain ⟨hsplit, hr⟩ := level_split level
    obtain ⟨hlow, hhigh⟩ := stops_bounds h h'
    exact ⟨hsplit, hr, hlow, hhigh⟩
  · rintro k hk level h h' a b c ha rfl rfl
    have hr := (level_split level).2
    have href := hk.reference
    have hlimits := hk.limits
    have hbounds := scale_bounds href.1 href.2 hr
    rw [← ha] at hbounds
    have hb : stopShift a (stops level) ≤ 65535 := Nat.min_le_right _ _
    have hrec := reciprocity_le hk hb
    refine ⟨mantissa_bounds hr, scaled_bounds href.1 href.2 hr, ha ▸ scale_spec k.tRef (twelfths level), fun h0 => ?_, hbounds, fun hup => ?_,
      fun n hn h1 => ?_, hb, fun hle => reciprocity_below hle _, hrec.1, reciprocity_unit, fun hlt => ?_, hrec.2, ?_, ?_, ?_⟩
    · rw [ha, h0, scale_zero]
    · rw [stopShift, shifted_up hup]
      exact ⟨rfl, shifted_up_bounds hbounds.1 hbounds.2 (stops_bounds h h').2⟩
    · rw [hn]
      exact stopShift_down h1 hbounds.2
    · exact ⟨reciprocity_above hlt _, reciprocity_above_bounds hk hb hlt⟩
    · rw [limitTime_eq hlimits.2.1]; omega
    · rw [limitTime_eq hlimits.2.1]; omega
    · intro h1 h2
      rw [limitTime_eq hlimits.2.1]; omega
  · rintro k balance index trim offset sum level q inSet admission r v a b c time hk hsum hlevel hsplit hr ha hb hc rfl
    exact channelTime_eq hk balance index trim offset inSet admission hsum hlevel hsplit hr ha hb hc
  · rintro k trim index admission p hk x y z rfl rfl rfl
    have hlimits := hk.limits
    have hx := channelTime_bounds hk k.balance.r index.r trim.r p.offset p.channels.r admission.r
    have hy := channelTime_bounds hk k.balance.g index.g trim.g p.offset p.channels.g admission.g
    have hz := channelTime_bounds hk k.balance.b index.b trim.b p.offset p.channels.b admission.b
    exact ⟨rfl, by omega, by omega⟩
  · intro times hr hg hb
    unfold shotLimitMs
    omega

end Sys2Proof.Machine
end

section
/-! PROOFS. What the reply to a WAKE does (R141, R142): the entry that becomes UP, its station, its first report, and the
wakes that fail. -/

namespace Sys2Proof.Machine

/-! ### The reply is taken -/

theorem replied_of_notUp {s : State} {i : Fin 16} {d : Device} (hd : s.devices[i] = some d) (h : d.link ≠ .up) :
    modDevice i Device.replied s = s := by
  have hsame : upd s.devices i (Option.map Device.replied) = s.devices := by
    refine upd_same _ _ _ ?_
    rw [hd, Option.map_some, Device.replied, if_neg fun hc => h hc.1]
  rw [modDevice, hsame]

theorem kindAccepted_wake {t : Transaction} (h : t.purpose = .wake) (f : LinkFrame) : kindAccepted t f = wakeAccepted t.cls f := by
  unfold kindAccepted
  rw [h, if_neg (by decide), if_pos rfl]

theorem eq_code_of_ofCode {c : Byte} {k : DevClass} : DevClass.ofCode c = some k → c = k.code := by
  cases k <;> revert c <;> decide

section
variable {s : State} {t : Transaction} {d : Device} {f : LinkFrame} {wasLost : Bool} (ho : AnswersOpen s t d f)
  (hreq : t.requester = .idlePoller) (hp : t.purpose = .wake) (hlink : d.link = .waking wasLost)
include ho hreq hp hlink

theorem exec_of_wake_reply {c : Instr} (hk : wakeAccepted d.cls f = true) (hb : Brings c f) :
    exec c s = .next (finish (endGrant (takeWake t.entry f s))) := by
  obtain ⟨hl, -, -, hr, hd, hcls, ha⟩ := ho
  rw [exec_of_reply hl hr ha (by rw [kindAccepted_wake hp, hcls]; exact hk) hb, takeReply_wake hr hreq hp,
    replied_of_notUp hd.1 (by rw [hlink]; nofun)]

/-- A READY of the entry's class whose status parses (R141). -/
theorem exec_ready_up {status : List Byte} {x : Status} (hk : f.kind = 0x10) (hpay : f.payload = d.cls.code :: status)
    (hx : parseStatus d.cls status = some x) :
    exec (.readyReceived f.wire) s = .next (finish (endGrant (wakeUp t.entry d x s))) := by
  have hk' : f.kind = kindReady := hk
  have hacc : wakeAccepted d.cls f = true := (wakeAccepted_iff _ _).mpr (.inl ⟨hk, _, _, hpay, fun _ =>
    (parseStatus_isSome_iff _ _).mp (by rw [hx]; rfl)⟩)
  rw [exec_of_wake_reply ho hreq hp hlink hacc (.inl ⟨rfl, hk⟩)]
  obtain ⟨-, -, -, -, hd, -, -⟩ := ho
  simp only [takeWake, hd.1, if_pos hk', hpay, ofCode_code, if_true, hx]

/-- A READY of another class, whatever follows the class byte (R141). -/
theorem exec_ready_mismatch {c : Byte} {status : List Byte} (hk : f.kind = 0x10) (hpay : f.payload = c :: status)
    (hc : c ≠ d.cls.code) :
    exec (.readyReceived f.wire) s = .next (finish (endGrant (wakeMismatch t.entry d s))) := by
  have hk' : f.kind = kindReady := hk
  have hne : DevClass.ofCode c ≠ some d.cls := by
    exact fun h => hc (eq_code_of_ofCode h)
  have hacc : wakeAccepted d.cls f = true := (wakeAccepted_iff _ _).mpr (.inl ⟨hk, _, _, hpay, fun h => absurd h hne⟩)
  rw [exec_of_wake_reply ho hreq hp hlink hacc (.inl ⟨rfl, hk⟩)]
  obtain ⟨-, -, -, -, hd, -, -⟩ := ho
  simp only [takeWake, hd.1, if_pos hk', hpay, if_neg hne]

/-- Any other reply is a failed wake (R141). -/
theorem exec_wake_failed {c : Instr} (hk : wakeAccepted d.cls f = true) (hb : Brings c f) (hne : f.kind ≠ 0x10) :
    exec c s = .next (finish (endGrant (modDevice t.entry Device.failedWake s))) := by
  have hne' : f.kind ≠ kindReady := hne
  rw [exec_of_wake_reply ho hreq hp hlink hk hb]
  obtain ⟨-, -, -, -, hd, -, -⟩ := ho
  simp only [takeWake, hd.1, if_neg hne']

end

/-! ### The entry that becomes UP (R142, step 1) -/

theorem deviceIdx_modDevice {f : Device → Device} (hf : ∀ d, (f d).addr = d.addr) (i : Fin 16) (s : State) (a : Byte) :
    deviceIdx (modDevice i f s) a = deviceIdx s a := by
  unfold deviceIdx
  congr 1
  funext j
  rw [modDevice_devices, upd_get]
  by_cases hj : j = i
  · rw [if_pos hj]
    cases s.devices[j] with
    | none => rfl
    | some d => simp only [Option.map_some, hf]
  · rw [if_neg hj]

/-- An entry becomes UP, and no other entry changes. -/
def wokenAt (i : Fin 16) (s : State) : State := modDevice i Device.wokenUp s

section
variable {s : State} {i : Fin 16} {d : Device} (hd : DeviceAt s i d)

theorem deviceIdx_wokenAt (i : Fin 16) (s : State) (a : Byte) : deviceIdx (wokenAt i s) a = deviceIdx s a :=
  deviceIdx_modDevice (f := Device.wokenUp) (fun _ => rfl) i s a

theorem wokenAt_onlyChanges (i : Fin 16) (s : State) : OnlyChanges [.devices] s (wokenAt i s) := modDevice_onlyChanges i _ s

include hd

theorem wokenAt_eq : wokenAt i s = { s with devices := s.devices.set i.val (some d.wokenUp) i.isLt } := modDevice_set hd.1 _

theorem wokenAt_self : (wokenAt i s).devices[i] = some d.wokenUp := by rw [wokenAt_eq hd]; exact set_self _ _ _

theorem wokenAt_deviceAt : DeviceAt (wokenAt i s) i d.wokenUp := ⟨wokenAt_self hd, (deviceIdx_wokenAt i s _).trans hd.2⟩

theorem isUp_wokenAt : isUp (wokenAt i s) d.addr = true := isUp_of_deviceAt (wokenAt_deviceAt hd)

theorem wokenAt_deviceAt_other {j : Fin 16} {e : Device} (he : DeviceAt s j e) (hj : j ≠ i) : DeviceAt (wokenAt i s) j e := by
  refine ⟨?_, (deviceIdx_wokenAt i s _).trans he.2⟩
  rw [wokenAt_eq hd]
  exact (set_ne _ _ _ _ hj).trans he.1

theorem isUp_wokenAt_other {a : Byte} (h : a ≠ d.addr) : isUp (wokenAt i s) a = isUp s a := by
  have hidx := deviceIdx_wokenAt i s a
  cases hj : deviceIdx s a with
  | none => simp only [isUp, hidx, hj]
  | some j =>
    have hne : j ≠ i := by
      rintro rfl
      obtain ⟨e, he, ha⟩ := deviceIdx_get hj
      obtain rfl := Option.some.inj (he.symm.trans hd.1)
      exact h ha.symm
    have hsame : (wokenAt i s).devices[j] = s.devices[j] := by rw [wokenAt_eq hd]; exact set_ne _ _ _ _ hne
    simp only [isUp, hidx, hj, hsame]

theorem bothUp_wokenAt_other {st : St} (h : ∀ b, s.bindings[st].binding = some b → b.camera ≠ d.addr ∧ b.lamp ≠ d.addr) :
    bothUp (wokenAt i s) st = bothUp s st := by
  have hb : (wokenAt i s).bindings = s.bindings := rfl
  unfold bothUp cameraOf lampOf
  rw [hb]
  cases hbind : s.bindings[st].binding with
  | none => rfl
  | some b =>
    obtain ⟨hcamera, hlamp⟩ := h b hbind
    simp only [Option.map_some, Option.getD_some, isUp_wokenAt_other hd hcamera, isUp_wokenAt_other hd hlamp]

theorem noAsk_wokenAt (hn : NoAsk s) : NoAsk (wokenAt i s) := by
  obtain ⟨hslot, hasks, hcomposer, hdue⟩ := hn
  refine ⟨hslot, hasks, hcomposer, fun j e he => ?_⟩
  rw [wokenAt_eq hd] at he
  have he' : (s.devices.set i.val (some d.wokenUp) i.isLt)[j] = some e := he
  rw [set_get] at he'
  split at he'
  · obtain rfl := Option.some.inj he'; exact ⟨rfl, rfl⟩
  · exact hdue j e he'

theorem wokenAt_settled (hs : Settled s) (h : Unbound s d.addr) : Settled (wokenAt i s) := by
  refine settled_of_fewer hs rfl rfl fun st hup => ?_
  rwa [bothUp_wokenAt_other hd] at hup
  intro b hb
  have hno := List.find?_eq_none.mp h st (List.mem_finRange st)
  rw [hb] at hno
  simpa using hno

omit hd in
theorem wakeUp_eq {u : State} (htold : tellStationUp d.addr (wokenAt i s) = u) (hs : Settled u)
    (hprinter : d.cls = .printer → u.composer.print = .idle) (x : Status) : wakeUp i d x s = routeReport d.wokenUp x u := by
  have hup : (if d.cls = .printer then printerReachesUp u else u) = u := by
    split
    · next hc => simp only [printerReachesUp, hprinter hc]
    · rfl
  simp only [wakeUp]
  rw [show tellStationUp d.addr (modDevice i Device.wokenUp s) = u from htold, hup, settle_of_settled hs]

end

theorem tellStationUp_unbound {s : State} {a : Byte} (h : boundStation s a = none) : tellStationUp a s = s := by
  simp only [tellStationUp, h]

theorem tellStationUp_offline {s : State} {a : Byte} {st : St} (h : boundStation s a = some st)
    (hpost : s.stations[st].pendingPost = none) (hstate : s.stations[st].state = .offline) (hup : bothUp s st = true) :
    tellStationUp a s = enterIdle st s := by
  simp only [tellStationUp, h, stationDeviceUp, hpost, hstate, hup, Option.isNone_none, and_self, if_true]

/-! ### The station that waited for the device (R63) -/

/-- The OFFLINE station that binds the woken device, which completes its pair (R63). -/
structure AwaitsDevice (s : State) (st : St) (b : Binding) (a : Byte) : Prop where
  bound : boundStation s a = some st
  binding : s.bindings[st].binding = some b
  offline : s.stations[st].state = .offline
  noPost : s.stations[st].pendingPost = none
  empty : s.stations[st].queue = []
  alone : ∀ st' b', st' ≠ st → s.bindings[(st' : St)].binding = some b' → b'.camera ≠ a ∧ b'.lamp ≠ a

section
variable {s : State} {i : Fin 16} {d : Device} {st : St} {b : Binding} (hd : DeviceAt s i d) (hw : AwaitsDevice s st b d.addr)
include hd hw

theorem boundUp_wokenAt {j : Fin 16} {e : Device} (he : DeviceAt s j e) (hup : e.link = .up)
    (h : b.lamp = d.addr ∧ e.addr = b.camera ∨ b.camera = d.addr ∧ e.addr = b.lamp) (hj : j ≠ i) : BoundUp (wokenAt i s) st b := by
  refine ⟨hw.binding, bothUp_iff.mpr ?_⟩
  have hother : isUp (wokenAt i s) e.addr = true := by
    rw [isUp_of_deviceAt (wokenAt_deviceAt_other hd he hj), hup]; rfl
  have hself := isUp_wokenAt hd
  have hb : (wokenAt i s).bindings[st].binding = some b := hw.binding
  rw [cameraOf, lampOf, hb]
  refine ⟨rfl, ?_⟩
  simp only [Option.map_some, Option.getD_some]
  rcases h with ⟨hl, hc⟩ | ⟨hc, hl⟩
  · rw [← hc, hl]; exact ⟨hother, hself⟩
  · rw [← hl, hc]; exact ⟨hself, hother⟩

/-- Only the station's own entry has changed besides the woken device, and the station is at rest. -/
theorem settled_wokenAt {u : State} (hs : Settled s) (hstations : OthersSame st s.stations u.stations) (hrolls : u.rolls = s.rolls)
    (hb : u.bindings = s.bindings) (hdev : DevicesKept (wokenAt i s).devices u.devices) (hst : AtRest u st) : Settled u := by
  intro st'
  by_cases e : st' = st
  · exact e ▸ hst
  · refine atRest_congr (hstations st' e) (by rw [hrolls]) ?_ (hs st')
    have hb' : u.bindings[st'].binding = (wokenAt i s).bindings[st'].binding := by rw [hb]; rfl
    rw [bothUp_kept hb' hdev]
    exact bothUp_wokenAt_other hd (hw.alone st' · e)

omit hd in
theorem tellStationUp_noRoll (hup : BoundUp (wokenAt i s) st b) (hm : s.rolls[st].map = none) :
    tellStationUp d.addr (wokenAt i s) = modStation st (fun x => { x with state := .noRoll }) (wokenAt i s) := by
  rw [tellStationUp_offline (s := wokenAt i s) hw.bound hw.noPost hw.offline hup.2]
  have hm' : (wokenAt i s).rolls[st].map = none := hm
  have hhead : headOf (wokenAt i s) st = none := headOf_of_empty hw.empty
  simp only [enterIdle, hm', rollLessState, hup.2, hhead, if_true]

omit hd in
theorem tellStationUp_checked (hup : BoundUp (wokenAt i s) st b) {m : RollMap} (hm : s.rolls[st].map = some m)
    (hopen : m.opening = false) : tellStationUp d.addr (wokenAt i s)
      = standAsk st ⟨b.camera, 0x02, [], .rollCheck⟩ (modStation st Station.checked (wokenAt i s)) := by
  rw [tellStationUp_offline (s := wokenAt i s) hw.bound hw.noPost hw.offline hup.2]
  have hm' : (wokenAt i s).rolls[st].map = some m := hm
  rw [← enterChecked_standAsk hup]
  simp only [enterIdle, hm', hopen, Bool.false_eq_true, if_false]

end

/-! ### Reports of a camera at rest (R24, R41, R63) -/

theorem noteRollStatus_present (st : St) (s : State) : noteRollStatus st true s = s := rfl

/-- The notes of an insertion end (R24). -/
theorem noteRollStatus_absent (st : St) (s : State) : noteRollStatus st false s =
    modRoll st (fun r => { r with removalRequired := false, insertionReported := false }) s := rfl

theorem noteRollStatus_stations (st : St) (p : Bool) (s : State) : (noteRollStatus st p s).stations = s.stations := by
  cases p <;> rfl

theorem noteRollStatus_map (st : St) (p : Bool) (s : State) : (noteRollStatus st p s).rolls[st].map = s.rolls[st].map := by
  cases p
  · rw [noteRollStatus_absent, modRoll_rolls, upd_self]
  · rfl

section
variable {s : State} {st : St} (hpost : s.stations[st].pendingPost = none)
include hpost

theorem stationReport_rollLess {r : CameraReport} (hm : s.rolls[st].map = none)
    (hstate : s.stations[st].state = .noRoll ∨ s.stations[st].state = .waitingFilm) :
    stationReport st r s = openOrRefuse st r (noteRollStatus st r.present s) := by
  simp only [stationReport, noteRollStatus_stations, noteRollStatus_map, hpost, hm, Option.isSome_none, Bool.false_eq_true, if_false]
  rcases hstate with h | h <;> simp only [h]

theorem stationReport_ready {r : CameraReport} (hstate : s.stations[st].state = .ready ∨ s.stations[st].state = .waitingLabels) :
    stationReport st r s = idleReport st r (noteRollStatus st r.present s) := by
  simp only [stationReport, noteRollStatus_stations, hpost, Option.isSome_none, Bool.false_eq_true, if_false]
  rcases hstate with h | h <;> simp only [h]

end

theorem openOrRefuse_absent {r : CameraReport} (h : r.present = false) (st : St) (s : State) : openOrRefuse st r s = s := by
  rw [openOrRefuse, h]; rfl

/-- A served roll check is pending no longer (R63). -/
def Station.served (x : Station) : Station := { x with rollCheck := false, gap := none, waits := 0 }

/-- A report that agrees with the open map serves the roll check that is pending (R41, R63). -/
theorem idleReport_serves {s : State} {st : St} {m : RollMap} {r : CameraReport} (hm : s.rolls[st].map = some m)
    (hclosing : m.closing = none) (hcheck : s.stations[st].rollCheck = true) (hroll : sameRoll r m = true) (hgate : r.gate = m.gate) :
    idleReport st r s = dropAsk st (modStation st Station.served s) := by
  simp only [idleReport, hm, hclosing, Option.isSome_none, Bool.false_eq_true, if_false, hcheck, if_true, hroll, hgate, beq_self_eq_true,
    Bool.and_self]
  rfl

theorem sameRoll_iff {r : CameraReport} {m : RollMap} : sameRoll r m = true ↔ r.present = true ∧ r.stock = m.stock := by
  simp [sameRoll]

/-- An ask that is withdrawn leaves no trace (R148). -/
theorem dropAsk_modStation_standAsk {s : State} {st : St} (h : s.ring.asks[st] = none) (a : Ask) (g : Station → Station) :
    dropAsk st (modStation st g (standAsk st a s)) = modStation st g s := by
  simp only [dropAsk, standAsk, modStation, set_set_none h]

/-! ### The first report of a device without one to route (R142, R154) -/

theorem parseStatus_noItems {c : DevClass} (h : c = .other ∨ c = .lamp) (condition : Byte) :
    parseStatus c [condition, 0x00] = some (.items condition []) := by
  rcases h with rfl | rfl <;> rfl

theorem routeReport_noItems (d : Device) (condition : Byte) (s : State) : routeReport d (.items condition []) s = s := rfl

section
variable {s : State} {t : Transaction} {d : Device} {f : LinkFrame} {wasLost : Bool} (ho : AnswersOpen s t d f)
  (hreq : t.requester = .idlePoller) (hp : t.purpose = .wake) (hlink : d.link = .waking wasLost)
include ho

theorem finish_endGrant_wokenAt (hunbound : Unbound s d.addr) :
    finish (endGrant (wokenAt t.entry s)) = endGrant (wokenAt t.entry s) := by
  obtain ⟨-, hs, hn, -, hd, -⟩ := ho
  exact finish_of_noAsk (endGrant_settled (wokenAt_settled hd hs hunbound)) (noAsk_wokenAt hd hn).endGrant

theorem wokenAt_devices : (wokenAt t.entry s).devices = s.devices.set t.entry.val (some { d with
    link := .up, failedWakes := 0, mismatchNoted := false, wakeTimer := false, dueWake := false
    idleTimer := true, duePoll := false, busy := false }) t.entry.isLt := by
  obtain ⟨-, -, -, -, hd, -⟩ := ho
  rw [wokenAt_eq hd]; rfl

include hreq hp hlink

/-- A device that no station binds and whose first report is not routed: its entry is UP, and that is all (R142). -/
theorem exec_ready_unbound {condition : Byte} (hk : f.kind = 0x10) (hc : d.cls = .other ∨ d.cls = .lamp)
    (hpay : f.payload = [d.cls.code, condition, 0x00]) (hunbound : Unbound s d.addr) :
    exec (.readyReceived f.wire) s = .next (endGrant (wokenAt t.entry s)) := by
  have hs := wokenAt_settled ho.2.2.2.2.1 ho.2.1 hunbound
  have hnot : d.cls ≠ .printer := by rcases hc with h | h <;> rw [h] <;> decide
  rw [exec_ready_up ho hreq hp hlink hk hpay (parseStatus_noItems hc condition),
    wakeUp_eq (tellStationUp_unbound hunbound) hs (fun h => absurd h hnot), routeReport_noItems, finish_endGrant_wokenAt ho hunbound]

/-- The device of an OFFLINE station without a roll: the station is NO_ROLL (R63). -/
theorem exec_ready_noRoll {st : St} {b : Binding} {condition : Byte} (hk : f.kind = 0x10) (hc : d.cls = .other ∨ d.cls = .lamp)
    (hpay : f.payload = [d.cls.code, condition, 0x00]) (hw : AwaitsDevice s st b d.addr) (hup : BoundUp (wokenAt t.entry s) st b)
    (hm : s.rolls[st].map = none) : exec (.readyReceived f.wire) s = .next
      (endGrant (modStation st (fun x => { x with state := .noRoll }) (wokenAt t.entry s))) := by
  have hd := ho.2.2.2.2.1
  have hself := modStation_self st (fun x => { x with state := .noRoll }) (wokenAt t.entry s)
  have hs : Settled (modStation st (fun x => { x with state := .noRoll }) (wokenAt t.entry s)) :=
    settled_wokenAt hd hw ho.2.1 (othersSame_upd _ _ _) rfl rfl (.refl _)
      (atRest_of_state (by rw [hself]; nofun) (by rw [hself]; nofun))
  have hnot : d.cls ≠ .printer := by rcases hc with h | h <;> rw [h] <;> decide
  have hn := noAsk_wokenAt hd ho.2.2.1
  have hn' : NoAsk (modStation st (fun x => { x with state := .noRoll }) (wokenAt t.entry s)) :=
    hn.kept rfl hn.2.1 hn.2.2.1 (.refl _)
  rw [exec_ready_up ho hreq hp hlink hk hpay (parseStatus_noItems hc condition),
    wakeUp_eq (tellStationUp_noRoll hw hup hm) hs (fun h => absurd h hnot), routeReport_noItems,
    finish_of_noAsk (endGrant_settled hs) hn'.endGrant]

/-- The device of an OFFLINE station with an open map: the station is READY and asks its roll check (R63). -/
theorem exec_ready_checked {st : St} {b : Binding} {m : RollMap} {i : Fin 16} {camera : Device} {condition : Byte}
    (hk : f.kind = 0x10) (hc : d.cls = .other ∨ d.cls = .lamp)
    (hpay : f.payload = [d.cls.code, condition, 0x00]) (hw : AwaitsDevice s st b d.addr) (hup : BoundUp (wokenAt t.entry s) st b)
    (hm : s.rolls[st].map = some m) (hopen : m.opening = false) (hcam : DeviceAt s i camera) (haddr : camera.addr = b.camera)
    (hi : i ≠ t.entry) : exec (.readyReceived f.wire) s = .next { modStation st Station.checked (wokenAt t.entry s) with
      devices := (wokenAt t.entry s).devices.set i.val (some { camera with tag := camera.tag + 1 }) i.isLt
      ring := { s.ring with
        lastGranted := .station st, engine := some (granted s (.station st) i camera .rollCheck 0x02 []) } } := by
  have hd := ho.2.2.2.2.1
  have hself := modStation_self st Station.checked (wokenAt t.entry s)
  have hs (a : Ask) : Settled (standAsk st a (modStation st Station.checked (wokenAt t.entry s))) :=
    settled_wokenAt hd hw ho.2.1 (othersSame_upd _ _ _) rfl rfl (.refl _) (Station.checked_atRest st _)
  have hnot : d.cls ≠ .printer := by rcases hc with h | h <;> rw [h] <;> decide
  have hn := noAsk_wokenAt hd ho.2.2.1
  obtain ⟨u, hu⟩ : ∃ u, u = endGrant (modStation st Station.checked (wokenAt t.entry s)) := ⟨_, rfl⟩
  have hnu : NoAsk u := by rw [hu]; exact hn.kept rfl hn.2.1 hn.2.2.1 (.refl _)
  have hcam' : DeviceAt u i camera := by
    have h := wokenAt_deviceAt_other hd hcam hi
    rw [hu]; exact ⟨h.1, h.2⟩
  have hgrant : ∀ a : Ask, endGrant (standAsk st a (modStation st Station.checked (wokenAt t.entry s))) = standAsk st a u := by
    intro a; rw [hu]; rfl
  rw [exec_ready_up ho hreq hp hlink hk hpay (parseStatus_noItems hc condition),
    wakeUp_eq (tellStationUp_checked hw hup hm hopen) (hs _) (fun h => absurd h hnot), routeReport_noItems, finish,
    settle_of_settled (endGrant_settled (hs _)), hgrant, arbitrate_standAsk hnu (by rw [hu]; rfl) hcam' haddr, hu]
  rfl

end

/-! ### The first report of a printer (R125) -/

theorem parsePrinter_of_legal {condition flags : Byte} {k : Condition}
    (hk : (condition, k) ∈ ([(0x00, .ready), (0x01, .busy), (0x02, .outOfStock)] : List (Byte × Condition)))
    (hflags : flags.toNat ≤ 1) : parseStatus .printer [condition, flags] = some (.printer ⟨k, flags.getLsbD 0⟩) := by
  have hcond : condition? condition = some k := by
    simp only [List.mem_cons, Prod.mk.injEq, List.mem_nil_iff, or_false] at hk
    rcases hk with ⟨rfl, rfl⟩ | ⟨rfl, rfl⟩ | ⟨rfl, rfl⟩ <;> rfl
  simp only [parseStatus, parsePrinter, if_neg (Nat.not_lt.mpr hflags), hcond, Option.map_some]

/-- The condition of a report in which nothing is jammed is kept (R125). -/
theorem keepCondition_of_noJam {r : PrinterReport} (h : r.condition ≠ .jam) (s : State) : keepCondition r s =
    modComposer (fun c => { c with condition := some r.condition, attention := r.condition.pause.isSome }) s := by
  simp only [keepCondition, h, false_and, if_false]

theorem printerReport_idle {r : PrinterReport} {s : State} (h : r.condition ≠ .jam) (hidle : s.composer.print = .idle) :
    printerReport r s =
      modComposer (fun c => { c with condition := some r.condition, attention := r.condition.pause.isSome }) s := by
  obtain ⟨u, hu⟩ : ∃ u, u = modComposer (fun c => { c with
    condition := some r.condition, attention := r.condition.pause.isSome }) s := ⟨_, rfl⟩
  have hprint : u.composer.print = .idle := by rw [hu]; exact hidle
  rw [printerReport, keepCondition_of_noJam h, ← hu]
  simp only [hprint]

/-! ### The first report of a camera (R24, R63) -/

/-- A camera's report as its status states it (10.3). -/
def cameraReport (flags stock gate : Byte) : CameraReport :=
  ⟨flags.getLsbD 0, if flags.getLsbD 0 then stock.toNat else 0, if flags.getLsbD 0 then gate.toNat else 0,
    if flags.getLsbD 1 then some (flags.getLsbD 2) else none, flags.getLsbD 3⟩

theorem parseStatus_camera {flags stock gate : Byte} (h : StatusParses .camera [flags, stock, gate]) :
    parseStatus .camera [flags, stock, gate] = some (.camera flags (cameraReport flags stock gate)) := by
  have hsome := (parseStatus_isSome_iff _ _).mpr h
  unfold parseStatus parseCamera at hsome ⊢
  dsimp only at hsome ⊢
  split at hsome
  · cases hsome
  · next hno => rw [if_neg hno]; rfl

/-- An enabled station's camera reports to its station (R154). -/
theorem routeReport_camera {s : State} {d : Device} {st : St} (hcam : cameraStation s d.addr = some st)
    (hen : s.bindings[st].enabled = true) (flags : Byte) (r : CameraReport) :
    routeReport d (.camera flags r) s = stationReport st r s := by
  simp only [routeReport, hcam, hen, if_true]

theorem cameraStation_congr {s u : State} (h : u.bindings = s.bindings) (a : Byte) : cameraStation u a = cameraStation s a := by
  unfold cameraStation
  rw [h]

section
variable {s : State} {t : Transaction} {d : Device} {f : LinkFrame} {wasLost : Bool} (ho : AnswersOpen s t d f)
  (hreq : t.requester = .idlePoller) (hp : t.purpose = .wake) (hlink : d.link = .waking wasLost) (hk : f.kind = 0x10)
include ho hreq hp hlink hk

theorem exec_ready_printer {condition flags : Byte} {k : Condition} (hc : d.cls = .printer) (hpay : f.payload = [0x03, condition, flags])
    (hmem : (condition, k) ∈ ([(0x00, .ready), (0x01, .busy), (0x02, .outOfStock)] : List (Byte × Condition)))
    (hflags : flags.toNat ≤ 1) (hunbound : Unbound s d.addr) (hidle : s.composer.print = .idle) :
    exec (.readyReceived f.wire) s = .next (endGrant
      (modComposer (fun c => { c with condition := some k, attention := k.pause.isSome }) (wokenAt t.entry s))) := by
  have hd := ho.2.2.2.2.1
  have hs := wokenAt_settled hd ho.2.1 hunbound
  have hn := noAsk_wokenAt hd ho.2.2.1
  have hjam : k ≠ .jam := by
    rintro rfl
    simp at hmem
  have hpay' : f.payload = d.cls.code :: [condition, flags] := by rw [hpay, hc]; rfl
  rw [exec_ready_up ho hreq hp hlink hk hpay' (hc ▸ parsePrinter_of_legal hmem hflags),
    wakeUp_eq (tellStationUp_unbound hunbound) hs (fun _ => hidle)]
  have hrep : routeReport d.wokenUp (.printer ⟨k, flags.getLsbD 0⟩) (wokenAt t.entry s)
      = modComposer (fun c => { c with condition := some k, attention := k.pause.isSome }) (wokenAt t.entry s) :=
    printerReport_idle (s := wokenAt t.entry s) hjam hidle
  have hs' : Settled (modComposer (fun c => { c with condition := some k, attention := k.pause.isSome }) (wokenAt t.entry s)) :=
    settled_of_same hs rfl rfl rfl (.refl _)
  have hn' : NoAsk (modComposer (fun c => { c with condition := some k, attention := k.pause.isSome }) (wokenAt t.entry s)) :=
    hn.kept rfl hn.2.1 hn.2.2.1 (.refl _)
  rw [hrep, finish_of_noAsk (endGrant_settled hs') hn'.endGrant]

section
variable {st : St} {b : Binding} {flags stock gate : Byte} (hpay : f.payload = [0x01, flags, stock, gate])
  (hparses : StatusParses .camera [flags, stock, gate]) (hc : d.cls = .camera) (hcam : cameraStation s d.addr = some st)
  (hen : s.bindings[st].enabled = true) (hw : AwaitsDevice s st b d.addr) (hup : BoundUp (wokenAt t.entry s) st b)
include hpay hparses hc hcam hen hw hup

/-- The camera of an OFFLINE station without a roll, which reports none either: the notes of an insertion end (R24). -/
theorem exec_ready_camera_noRoll (hflag : flags.getLsbD 0 = false) (hm : s.rolls[st].map = none) :
    exec (.readyReceived f.wire) s = .next (endGrant
      (modRoll st (fun r => { r with removalRequired := false, insertionReported := false })
        (modStation st (fun x => { x with state := .noRoll }) (wokenAt t.entry s)))) := by
  have hd := ho.2.2.2.2.1
  have hpay' : f.payload = d.cls.code :: [flags, stock, gate] := by rw [hpay, hc]; rfl
  obtain ⟨v, hv⟩ : ∃ v, v = modStation st (fun x => { x with state := .noRoll }) (wokenAt t.entry s) := ⟨_, rfl⟩
  have hself : v.stations[st] = { s.stations[st] with state := .noRoll } := by rw [hv]; exact modStation_self _ _ _
  have hrest : v.stations[st].state ≠ .suspended ∧ v.stations[st].state ≠ .ready := by rw [hself]; exact ⟨nofun, nofun⟩
  have hs : Settled v := settled_wokenAt hd hw ho.2.1 (by rw [hv]; exact othersSame_upd _ _ _) (by rw [hv]; rfl) (by rw [hv]; rfl)
    (by rw [hv]; exact .refl _) (atRest_of_state hrest.1 hrest.2)
  have hn : NoAsk v := by
    have hn := noAsk_wokenAt hd ho.2.2.1
    rw [hv]; exact hn.kept rfl hn.2.1 hn.2.2.1 (.refl _)
  have habsent : (cameraReport flags stock gate).present = false := hflag
  have hmv : v.rolls[st].map = none := by rw [hv]; exact hm
  have hroute : routeReport d.wokenUp (.camera flags (cameraReport flags stock gate)) v
      = modRoll st (fun r => { r with removalRequired := false, insertionReported := false }) v := by
    have hcam' : cameraStation v d.wokenUp.addr = some st := (cameraStation_congr (by rw [hv]; rfl) _).trans hcam
    rw [routeReport_camera hcam' (by rw [hv]; exact hen),
      stationReport_rollLess (by rw [hself]; exact hw.noPost) hmv (.inl (by rw [hself])), openOrRefuse_absent habsent, habsent,
      noteRollStatus_absent]
  have hs' : Settled (modRoll st (fun r => { r with removalRequired := false, insertionReported := false }) v) :=
    settled_of_others hs (othersSame_refl _ _) (othersSame_upd _ _ _) rfl (.refl _) (atRest_of_state hrest.1 hrest.2)
  have hn' : NoAsk (modRoll st (fun r => { r with removalRequired := false, insertionReported := false }) v) :=
    hn.kept rfl hn.2.1 hn.2.2.1 (.refl _)
  rw [exec_ready_up ho hreq hp hlink hk hpay' (hc ▸ parseStatus_camera hparses),
    wakeUp_eq ((tellStationUp_noRoll hw hup hm).trans hv.symm) hs (fun h => absurd (hc.symm.trans h) nofun), hroute,
    finish_of_noAsk (endGrant_settled hs') hn'.endGrant, hv]

/-- The camera of an OFFLINE station whose open map its report agrees with: the roll check is served at once (R63). -/
theorem exec_ready_camera_served {m : RollMap} (hflag : flags.getLsbD 0 = true) (hm : s.rolls[st].map = some m)
    (hopen : m.opening = false) (hclosing : m.closing = none) (hstock : stock.toNat = m.stock) (hgate : gate.toNat = m.gate) :
    exec (.readyReceived f.wire) s = .next (endGrant (modStation st (fun x => x.checked.served) (wokenAt t.entry s))) := by
  have hd := ho.2.2.2.2.1
  have hpay' : f.payload = d.cls.code :: [flags, stock, gate] := by rw [hpay, hc]; rfl
  obtain ⟨v, hv⟩ : ∃ v, v = standAsk st ⟨b.camera, 0x02, [], .rollCheck⟩ (modStation st Station.checked (wokenAt t.entry s)) :=
    ⟨_, rfl⟩
  have hself : v.stations[st] = s.stations[st].checked := by rw [hv]; exact modStation_self _ _ _
  have hs : Settled v := settled_wokenAt hd hw ho.2.1 (by rw [hv]; exact othersSame_upd _ _ _) (by rw [hv]; rfl) (by rw [hv]; rfl)
    (by rw [hv]; exact .refl _) (atRest_of_check (by rw [hself]; nofun) (by rw [hself]; rfl))
  have hpresent : (cameraReport flags stock gate).present = true := hflag
  have hsame : sameRoll (cameraReport flags stock gate) m = true :=
    sameRoll_iff.mpr ⟨hflag, (if_pos hflag).trans hstock⟩
  have hn := noAsk_wokenAt hd ho.2.2.1
  have hserved : dropAsk st (modStation st Station.served v) = modStation st (fun x => x.checked.served) (wokenAt t.entry s) := by
    rw [hv, dropAsk_modStation_standAsk (by exact hn.2.1 st), modStation_modStation]
    rfl
  have hroute : routeReport d.wokenUp (.camera flags (cameraReport flags stock gate)) v
      = modStation st (fun x => x.checked.served) (wokenAt t.entry s) := by
    have hcam' : cameraStation v d.wokenUp.addr = some st := (cameraStation_congr (by rw [hv]; rfl) _).trans hcam
    rw [routeReport_camera hcam' (by rw [hv]; exact hen),
      stationReport_ready (by rw [hself]; exact hw.noPost) (.inl (by rw [hself]; rfl)), hpresent, noteRollStatus_present,
      idleReport_serves (by rw [hv]; exact hm) hclosing (by rw [hself]; rfl) hsame ((if_pos hflag).trans hgate), hserved]
  have hself' := modStation_self st (fun x => x.checked.served) (wokenAt t.entry s)
  have hs' : Settled (modStation st (fun x => x.checked.served) (wokenAt t.entry s)) :=
    settled_wokenAt hd hw ho.2.1 (othersSame_upd _ _ _) rfl rfl (.refl _)
      (atRest_of_empty (by rw [hself']; nofun) (by rw [hself']; exact hw.empty))
  have hn' : NoAsk (modStation st (fun x => x.checked.served) (wokenAt t.entry s)) := hn.kept rfl hn.2.1 hn.2.2.1 (.refl _)
  rw [exec_ready_up ho hreq hp hlink hk hpay' (hc ▸ parseStatus_camera hparses),
    wakeUp_eq ((tellStationUp_checked hw hup hm hopen).trans hv.symm) hs (fun h => absurd (hc.symm.trans h) nofun), hroute,
    finish_of_noAsk (endGrant_settled hs') hn'.endGrant]

end

end

/-! ### Wakes that fail (R141) -/

theorem wrongClass_less (d : Device) : DeviceLess d d.wrongClass := ⟨rfl, nofun, id, id⟩

section
variable {s : State} {i : Fin 16} {d e : Device} (hs : Settled s) (hn : NoAsk s)
include hs hn

/-- An entry that is UP no more than before leaves nothing to be done. -/
theorem settled_less {u : State} (h : OnlyChanges [.devices] s u) (hless : DevicesLess s.devices u.devices) :
    Settled u ∧ NoAsk u := by
  have hring := h .ring (by decide)
  exact ⟨settled_of_fewer hs (h .stations (by decide)) (h .rolls (by decide)) fun st =>
      bothUp_less (congrArg (fun v => v[st].binding) (h .bindings (by decide))) hless,
    hn.less (h .slot (by decide)) (by rw [hring]; exact hn.2.1) (by rw [hring]; exact hn.2.2.1) hless⟩

end

/-- Settles O36. -/
theorem wakeReplies : Obligations.WakeReplies := by
  intro s t d f wasLost ho hreq hp hlink
  obtain ⟨hl, hs, hn, hr, hd, hcls, ha⟩ := id ho
  have honly := wokenAt_onlyChanges t.entry s
  have hne {i : Fin 16} {e : Device} (he : DeviceAt s i e) (hup : e.link = .up) : i ≠ t.entry := by
    rintro rfl
    obtain rfl := Option.some.inj (he.1.symm.trans hd.1)
    rw [hlink] at hup; cases hup
  refine ⟨fun condition hk hc => ⟨fun hunbound => ?_, ?_⟩, ?_, ?_, ?_, ?_⟩
  · have hc' : (d.cls = .other ∨ d.cls = .lamp) ∧ f.payload = [d.cls.code, condition, 0x00] := by
      rcases hc with ⟨h, hpay⟩ | ⟨h, hpay⟩
      · exact ⟨.inl h, by rw [hpay, h]; rfl⟩
      · exact ⟨.inr h, by rw [hpay, h]; rfl⟩
    exact ⟨_, exec_ready_unbound ho hreq hp hlink hk hc'.1 hc'.2 hunbound, (honly.widen).andThen (ring_onlyChanges _ _), rfl,
      wokenAt_devices ho⟩
  · have hc' : (d.cls = .other ∨ d.cls = .lamp) ∧ f.payload = [d.cls.code, condition, 0x00] := by
      rcases hc with ⟨h, hpay⟩ | ⟨h, hpay⟩
      · exact ⟨.inl h, by rw [hpay, h]; rfl⟩
      · exact ⟨.inr h, by rw [hpay, h]; rfl⟩
    intro st b i camera hbound hb hlamp hcam haddr hup hstate hpost hq halone
    have hw : AwaitsDevice s st b d.addr := ⟨hbound, hb, hstate, hpost, hq, halone⟩
    have hi := hne hcam hup
    have hupb := boundUp_wokenAt hd hw hcam hup (.inl ⟨hlamp, haddr⟩) hi
    refine ⟨fun hm => ?_, fun m hm hopen => ?_⟩
    · exact ⟨_, exec_ready_noRoll ho hreq hp hlink hk hc'.1 hc'.2 hw hupb hm,
        ((honly.widen).andThen (modStation_onlyChanges st _ _)).andThen (ring_onlyChanges _ _), othersSame_upd _ _ _, rfl,
        isUp_wokenAt hd, modStation_self _ _ _⟩
    · refine ⟨_, exec_ready_checked ho hreq hp hlink hk hc'.1 hc'.2 hw hupb hm hopen hcam haddr hi, ?_, othersSame_upd _ _ _, ?_,
        modStation_self _ _ _, rfl⟩
      · intro q hq
        cases q with
        | devices | ring | stations => exact absurd (by decide) hq
        | _ => rfl
      · exact (isUp_kept (devicesKept_set (e := { camera with tag := camera.tag + 1 })
          (wokenAt_deviceAt_other hd hcam hi).1 ⟨rfl, rfl, rfl, id, id⟩) _).trans (isUp_wokenAt hd)
  · intro condition flags k hk hc hpay hmem hflags hunbound hidle
    refine ⟨_, exec_ready_printer ho hreq hp hlink hk hc hpay hmem hflags hunbound hidle,
      ((honly.widen).andThen (modComposer_onlyChanges _ _)).andThen (ring_onlyChanges _ _), rfl, ?_, wokenAt_devices ho⟩
    have hatt : k.pause.isSome = decide (k = .outOfStock) := by
      simp only [List.mem_cons, Prod.mk.injEq, List.mem_nil_iff, or_false] at hmem
      rcases hmem with ⟨-, rfl⟩ | ⟨-, rfl⟩ | ⟨-, rfl⟩ <;> rfl
    rw [← hatt]; rfl
  · intro st b i lamp flags stock gate hk hc hpay hparses hbound hcam hen hb hcamera hlamp haddr hup hstate hpost hq halone
    have hw : AwaitsDevice s st b d.addr := ⟨hbound, hb, hstate, hpost, hq, halone⟩
    have hupb := boundUp_wokenAt hd hw hlamp hup (.inr ⟨hcamera, haddr⟩) (hne hlamp hup)
    refine ⟨fun hflag hm => ?_, fun m hm hopen hclosing hflag hstock hgate => ?_⟩
    · exact ⟨_, exec_ready_camera_noRoll ho hreq hp hlink hk hpay hparses hc hcam hen hw hupb hflag hm,
        (((honly.widen).andThen (modStation_onlyChanges st _ _)).andThen (modRoll_onlyChanges st _ _)).andThen (ring_onlyChanges _ _),
        othersSame_upd _ _ _, othersSame_upd _ _ _, rfl, isUp_wokenAt hd, modStation_self _ _ _, upd_self _ _ _⟩
    · exact ⟨_, exec_ready_camera_served ho hreq hp hlink hk hpay hparses hc hcam hen hw hupb hflag hm hopen hclosing hstock hgate,
        ((honly.widen).andThen (modStation_onlyChanges st _ _)).andThen (ring_onlyChanges _ _), othersSame_upd _ _ _, rfl,
        isUp_wokenAt hd, modStation_self _ _ _⟩
  · intro c status hk hpay hc
    have hexec := exec_ready_mismatch ho hreq hp hlink hk hpay hc
    have hset : modDevice t.entry Device.wrongClass s = { s with
        devices := s.devices.set t.entry.val (some d.wrongClass) t.entry.isLt } := modDevice_set hd.1 _
    obtain ⟨hs', hn'⟩ := settled_less hs hn (modDevice_onlyChanges t.entry Device.wrongClass s)
      (by rw [hset]; exact devicesLess_set hd.1 (wrongClass_less d))
    refine ⟨fun hnoted hcap hroom => ?_, fun hnoted => ?_⟩
    · obtain ⟨p, hoffer, htransmits⟩ := offerFault_captured (s := modDevice t.entry Device.wrongClass s) hcap hroom
        ⟨.classMismatch, d.addr, kindWake, boundStation s d.addr, none, none, none⟩
      have hmis : wakeMismatch t.entry d s = captured ⟨.classMismatch, d.addr, kindWake, boundStation s d.addr, none, none, none⟩ p
          (modDevice t.entry Device.wrongClass s) := by
        simp only [wakeMismatch, hnoted, Bool.false_eq_true, if_false, hoffer]
      rw [hmis, finish_endGrant_captured hs' hn'] at hexec
      refine ⟨_, hexec, (((modDevice_onlyChanges t.entry Device.wrongClass s).widen).andThen (endGrant_captured_onlyChanges _ _ _)),
        rfl, rfl, rfl, ⟨rfl, htransmits⟩, ?_⟩
      show (modDevice t.entry Device.wrongClass s).devices = _
      rw [hset]; rfl
    · have hmis : wakeMismatch t.entry d s = modDevice t.entry Device.wrongClass s := by
        simp only [wakeMismatch, hnoted, if_true]
      rw [hmis, finish_of_noAsk (endGrant_settled hs') hn'.endGrant] at hexec
      refine ⟨_, hexec, ((modDevice_onlyChanges t.entry Device.wrongClass s).widen).andThen (ring_onlyChanges _ _), rfl, ?_⟩
      show (modDevice t.entry Device.wrongClass s).devices = _
      rw [hset, Device.wrongClass, hnoted]
  · intro c hc
    have hfacts : wakeAccepted d.cls f = true ∧ Brings c f ∧ f.kind ≠ 0x10 := by
      rcases hc with ⟨rfl, hk⟩ | ⟨rfl, hk⟩ | ⟨rfl, hk⟩ | ⟨rfl, hk, hparses⟩
      · exact ⟨by rw [wakeAccepted, hk]; rfl, .inr (.inl ⟨rfl, hk⟩), by rw [hk]; decide⟩
      · exact ⟨by rw [wakeAccepted, hk]; rfl, .inr (.inr (.inl ⟨rfl, hk⟩)), by rw [hk]; decide⟩
      · exact ⟨by rw [wakeAccepted, hk]; rfl, .inr (.inr (.inr (.inl ⟨rfl, hk⟩))), by rw [hk]; decide⟩
      · refine ⟨(wakeAccepted_iff _ _).mpr (.inr (.inl ⟨by rw [hk]; decide, hk, hparses⟩)), .inr (.inr (.inr (.inr ⟨rfl, ?_⟩))),
          by rw [hk]; decide⟩
        rw [hk]; decide
    obtain ⟨hacc, hb, hne⟩ := hfacts
    have hexec := exec_wake_failed ho hreq hp hlink hacc hb hne
    have hset : modDevice t.entry Device.failedWake s = { s with
        devices := s.devices.set t.entry.val (some d.failedWake) t.entry.isLt } := modDevice_set hd.1 _
    obtain ⟨hs', hn'⟩ := settled_less hs hn (modDevice_onlyChanges t.entry Device.failedWake s)
      (by rw [hset]; exact devicesLess_set hd.1 (failedWake_less hlink))
    rw [finish_of_noAsk (endGrant_settled hs') hn'.endGrant] at hexec
    refine ⟨_, hexec, ((modDevice_onlyChanges t.entry Device.failedWake s).widen).andThen (ring_onlyChanges _ _), rfl, ?_⟩
    show (modDevice t.entry Device.failedWake s).devices = _
    rw [hset, Device.failedWake, hlink]
    cases wasLost <;> rfl

end Sys2Proof.Machine
end

section
/-! PROOFS. The close of a roll (R40): what each of its steps leaves, from the released records to the station without a roll;
and the waiters whose place has come (R178). -/

namespace Sys2Proof.Machine

/-! ### The strip is released (R124) -/

theorem slotLines_setSlot_queued (s : State) (i j : Fin 320) :
    slotLines (setSlot i (.queued (slotLines s.composer i)) s).composer j = slotLines s.composer j := by
  have hget : (setSlot i (.queued (slotLines s.composer i)) s).composer.slots[j]
      = if j = i then .queued (slotLines s.composer i) else s.composer.slots[j] := set_get _ _ _ _
  unfold slotLines at hget ⊢
  rw [hget]
  by_cases h : j = i
  · rw [if_pos h, h]
  · rw [if_neg h]

/-- Slots alone have changed in the Composer. -/
def withSlots (v : Vector Slot 320) (s : State) : State := modComposer (fun c => { c with slots := v }) s

/-- The slots of a strip are QUEUED with the lines they hold, and no other slot changes. -/
theorem queueLabels (l : List (Fin 320)) (s : State) : ∃ v,
    l.foldl (fun s i => setSlot i (.queued (slotLines s.composer i)) s) s = withSlots v s
      ∧ ∀ i : Fin 320, v[i] = if i ∈ l then .queued (slotLines s.composer i) else s.composer.slots[i] := by
  induction l generalizing s with
  | nil => exact ⟨s.composer.slots, rfl, fun i => rfl⟩
  | cons j l ih =>
    obtain ⟨v, hv, hslots⟩ := ih (setSlot j (.queued (slotLines s.composer j)) s)
    refine ⟨v, hv, fun i => ?_⟩
    have hget : (setSlot j (.queued (slotLines s.composer j)) s).composer.slots[i]
        = if i = j then .queued (slotLines s.composer j) else s.composer.slots[i] := set_get _ _ _ _
    rw [hslots, slotLines_setSlot_queued, hget]
    by_cases hl : i ∈ l
    · rw [if_pos hl, if_pos (List.mem_cons_of_mem _ hl)]
    · rw [if_neg hl]
      by_cases hj : i = j
      · rw [if_pos hj, if_pos (hj ▸ List.mem_cons_self), hj]
      · rw [if_neg hj, if_neg (fun hc => (List.mem_cons.mp hc).elim hj hl)]

/-- A strip joins a list that is not empty (R124). -/
theorem releaseStrip_behind {s : State} (h : s.composer.strips ≠ []) (p : Strip) : ∃ v,
    releaseStrip p s = modComposer (fun c => { c with slots := v, strips := c.strips ++ [p] }) s
      ∧ ∀ i : Fin 320, v[i] = if i ∈ p.labels then .queued (slotLines s.composer i) else s.composer.slots[i] := by
  obtain ⟨v, hv, hslots⟩ := queueLabels p.labels s
  refine ⟨v, ?_, hslots⟩
  have hne : s.composer.strips.isEmpty = false := by
    cases hs : s.composer.strips with
    | nil => exact absurd hs h
    | cons _ _ => rfl
  simp only [releaseStrip, hne, Bool.false_and, Bool.false_eq_true, if_false, hv]
  rfl

/-! ### The map is discarded (R40, steps 3 and 4) -/

/-- The roll record of a station whose roll has closed. -/
def RollRec.discarded (reason : CloseReason) (r : RollRec) : RollRec :=
  { r with map := none, headerRequest := false, lastClose := some reason }

section
variable {s : State} {st : St} {m : RollMap} {reason : CloseReason} (hm : s.rolls[st].map = some m)
  (hclosing : m.closing = some reason)
include hm hclosing

theorem discardMap_noHeader (hh : m.header = none) : discardMap st s = modRoll st (RollRec.discarded reason) s := by
  simp only [discardMap, hm, hh, hclosing, Option.getD_some]
  rfl

theorem discardMap_header {h : Fin 320} (hh : m.header = some h) (hstrips : s.composer.strips ≠ []) : ∃ v,
    discardMap st s = modRoll st (RollRec.discarded reason)
      (modComposer (fun c => { c with slots := v, strips := c.strips ++ [mapStrip st m reason h] }) s)
    ∧ ∀ i : Fin 320, v[i] = if i = h then .queued (headerLabel s.composer.stand st m reason)
        else if i ∈ m.frames.map (·.slot) then .queued (slotLines s.composer i) else s.composer.slots[i] := by
  obtain ⟨u, hu⟩ : ∃ u, u = composeSlot h (.header st) (headerLabel s.composer.stand st m reason) s := ⟨_, rfl⟩
  obtain ⟨v, hv, hslots⟩ := releaseStrip_behind (s := u) (by rw [hu]; exact hstrips) (mapStrip st m reason h)
  refine ⟨v, ?_, fun i => ?_⟩
  · simp only [discardMap, hm, hh, hclosing, Option.getD_some]
    rw [← hu, hv, hu]
    rfl
  · have hget : u.composer.slots[i] = if i = h then .composed (.header st) (headerLabel s.composer.stand st m reason)
        else s.composer.slots[i] := by rw [hu]; exact set_get _ _ _ _
    have hlabels : i ∈ (mapStrip st m reason h).labels ↔ i = h ∨ i ∈ m.frames.map (·.slot) := List.mem_cons
    rw [hslots]
    unfold slotLines
    rw [hget]
    by_cases hi : i = h
    · rw [if_pos (hlabels.mpr (.inl hi)), if_pos hi, if_pos hi]
    · rw [if_neg hi, if_neg hi]
      by_cases hl : i ∈ m.frames.map (·.slot)
      · rw [if_pos (hlabels.mpr (.inr hl)), if_pos hl]
      · rw [if_neg (fun hc => (hlabels.mp hc).elim hi hl), if_neg hl]

end

/-! ### The station without a roll (R64, R71) -/

/-- A head that waited for labels waits for film (R71). -/
def Request.awaitsFilm (q : Request) : Request := if q.state = .waitingLabels then { q with state := .waitingFilm } else q

theorem Request.awaitsFilm_state (q : Request) :
    q.awaitsFilm.state = if q.state = .waitingLabels then .waitingFilm else q.state := by
  unfold Request.awaitsFilm
  split <;> rfl

/-- A station with both devices UP whose roll has closed (R64, R181). -/
def Station.rollLess (x : Station) : Station :=
  { x.quiet with
      state := if x.queue.head?.any (fun q => q.state == .waitingFilm || q.state == .waitingLabels) then .waitingFilm else .noRoll
      queue := x.queue.modifyHead Request.awaitsFilm, rollCheck := false, rollEnd := false, susp := Suspension.clear }

theorem Station.rollLess_spec (x : Station) : RollLess x x.rollLess := rfl

theorem Station.rollLess_state (x : Station) : x.rollLess.state ≠ .suspended ∧ x.rollLess.state ≠ .ready := by
  unfold Station.rollLess
  dsimp only
  split <;> exact ⟨nofun, nofun⟩

theorem modStation_congr {s : State} {st : St} {f g : Station → Station} (h : f s.stations[st] = g s.stations[st]) :
    modStation st f s = modStation st g s := by simp only [modStation, upd, h]

/-- The state of a station that drives nothing any more, with its devices as they then stand (R64, R150). -/
def rollLess (st : St) (v : Vector (Option Device) 16) (s : State) : State :=
  { s with
      stations := upd s.stations st Station.rollLess, devices := v
      ring := { s.ring with
        asks := s.ring.asks.set st.val none st.isLt, engine := detachFrom (.station st) s.ring.engine } }

theorem rollLessState_awaitsFilm {s : State} {st : St} (hup : bothUp s st = true) :
    rollLessState (modHead st Request.awaitsFilm s) st = s.stations[st].rollLess.state := by
  have hup' : bothUp (modHead st Request.awaitsFilm s) st = true := hup
  unfold rollLessState Station.rollLess
  rw [hup', if_pos rfl, headOf, modHead, modStation_self]
  cases hq : s.stations[st].queue with
  | nil => rfl
  | cons q l =>
    show (if q.awaitsFilm.state = .waitingFilm then StationState.waitingFilm else .noRoll)
      = (if (q.state == .waitingFilm || q.state == .waitingLabels) = true then .waitingFilm else .noRoll)
    rw [Request.awaitsFilm_state]
    cases q.state <;> rfl

theorem enterRollLess_rollLess {s : State} {st : St} (hup : bothUp s st = true) : ∃ v, DevicesKept s.devices v ∧
    enterRollLess st (modHead st Request.awaitsFilm s) = rollLess st v s := by
  have hstation : modStation st (fun x =>
      { x.quiet with
          state := rollLessState (modHead st Request.awaitsFilm s) st, rollCheck := false, rollEnd := false, susp := Suspension.clear })
      (modHead st Request.awaitsFilm s) = modStation st Station.rollLess s := by
    rw [rollLessState_awaitsFilm hup, modHead, modStation_modStation]
    exact modStation_congr rfl
  obtain ⟨v, hv, he⟩ := clearBusyStation_change st (modStation st Station.rollLess s)
  refine ⟨v, hv, ?_⟩
  rw [enterRollLess, hstation, he]
  rfl

theorem rollClosed_rollLess {s : State} {st : St} (hpost : s.stations[st].pendingPost = none)
    (hfree : ¬ (s.stations[st].state = .suspended ∧ s.stations[st].susp.requestHeld = true)) (hup : bothUp s st = true) :
    ∃ v, DevicesKept s.devices v ∧ rollClosed st s = rollLess st v s := by
  obtain ⟨v, hv, he⟩ := enterRollLess_rollLess hup
  refine ⟨v, hv, ?_⟩
  unfold rollClosed
  simp only [hpost, Option.isSome_none, Bool.false_eq_true, if_false, if_neg hfree]
  exact he

/-! ### The ROLL_REPORT and what follows it (R40) -/

/-- A roll has closed with a record posted: the map is discarded, and the station drives nothing any more. -/
def rollGone (st : St) (reason : CloseReason) (p : ConsolePort) (r : Record) (c : Composer) (v : Vector (Option Device) 16)
    (s : State) : State :=
  { s with
      port := p, eq := { s.eq with records := s.eq.records ++ [r] }, composer := c, devices := v
      rolls := upd s.rolls st (RollRec.discarded reason), stations := upd s.stations st Station.rollLess
      ring := { s.ring with
        asks := s.ring.asks.set st.val none st.isLt, engine := detachFrom (.station st) s.ring.engine } }

section
variable {s : State} {st : St} {m : RollMap} {reason : CloseReason} (hm : s.rolls[st].map = some m)
  (hclosing : m.closing = some reason) (hpost : s.stations[st].pendingPost = none)
  (hfree : ¬ (s.stations[st].state = .suspended ∧ s.stations[st].susp.requestHeld = true)) (hup : bothUp s st = true)
include hm hclosing hpost hfree hup

theorem report_noHeader (hh : m.header = none) (r : Record) : ∃ p v, Transmits s { s with port := p } ∧ DevicesKept s.devices v ∧
    rollClosed st (discardMap st (joinTail r s)) = rollGone st reason p r s.composer v s := by
  obtain ⟨p, hjoin, htransmits⟩ := joinTail_eq r s
  have hdiscard : discardMap st (joinTail r s) = modRoll st (RollRec.discarded reason) (joinTail r s) :=
    discardMap_noHeader (by rw [hjoin]; exact hm) hclosing hh
  rw [hjoin] at hdiscard
  obtain ⟨u, hu⟩ : ∃ u, u = modRoll st (RollRec.discarded reason) { s with
    port := p, eq := { s.eq with records := s.eq.records ++ [r] } } := ⟨_, rfl⟩
  obtain ⟨v, hv, hclosed⟩ := rollClosed_rollLess (s := u) (st := st) (by rw [hu]; exact hpost) (by rw [hu]; exact hfree)
    (by rw [hu]; exact hup)
  refine ⟨p, v, htransmits, by rw [hu] at hv; exact hv, ?_⟩
  rw [hjoin, hdiscard, ← hu, hclosed, hu]
  rfl

theorem report_header {h : Fin 320} (hh : m.header = some h) (hstrips : s.composer.strips ≠ []) (r : Record) :
    ∃ p w v, Transmits s { s with port := p } ∧ DevicesKept s.devices v
      ∧ (∀ i : Fin 320, w[i] = if i = h then .queued (headerLabel s.composer.stand st m reason)
          else if i ∈ m.frames.map (·.slot) then .queued (slotLines s.composer i) else s.composer.slots[i])
      ∧ rollClosed st (discardMap st (joinTail r s)) = rollGone st reason p r
          { s.composer with slots := w, strips := s.composer.strips ++ [mapStrip st m reason h] } v s := by
  obtain ⟨p, hjoin, htransmits⟩ := joinTail_eq r s
  obtain ⟨w, hdiscard, hslots⟩ := discardMap_header (s := joinTail r s) (st := st) (by rw [hjoin]; exact hm) hclosing hh
    (by rw [hjoin]; exact hstrips)
  rw [hjoin] at hdiscard hslots
  obtain ⟨u, hu⟩ : ∃ u, u = modRoll st (RollRec.discarded reason)
    (modComposer (fun c => { c with slots := w, strips := c.strips ++ [mapStrip st m reason h] })
      { s with port := p, eq := { s.eq with records := s.eq.records ++ [r] } }) := ⟨_, rfl⟩
  obtain ⟨v, hv, hclosed⟩ := rollClosed_rollLess (s := u) (st := st) (by rw [hu]; exact hpost) (by rw [hu]; exact hfree)
    (by rw [hu]; exact hup)
  refine ⟨p, w, v, htransmits, by rw [hu] at hv; exact hv, hslots, ?_⟩
  rw [hjoin, hdiscard, ← hu, hclosed, hu]
  rfl

end

/-! ### The close of a roll (R40) -/

section
variable {s : State} {st : St} {m : RollMap} (hm : s.rolls[st].map = some m)
include hm

/-- A close with no RESERVED record and no header request outstanding (R40, step 1). -/
theorem beginClose_marked (hno : ∀ r ∈ m.frames, r.state ≠ .reserved) (reason : CloseReason) : beginClose st reason s =
    if s.rolls[st].headerRequest then withdrawHeader st (modMap st (fun m => { m with closing := some reason }) s)
    else modMap st (fun m => { m with closing := some reason }) s := by
  have hlow : lowestReserved m = none := by
    rw [lowestReserved, List.find?_eq_none.mpr (fun r hr => by simpa using hno r hr), Option.map_none]
  have hreq : (modMap st (fun m => { m with closing := some reason }) s).rolls[st].headerRequest = s.rolls[st].headerRequest := by
    simp only [modMap, modRoll_rolls, upd_self]
  simp only [beginClose, hm, hlow, hreq]

theorem closeUnderWay_open (hclosing : m.closing = none) : closeUnderWay s st = false := by
  rw [closeUnderWay_of_map hm, hclosing]; rfl

end

/-- A station whose roll is about to close (R40): its timers, its gap and its ask stop. -/
def stopped (st : St) (s : State) : State := dropAsk st (modStation st Station.quiet s)

/-- The close has begun: the map is closing, and its header request, if one is outstanding, is withdrawn. -/
def closeBegun (st : St) (reason : CloseReason) (s : State) : State := modMap st (fun m => { m with closing := some reason }) (stopped st s)

theorem upd_discarded {v : Vector RollRec 4} {st : St} {reason : CloseReason} {g : RollRec → RollRec}
    (h : ∀ r, (g r).discarded reason = r.discarded reason) :
    upd (upd v st g) st (RollRec.discarded reason) = upd v st (RollRec.discarded reason) := by
  rw [upd_upd]
  exact congrArg (upd v st) (funext h)

theorem upd_rollLess_quiet (v : Vector Station 4) (st : St) :
    upd (upd v st Station.quiet) st Station.rollLess = upd v st Station.rollLess := by
  rw [upd_upd]
  rfl

section
variable (st : St) (reason : CloseReason) (p : ConsolePort) (r : Record) (c : Composer) (v : Vector (Option Device) 16) (s : State)

theorem rollGone_closeBegun : rollGone st reason p r c v (closeBegun st reason s) = rollGone st reason p r c v s := by
  have hrolls : upd (closeBegun st reason s).rolls st (RollRec.discarded reason) = upd s.rolls st (RollRec.discarded reason) :=
    upd_discarded fun _ => rfl
  have hstations : upd (closeBegun st reason s).stations st Station.rollLess = upd s.stations st Station.rollLess :=
    upd_rollLess_quiet _ _
  have hasks : (closeBegun st reason s).ring.asks.set st.val none st.isLt = s.ring.asks.set st.val none st.isLt := Vector.set_set ..
  unfold rollGone
  rw [hrolls, hstations, hasks]
  rfl

theorem rollGone_withdrawn : rollGone st reason p r c v (withdrawHeader st (closeBegun st reason s)) = rollGone st reason p r c v s := by
  have hrolls : upd (withdrawHeader st (closeBegun st reason s)).rolls st (RollRec.discarded reason)
      = upd (closeBegun st reason s).rolls st (RollRec.discarded reason) := upd_discarded fun _ => rfl
  refine Eq.trans ?_ (rollGone_closeBegun st reason p r c v s)
  unfold rollGone
  rw [hrolls]
  rfl

end

theorem countFrames_eq {m : RollMap} {f g : FrameState → Bool} (h : ∀ r ∈ m.frames, f r.state = g r.state) :
    countFrames m f = m.frames.countP fun r => g r.state := by
  rw [countFrames, ← List.countP_eq_length_filter]
  exact List.countP_congr fun r hr => by rw [h r hr]

theorem rollReportEvent_eq (st : St) {m : RollMap} (hno : ∀ r ∈ m.frames, r.state ≠ .reserved) (reason : CloseReason) :
    Record.event 0 (rollReportEvent st m reason) = closeReport st m reason := by
  have hexposed : countFrames m (fun x => x == .exposed) = m.frames.countP fun r => r.state == .exposed :=
    countFrames_eq fun _ _ => rfl
  rw [rollReportEvent, closeReport, hexposed, countFrames_eq (g := fun x => x != .exposed)]
  intro r hr
  have hne := hno r hr
  revert hne
  cases r.state with
  | reserved => exact fun h => absurd rfl h
  | exposed => exact fun _ => rfl
  | spoiled _ => exact fun _ => rfl

section
variable {s : State} {st : St} {m : RollMap} {reason : CloseReason} (hm : s.rolls[st].map = some m)
  (hclosing : m.closing = none) (hno : ∀ r ∈ m.frames, r.state ≠ .reserved)
include hm hclosing hno

omit hclosing hno in
theorem closeBegun_map : (closeBegun st reason s).rolls[st].map = some { m with closing := some reason } := by
  have hm' : (stopped st s).rolls[st].map = some m := hm
  simp only [closeBegun, modMap, modRoll_rolls, upd_self, hm', Option.map_some]

omit hno in
theorem closeRoll_of_begun {u : State} {m' : RollMap} (hbegin : beginClose st reason (stopped st s) = u)
    (hmap : u.rolls[st].map = some m') : closeRoll st reason s =
      if canPost u.eq then rollClosed st (discardMap st (joinTail (.event 0 (rollReportEvent st m' reason)) u))
      else addWaiter (.rollReport st) u := by
  unfold closeRoll
  rw [closeUnderWay_open hm hclosing, if_neg Bool.false_ne_true, ← stopped]
  dsimp only
  rw [hbegin]
  simp only [hmap]

omit hclosing in
theorem beginClose_stopped (hreq : s.rolls[st].headerRequest = false) :
    beginClose st reason (stopped st s) = closeBegun st reason s := by
  have hreq' : (stopped st s).rolls[st].headerRequest = false := hreq
  have hb := beginClose_marked (s := stopped st s) (st := st) (m := m) hm hno reason
  rw [hreq'] at hb
  exact hb

omit hclosing in
theorem beginClose_stopped_request (hreq : s.rolls[st].headerRequest = true) :
    beginClose st reason (stopped st s) = withdrawHeader st (closeBegun st reason s) := by
  have hreq' : (stopped st s).rolls[st].headerRequest = true := hreq
  have hb := beginClose_marked (s := stopped st s) (st := st) (m := m) hm hno reason
  rw [hreq'] at hb
  exact hb

omit hm hclosing hno in
theorem closeBegun_onlyChanges (st : St) (reason : CloseReason) (s : State) :
    OnlyChanges [.stations, .ring, .rolls] s (closeBegun st reason s) :=
  (((modStation_onlyChanges st Station.quiet s).widen).andThen (dropAsk_onlyChanges st _)).andThen (modMap_onlyChanges st _ _)

omit hm hclosing hno in
theorem closeBegun_station (st : St) (reason : CloseReason) (s : State) :
    (closeBegun st reason s).stations[st] = s.stations[st].quiet := modStation_self st Station.quiet s

omit hm hclosing hno in
theorem withdrawHeader_onlyChanges (st : St) (s : State) : OnlyChanges [.composer, .rolls] s (withdrawHeader st s) :=
  ((modComposer_onlyChanges _ s).widen).andThen (modRoll_onlyChanges st _ _)

section
variable (hpost : s.stations[st].pendingPost = none)
  (hfree : ¬ (s.stations[st].state = .suspended ∧ s.stations[st].susp.requestHeld = true)) (hup : bothUp s st = true)
  (hroom : Room s 1)
include hpost hfree hup hroom

/-- A close whose ROLL_REPORT finds room, of a roll with a header slot (R40). -/
theorem closeRoll_header {h : Fin 320} (hreq : s.rolls[st].headerRequest = false) (hh : m.header = some h)
    (hstrips : s.composer.strips ≠ []) : ∃ p w v, Transmits s { s with port := p } ∧ DevicesKept s.devices v
      ∧ (∀ i : Fin 320, w[i] = if i = h then .queued (headerLabel s.composer.stand st m reason)
          else if i ∈ m.frames.map (·.slot) then .queued (slotLines s.composer i) else s.composer.slots[i])
      ∧ closeRoll st reason s = rollGone st reason p (closeReport st m reason)
          { s.composer with slots := w, strips := s.composer.strips ++ [mapStrip st m reason h] } v s := by
  have hmap := closeBegun_map hm (reason := reason)
  have honly := closeBegun_onlyChanges st reason s
  obtain ⟨u, hu⟩ : ∃ u, u = closeBegun st reason s := ⟨_, rfl⟩
  have hq : u.stations[st] = s.stations[st].quiet := by rw [hu]; exact closeBegun_station st reason s
  have hgone := rollGone_closeBegun st reason
  rw [← hu] at hmap honly
  have hclose := closeRoll_of_begun hm hclosing (hu ▸ beginClose_stopped hm hno hreq) hmap
  have hroomU : Room u 1 := hroom.congr (honly .eventQueue (by decide))
  have hcomposer : u.composer = s.composer := honly .composer (by decide)
  have hdev : u.devices = s.devices := honly .devices (by decide)
  have hport : u.port = s.port := honly .port (by decide)
  have hupU : bothUp u st = true := (bothUp_kept (by rw [honly .bindings (by decide)]) (by rw [hdev]; exact .refl _)).trans hup
  obtain ⟨p, w, v, htransmits, hv, hw, he⟩ := report_header hmap rfl (by rw [hq]; exact hpost) (by rw [hq]; exact hfree) hupU hh
    (by rw [hcomposer]; exact hstrips) (.event 0 (rollReportEvent st { m with closing := some reason } reason))
  rw [hcomposer] at hw he
  refine ⟨p, w, v, ?_, by rw [hdev] at hv; exact hv, hw, ?_⟩
  · unfold Transmits at htransmits ⊢
    rw [hport] at htransmits
    exact htransmits
  · rw [hclose, if_pos (canPost_of_room hroomU), he, hu, hgone,
      rollReportEvent_eq st (m := { m with closing := some reason }) hno reason]
    rfl

/-- A close whose ROLL_REPORT finds room, of a roll without a header slot, whose header request is withdrawn (R40, R122). -/
theorem closeRoll_request (hreq : s.rolls[st].headerRequest = true) (hh : m.header = none) :
    ∃ p v, Transmits s { s with port := p } ∧ DevicesKept s.devices v
      ∧ closeRoll st reason s = rollGone st reason p (closeReport st m reason)
          { s.composer with headerList := s.composer.headerList.erase st } v s := by
  have honly : OnlyChanges [.stations, .ring, .rolls, .composer] s (withdrawHeader st (closeBegun st reason s)) :=
    ((closeBegun_onlyChanges st reason s).widen).andThen (withdrawHeader_onlyChanges st _)
  have hmap : (withdrawHeader st (closeBegun st reason s)).rolls[st].map = some { m with closing := some reason } := by
    rw [← closeBegun_map hm, withdrawHeader, modRoll_rolls, upd_self]; rfl
  have hcomposer : (withdrawHeader st (closeBegun st reason s)).composer
      = { s.composer with headerList := s.composer.headerList.erase st } := rfl
  have hq : (withdrawHeader st (closeBegun st reason s)).stations[st] = s.stations[st].quiet := closeBegun_station st reason s
  have hgone := rollGone_withdrawn st reason
  have hbegin := beginClose_stopped_request hm hno hreq (reason := reason)
  obtain ⟨u, hu⟩ : ∃ u, u = withdrawHeader st (closeBegun st reason s) := ⟨_, rfl⟩
  rw [← hu] at hmap honly hcomposer hq hbegin
  have hclose := closeRoll_of_begun hm hclosing hbegin hmap
  have hroomU : Room u 1 := hroom.congr (honly .eventQueue (by decide))
  have hdev : u.devices = s.devices := honly .devices (by decide)
  have hport : u.port = s.port := honly .port (by decide)
  have hupU : bothUp u st = true := (bothUp_kept (by rw [honly .bindings (by decide)]) (by rw [hdev]; exact .refl _)).trans hup
  obtain ⟨p, v, htransmits, hv, he⟩ := report_noHeader hmap rfl (by rw [hq]; exact hpost) (by rw [hq]; exact hfree) hupU hh
    (.event 0 (rollReportEvent st { m with closing := some reason } reason))
  rw [hcomposer] at he
  refine ⟨p, v, ?_, by rw [hdev] at hv; exact hv, ?_⟩
  · unfold Transmits at htransmits ⊢
    rw [hport] at htransmits
    exact htransmits
  · rw [hclose, if_pos (canPost_of_room hroomU), he, hu, hgone,
      rollReportEvent_eq st (m := { m with closing := some reason }) hno reason]
    rfl

end

/-- A close whose ROLL_REPORT finds no room waits with the map closing (R40). -/
theorem closeRoll_waits (hfull : freePlaces s.eq = 0) (hreq : s.rolls[st].headerRequest = false) :
    closeRoll st reason s = addWaiter (.rollReport st) (closeBegun st reason s) := by
  rw [closeRoll_of_begun hm hclosing (beginClose_stopped hm hno hreq) (closeBegun_map hm), if_neg]
  have hfull' : freePlaces (closeBegun st reason s).eq = 0 := by
    rw [closeBegun_onlyChanges st reason s .eventQueue (by decide)]; exact hfull
  rw [not_canPost_of_full hfull']
  exact Bool.false_ne_true

end

end Sys2Proof.Machine
end

section
/-! PROOFS. The waiters whose place has come (R13, R25, R40, R84, R131, R155, R178, R197), and the reports of idle polls that go
upstream (R154, R155). -/

namespace Sys2Proof.Machine

/-! ### A waiter uses its place (R178) -/

theorem hasPlace_of_given {s : State} {w : Waiter} {rest : List Waiter} (h : s.eq.given = w :: rest) : hasPlace w s = true := by
  rw [hasPlace, h]; exact beq_self_eq_true _

/-- A record that has taken the place of the waiter at the head (R178). -/
def placeUsed (r : Record) (rest : List Waiter) (p : ConsolePort) (s : State) : State :=
  { s with port := p, eq := { s.eq with given := rest, records := s.eq.records ++ [r] } }

theorem usePlace_eq {s : State} {w : Waiter} {rest : List Waiter} (h : s.eq.given = w :: rest) (r : Record) : ∃ p,
    usePlace r s = placeUsed r rest p s ∧ Transmits s { s with port := p } := by
  obtain ⟨p, hjoin, htransmits⟩ := joinTail_eq r { s with eq := { s.eq with given := rest } }
  refine ⟨p, ?_, htransmits⟩
  rw [usePlace, h, List.tail_cons, hjoin]
  rfl

theorem placeUsed_onlyChanges (r : Record) (rest : List Waiter) (p : ConsolePort) (s : State) :
    OnlyChanges [.eventQueue, .port] s (placeUsed r rest p s) := by
  intro q hq
  cases q with
  | eventQueue | port => exact absurd (by decide) hq
  | _ => rfl

theorem exec_orderSummaryQueued {s : State} {i : Fin 16} {o : Order} {e : Event} (hl : Live s) (hp : hasPlace (.orderSummary i) s = true)
    (ho : s.orders[i] = some o) (he : o.summary = some e) :
    exec (.orderSummaryQueued i) s = .next (freeOrder i (usePlace (.event o.summaryTag e) s)) := by
  have hexec : exec (.orderSummaryQueued i) s = execOrderSummaryQueued i s := rfl
  rw [hexec, execOrderSummaryQueued, live_of_live hl, if_pos hp]
  simp only [ho, he]

theorem exec_stripPrintedQueued {s : State} {e : Event} (hl : Live s) (hp : hasPlace .stripPrinted s = true)
    (he : s.composer.pendingPost = some e) :
    exec .stripPrintedQueued s = .next (finish (stripLeaves (usePlace (.event 0 e) s))) := by
  have hexec : exec .stripPrintedQueued s = execStripPrintedQueued s := rfl
  rw [hexec, execStripPrintedQueued, live_of_live hl, if_pos hp]
  simp only [he]

theorem exec_deviceReportQueued {s : State} {e : Event} {later : List Event} (hl : Live s) (hp : hasPlace .deviceReport s = true)
    (he : s.ring.heldReports = e :: later) : exec .deviceReportQueued s
      = .next (finish (usePlace (.event 0 e) { s with ring := { s.ring with heldReports := later } })) := by
  have hexec : exec .deviceReportQueued s = execDeviceReportQueued s := rfl
  rw [hexec, execDeviceReportQueued, live_of_live hl, if_pos hp]
  simp only [he]

theorem exec_faultNoticeQueued {s : State} {x : FaultRecord} (hl : Live s) (hp : hasPlace .faultNotice s = true)
    (hx : s.capture.record = some x) : exec .faultNoticeQueued s
      = .next (usePlace (.event 0 (.faultNotice x)) { s with capture := { s.capture with notice := .posted } }) := by
  have hexec : exec .faultNoticeQueued s = execFaultNoticeQueued s := rfl
  rw [hexec, execFaultNoticeQueued, live_of_live hl, if_pos hp]
  simp only [hx]

/-- The last strip of the list leaves it, and no barrier counts it (R131). -/
theorem stripLeaves_last {s : State} {p : Strip} (hp : s.composer.strips = [p]) (hb : s.composer.barrierCount = none) :
    stripLeaves s = modComposer (fun c =>
      { c with strips := [], pendingPost := none, sent := false, again := false, print := .idle }) s := by
  have hcount (c : Composer → Composer) (h : (c s.composer).barrierCount = none) : countBarrier (modComposer c s) = modComposer c s := by
    have h' : (modComposer c s).composer.barrierCount = none := h
    simp only [countBarrier, h']
  rw [stripLeaves, hcount _ hb]
  have hstrips : (modComposer (fun c => { c with strips := c.strips.tail, pendingPost := none, sent := false, again := false }) s).composer.strips
      = [] := by
    show s.composer.strips.tail = []
    rw [hp]; rfl
  have hsame : modComposer (fun c => { c with strips := c.strips.tail, pendingPost := none, sent := false, again := false }) s
      = modComposer (fun c => { c with strips := [], pendingPost := none, sent := false, again := false }) s := by
    simp only [modComposer, hp, List.tail_cons]
  simp only [startPrinting, hstrips]
  rw [hsame]
  rfl

/-! ### The report of an idle poll (R147, R154) -/

theorem replied_addr (d : Device) : d.replied.addr = d.addr := (replied_kept d).1

theorem replied_cls (d : Device) : d.replied.cls = d.cls := (replied_kept d).2.1

/-- A report is routed by the entry's address and class alone (R154). -/
theorem routeReport_replied (d : Device) (x : Status) (s : State) : routeReport d.replied x s = routeReport d x s := by
  cases x with
  | camera flags r => simp only [routeReport, cameraUpstream, replied_addr]
  | printer r => rfl
  | items condition items => simp only [routeReport, replied_addr, replied_cls]

theorem kindAccepted_status {t : Transaction} {f : LinkFrame} (hf : t.purpose ≠ .forwarded) (hw : t.purpose ≠ .wake)
    (hreq : t.request.kind = 0x02) (hk : f.kind = 0x14) (hparses : (parseStatus t.cls f.payload).isSome = true) :
    kindAccepted t f = true := by
  unfold kindAccepted
  rw [if_neg hf, if_neg hw, hk, if_neg (by decide), if_pos (show t.request.kind = kindStatus from hreq), hparses]
  rfl

theorem routeReply_status {s : State} {t : Transaction} {f : LinkFrame} {d : Device} {x : Status} (hd : s.devices[t.entry] = some d)
    (hk : f.kind = 0x14) (hx : parseStatus t.cls f.payload = some x) (route : Device → Status → State → State) :
    routeReply t f route s = route d x s := by
  have hk' : f.kind = kindStatusReply := hk
  simp only [routeReply, hd, hk', if_true, hx]

/-- The status of an idle poll: the entry has replied, its report is routed, and the grant ends (R147, R154). -/
theorem exec_idlePoll {s : State} {t : Transaction} {d : Device} {f : LinkFrame} {x : Status} (ho : AnswersOpen s t d f)
    (hreq : t.requester = .idlePoller) (hp : t.purpose = .idlePoll) (hkind : t.request.kind = 0x02) (hk : f.kind = 0x14)
    (hx : parseStatus d.cls f.payload = some x) : exec (.statusReplyReceived f.wire) s
      = .next (finish (endGrant (routeReport d x (modDevice t.entry Device.replied s)))) := by
  obtain ⟨hl, -, -, hr, hd, hcls, ha⟩ := ho
  have hx' : parseStatus t.cls f.payload = some x := by rw [hcls]; exact hx
  have hd' : (modDevice t.entry Device.replied s).devices[t.entry] = some d.replied := by
    rw [modDevice_devices, upd_self, hd.1, Option.map_some]
  have hbring : Brings (.statusReplyReceived f.wire) f := .inr (.inr (.inr (.inr ⟨rfl, by rw [hk]; decide⟩)))
  rw [exec_of_reply hl hr ha (kindAccepted_status (by rw [hp]; decide) (by rw [hp]; decide) hkind hk (by rw [hx']; rfl)) hbring,
    takeReply_poll hr hreq (by rw [hp]; decide), routeReply_status hd' hk hx', routeReport_replied]

/-- The state after an entry's reply has been noted, and before its report is used (R151). -/
def noted (t : Transaction) (s : State) : State := modDevice t.entry Device.replied s

theorem noted_onlyChanges (t : Transaction) (s : State) : OnlyChanges [.devices] s (noted t s) := modDevice_onlyChanges _ _ s

theorem noted_devices (t : Transaction) (s : State) : DevicesKept s.devices (noted t s).devices :=
  devicesKept_upd replied_kept t.entry s.devices

/-- A report that changes nothing of stations, rolls and asks leaves nothing to be done. -/
theorem finish_endGrant_of_kept {s u : State} (hs : Settled s) (hn : NoAsk s) (hstations : u.stations = s.stations)
    (hrolls : u.rolls = s.rolls) (hb : u.bindings = s.bindings) (hslot : u.slot = s.slot)
    (hasks : u.ring.asks = s.ring.asks) (hcomposer : u.ring.composerAsk = s.ring.composerAsk)
    (hd : DevicesKept s.devices u.devices) : finish (endGrant u) = endGrant u :=
  finish_of_noAsk (endGrant_settled (settled_of_same hs hstations hrolls hb hd))
    (hn.kept hslot (fun st => by show u.ring.asks[st] = none; rw [hasks]; exact hn.2.1 st) (hcomposer.trans hn.2.2.1) hd)

theorem postReport_room {s : State} (hroom : Room s 1) (hheld : s.ring.heldReports = []) (e : Event) :
    postReport e s = joinTail (.event 0 e) s := by
  rw [postReport, canPost_of_room hroom, hheld]; rfl

theorem postReport_full {s : State} (hfull : freePlaces s.eq = 0) (e : Event) : postReport e s = { s with
    ring := { s.ring with heldReports := s.ring.heldReports ++ [e] }
    eq := { s.eq with waiters := s.eq.waiters ++ [.deviceReport] } } := by
  have hfull' : freePlaces ({ s with ring := { s.ring with heldReports := s.ring.heldReports ++ [e] } } : State).eq = 0 := hfull
  rw [postReport, not_canPost_of_full hfull, Bool.false_and, if_neg Bool.false_ne_true, addWaiter_of_full hfull']

/-- An act whose end adds nothing. -/
theorem next_of_finish {o : Host.Outcome State Fault Refusal} {u : State} (h : o = .next (finish u)) (hf : finish u = u) :
    o = .next u := by rw [h, hf]

theorem routeReport_upstream {s : State} {d : Device} {flags : Byte} {r : CameraReport} (h : cameraStation s d.addr = none) :
    routeReport d (.camera flags r) s = cameraUpstream d flags r s := by
  simp only [routeReport, h]

theorem u8_toNat (b : Byte) : u8 b.toNat = b := BitVec.ofNat_toNat _ _

/-- A station's post that took its waiter's place with the engine running is finished where it stands. -/
theorem finish_placeUsed {s u : State} (hs : Settled s) (hb : EngineBusy s) (hstations : u.stations = s.stations)
    (hrolls : u.rolls = s.rolls) (hbind : u.bindings = s.bindings) (hdev : u.devices = s.devices)
    (hengine : u.ring.engine = s.ring.engine) : finish u = u :=
  finish_of_busy (settled_of_same hs hstations hrolls hbind (by rw [hdev]; exact .refl _)) (by rw [EngineBusy, hengine]; exact hb)

section
variable {s : State} {t : Transaction} {d : Device} {f : LinkFrame} (ho : AnswersOpen s t d f)
  (hreq : t.requester = .idlePoller) (hp : t.purpose = .idlePoll) (hkind : t.request.kind = 0x02) (hk : f.kind = 0x14)
include ho hreq hp hkind hk

theorem exec_idlePoll_kept {x : Status} (hx : parseStatus d.cls f.payload = some x)
    (h : routeReport d x (noted t s) = noted t s) :
    exec (.statusReplyReceived f.wire) s = .next (endGrant (noted t s)) := by
  obtain ⟨-, hs, hn, -⟩ := id ho
  have hexec := exec_idlePoll ho hreq hp hkind hk hx
  rw [show routeReport d x (modDevice t.entry Device.replied s) = noted t s from h] at hexec
  exact next_of_finish hexec (finish_endGrant_of_kept hs hn rfl rfl rfl rfl rfl rfl (noted_devices t s))

/-- A DEVICE_REPORT that finds room is posted (R155). -/
theorem exec_idlePoll_posted {x : Status} {e : Event} (hx : parseStatus d.cls f.payload = some x)
    (h : routeReport d x (noted t s) = postReport e (noted t s)) (hroom : Room s 1) (hheld : s.ring.heldReports = []) :
    Completes (exec (.statusReplyReceived f.wire) s) fun u => OnlyChanges [.devices, .ring, .eventQueue, .port] s u
      ∧ u.ring = { s.ring with engine := none } ∧ Posted s u [.event 0 e] := by
  obtain ⟨-, hs, hn, -⟩ := id ho
  obtain ⟨p, hjoin, htransmits⟩ := joinTail_eq (.event 0 e) (noted t s)
  have hexec := exec_idlePoll ho hreq hp hkind hk hx
  rw [show routeReport d x (modDevice t.entry Device.replied s) = _ from h, postReport_room (s := noted t s) hroom hheld, hjoin] at hexec
  refine ⟨_, next_of_finish hexec (finish_endGrant_of_kept hs hn rfl rfl rfl rfl rfl rfl (noted_devices t s)), ?_, rfl, rfl,
    htransmits⟩
  intro q hq
  cases q with
  | devices | ring | eventQueue | port => exact absurd (by decide) hq
  | _ => rfl

/-- A DEVICE_REPORT that finds no room is held, and the Idle Poller waits (R155). -/
theorem exec_idlePoll_held {x : Status} {e : Event} (hx : parseStatus d.cls f.payload = some x)
    (h : routeReport d x (noted t s) = postReport e (noted t s)) (hfull : freePlaces s.eq = 0) :
    Completes (exec (.statusReplyReceived f.wire) s) fun u => OnlyChanges [.devices, .ring, .eventQueue] s u
      ∧ u.ring = { s.ring with engine := none, heldReports := s.ring.heldReports ++ [e] }
      ∧ u.eq = { s.eq with waiters := s.eq.waiters ++ [.deviceReport] } := by
  obtain ⟨-, hs, hn, -⟩ := id ho
  have hexec := exec_idlePoll ho hreq hp hkind hk hx
  rw [show routeReport d x (modDevice t.entry Device.replied s) = _ from h, postReport_full (s := noted t s) hfull] at hexec
  refine ⟨_, next_of_finish hexec (finish_endGrant_of_kept hs hn rfl rfl rfl rfl rfl rfl (noted_devices t s)), ?_, rfl, rfl⟩
  intro q hq
  cases q with
  | devices | ring | eventQueue => exact absurd (by decide) hq
  | _ => rfl

end

theorem parseStatus_items {c : DevClass} (h : c = .lamp ∨ c = .other) {condition n : Byte} {items : List Byte} (hn : n.toNat ≤ 8)
    (hl : items.length = n.toNat) : parseStatus c (condition :: n :: items) = some (.items condition items) := by
  rcases h with rfl | rfl <;> simp only [parseStatus, parseItemStatus, hn, hl, and_self, if_true]

/-- Settles O49. -/
theorem waitersUseTheirPlaces : Obligations.WaitersUseTheirPlaces := by
  refine ⟨fun s w rest hsteady hgiven => ⟨?_, ?_, ?_, ?_⟩, fun s t d f ho hreq hp hkind hk => ⟨?_, ?_⟩, fun a condition items =>
    ⟨rfl, rfl⟩, fun a flags gate => rfl⟩
  · rintro i o e rfl horder he
    obtain ⟨p, huse, htransmits⟩ := usePlace_eq hgiven (.event o.summaryTag e)
    refine ⟨_, exec_orderSummaryQueued hsteady.1 (hasPlace_of_given hgiven) horder he, ?_⟩
    rw [huse]
    exact ⟨((placeUsed_onlyChanges _ _ _ s).widen).andThen (setOrders_onlyChanges _ _), rfl, htransmits, rfl⟩
  · rintro e p rfl hpost hstrips hbarrier
    obtain ⟨hl, hs, hb⟩ := hsteady
    obtain ⟨q, huse, htransmits⟩ := usePlace_eq hgiven (.event 0 e)
    have hexec := exec_stripPrintedQueued hl (hasPlace_of_given hgiven) hpost
    rw [huse, stripLeaves_last (s := placeUsed (.event 0 e) rest q s) hstrips hbarrier] at hexec
    exact ⟨_, next_of_finish hexec (finish_placeUsed hs hb rfl rfl rfl rfl rfl),
      ((placeUsed_onlyChanges _ _ _ s).widen).andThen (modComposer_onlyChanges _ _), rfl, rfl, rfl, htransmits, rfl⟩
  · rintro e later rfl hheld
    obtain ⟨hl, hs, hb⟩ := hsteady
    obtain ⟨q, huse, htransmits⟩ := usePlace_eq (s := { s with ring := { s.ring with heldReports := later } }) hgiven (.event 0 e)
    have hexec := exec_deviceReportQueued hl (hasPlace_of_given hgiven) hheld
    rw [huse] at hexec
    exact ⟨_, next_of_finish hexec (finish_placeUsed hs hb rfl rfl rfl rfl rfl),
      ((ring_onlyChanges _ s).widen).andThen (placeUsed_onlyChanges _ _ _ _), rfl, htransmits, rfl⟩
  · rintro x rfl hx
    obtain ⟨q, huse, htransmits⟩ := usePlace_eq (s := { s with capture := { s.capture with notice := .posted } }) hgiven
      (.event 0 (.faultNotice x))
    refine ⟨_, exec_faultNoticeQueued hsteady.1 (hasPlace_of_given hgiven) hx, ?_⟩
    rw [huse]
    exact ⟨((capture_onlyChanges _ s).widen).andThen (placeUsed_onlyChanges _ _ _ _), rfl, htransmits, rfl⟩
  · intro condition n items hc hpay hn hlen
    have hx : parseStatus d.cls f.payload = some (.items condition items) := by rw [hpay]; exact parseStatus_items hc hn hlen
    have hroute (hne : items ≠ []) : routeReport d (.items condition items) (noted t s)
        = postReport (.deviceReport d.addr d.cls condition items) (noted t s) := by
      cases items with
      | nil => exact absurd rfl hne
      | cons _ _ => rfl
    refine ⟨?_, fun hne hroom hheld => exec_idlePoll_posted ho hreq hp hkind hk hx (hroute hne) hroom hheld,
      fun hne hfull => exec_idlePoll_held ho hreq hp hkind hk hx (hroute hne) hfull⟩
    rintro rfl
    exact ⟨_, exec_idlePoll_kept ho hreq hp hkind hk hx rfl, ((noted_onlyChanges t s).widen).andThen (ring_onlyChanges _ _), rfl⟩
  · intro flags stock gate hc hcam hpay hparses
    have hx : parseStatus d.cls f.payload = some (.camera flags (cameraReport flags stock gate)) := by
      rw [hc, hpay]; exact parseStatus_camera (hpay ▸ hparses)
    have hroute := routeReport_upstream (s := noted t s) (d := d) (flags := flags) (r := cameraReport flags stock gate) hcam
    have hgate : u8 (cameraReport flags stock gate).gate = if flags.getLsbD 0 then gate else 0 := by
      unfold cameraReport
      dsimp only
      split
      · exact u8_toNat gate
      · rfl
    have hlatched : ((cameraReport flags stock gate).shot.isSome || (cameraReport flags stock gate).advanced)
        = (flags.getLsbD 1 || flags.getLsbD 3) := by
      unfold cameraReport
      dsimp only
      cases flags.getLsbD 1 <;> rfl
    refine ⟨fun h1 h3 => ?_, fun h hroom hheld => ?_⟩
    · have hkept : routeReport d (.camera flags (cameraReport flags stock gate)) (noted t s) = noted t s := by
        rw [hroute, cameraUpstream, hlatched, h1, h3]; rfl
      exact ⟨_, exec_idlePoll_kept ho hreq hp hkind hk hx hkept,
        ((noted_onlyChanges t s).widen).andThen (ring_onlyChanges _ _), rfl⟩
    · have hpost : routeReport d (.camera flags (cameraReport flags stock gate)) (noted t s)
          = postReport (.cameraReport d.addr flags (if flags.getLsbD 0 then gate else 0)) (noted t s) := by
        rw [hroute, cameraUpstream, hlatched, hgate]
        rcases h with h | h
        · rw [h]; rfl
        · rw [h, Bool.or_true]; rfl
      exact exec_idlePoll_posted ho hreq hp hkind hk hx hpost hroom hheld

/-! ### The station whose roll has closed (R40, R64) -/

section
variable (st : St) (reason : CloseReason) (p : ConsolePort) (r : Record) (c : Composer) {v : Vector (Option Device) 16} {s : State}

theorem rollGone_onlyChanges (v : Vector (Option Device) 16) (s : State) :
    OnlyChanges [.stations, .rolls, .composer, .devices, .ring, .eventQueue, .port] s (rollGone st reason p r c v s) := by
  intro q hq
  cases q with
  | stations | rolls | composer | devices | ring | eventQueue | port => exact absurd (by decide) hq
  | _ => rfl

theorem rollGone_station (v : Vector (Option Device) 16) (s : State) :
    (rollGone st reason p r c v s).stations[st] = s.stations[st].rollLess := upd_self _ _ _

theorem rollGone_roll (v : Vector (Option Device) 16) (s : State) :
    (rollGone st reason p r c v s).rolls[st] = s.rolls[st].discarded reason := upd_self _ _ _

theorem rollGone_settled (hs : Settled s) (hv : DevicesKept s.devices v) : Settled (rollGone st reason p r c v s) := by
  have hself := rollGone_station st reason p r c v s
  exact settled_of_others hs (othersSame_upd _ _ _) (othersSame_upd _ _ _) rfl hv
    (atRest_of_state (by rw [hself]; exact (Station.rollLess_state _).1) (by rw [hself]; exact (Station.rollLess_state _).2))

theorem rollGone_finish_busy (hs : Settled s) (hb : EngineBusy s) (hv : DevicesKept s.devices v) :
    finish (rollGone st reason p r c v s) = rollGone st reason p r c v s := by
  refine finish_of_busy (rollGone_settled st reason p r c hs hv) ?_
  show (detachFrom (.station st) s.ring.engine).isSome = true
  rw [detachFrom, Option.isSome_map]
  exact hb

end

theorem exec_pendingPostQueued {s : State} {st : St} {q : Request} {e : Event} (hl : Live s)
    (hp : hasPlace (.requestDone st) s = true) (he : s.stations[st].pendingPost = some e) (hq : headOf s st = some q) :
    exec (.pendingPostQueued st) s = .next (finish (finishRequest st (usePlace (.event q.tag e) s))) := by
  have hexec : exec (.pendingPostQueued st) s = execPendingPostQueued st s := rfl
  rw [hexec, execPendingPostQueued, live_of_live hl, if_pos hp]
  simp only [he, hq]

theorem exec_rollOpenQueued {s : State} {st : St} {m : RollMap} (hl : Live s) (hp : hasPlace (.rollOpen st) s = true)
    (hm : s.rolls[st].map = some m) : exec (.rollOpenQueued st) s = .next (finish (rollOpenTold st
      (modMap st (fun m => { m with opening := false }) (usePlace (.event 0 (rollOpenEvent st m)) s)))) := by
  have hexec : exec (.rollOpenQueued st) s = execRollOpenQueued st s := rfl
  rw [hexec, execRollOpenQueued, live_of_live hl, if_pos hp]
  simp only [hm]

theorem exec_rollReportQueued {s : State} {st : St} {m : RollMap} {reason : CloseReason} (hl : Live s)
    (hp : hasPlace (.rollReport st) s = true) (hm : s.rolls[st].map = some m) (hc : m.closing = some reason) :
    exec (.rollReportQueued st) s
      = .next (finish (rollClosed st (discardMap st (usePlace (.event 0 (rollReportEvent st m reason)) s)))) := by
  have hexec : exec (.rollReportQueued st) s = execRollReportQueued st s := rfl
  rw [hexec, execRollReportQueued, live_of_live hl, if_pos hp]
  simp only [hm, hc]

theorem usePlace_joins {s : State} {w : Waiter} {rest : List Waiter} (h : s.eq.given = w :: rest) (r : Record) :
    usePlace r s = joinTail r { s with eq := { s.eq with given := rest } } := by rw [usePlace, h, List.tail_cons]

/-- Settles O50. -/
theorem stationPostsUseTheirPlaces : Obligations.StationPostsUseTheirPlaces := by
  intro s st rest b m ⟨hl, hs, hb⟩ hup hm
  refine ⟨?_, ?_, ?_, ?_⟩
  · intro q e i o hgiven hstate hpost hq hend hleft ho hn hc
    have hhead : headOf s st = some q := by rw [headOf, hq]; rfl
    obtain ⟨p, huse, htransmits⟩ := usePlace_eq hgiven (.event q.tag e)
    have hexec := exec_pendingPostQueued hl (hasPlace_of_given hgiven) hpost hhead
    obtain ⟨v, hv, hgone⟩ := finishRequest_gone (s := placeUsed (.event q.tag e) rest p s) hhead (ho.congr rfl) hn hc
    have hdequeued : s.stations[st].dequeue.rollEnd = false ∧ s.stations[st].dequeue.state = .ready
        ∧ s.stations[st].dequeue.queue = [] := by
      unfold Station.dequeue
      rw [hstate, if_neg (by decide), hq]
      exact ⟨hend, hstate, rfl⟩
    obtain ⟨u, hu⟩ : ∃ u, u = requestGone st i o v (placeUsed (.event q.tag e) rest p s) := ⟨_, rfl⟩
    have hself : u.stations[st] = s.stations[st].dequeue := by rw [hu]; exact requestGone_station st i o v _
    have honly : OnlyChanges [.stations, .orders, .devices, .eventQueue, .port] s u := by
      rw [hu]
      exact ((placeUsed_onlyChanges _ _ _ s).widen).andThen (requestGone_onlyChanges st i o v _)
    have hvU : DevicesKept s.devices u.devices := by rw [hu]; exact hv
    have hothers : OthersSame st s.stations u.stations := by rw [hu]; exact othersSame_upd _ _ _
    have hafter : afterRequest st s.stations[st].leftUp u = modStation st (fun x => { x with state := .ready }) u := by
      rw [hleft]
      refine afterRequest_ready (by rw [hself]; exact hdequeued.1) (by rw [honly .rolls (by decide)]; exact hm)
        (by rw [hself, hdequeued.2.1]; decide) ?_
      exact (bothUp_kept (by rw [honly .bindings (by decide)]) hvU).trans hup.2
    have hself' := modStation_self st (fun x => { x with state := .ready }) u
    have hsU : Settled (modStation st (fun x => { x with state := .ready }) u) := by
      refine settled_of_others hs (fun st' hne => (othersSame_upd _ _ _ st' hne).trans (hothers st' hne))
        (by rw [modStation_rolls, honly .rolls (by decide)]; exact othersSame_refl _ _) (honly .bindings (by decide)) hvU
        (atRest_of_empty (by rw [hself']; nofun) (by rw [hself', hself]; exact hdequeued.2.2))
    have hbU : EngineBusy (modStation st (fun x => { x with state := .ready }) u) := hb.congr (honly .ring (by decide))
    rw [huse, hgone] at hexec
    have hleftU : (placeUsed (.event q.tag e) rest p s).stations[st].leftUp = s.stations[st].leftUp := rfl
    rw [hleftU, ← hu, hafter] at hexec
    refine ⟨_, next_of_finish hexec (finish_of_busy hsU hbU), (honly.widen).andThen (modStation_onlyChanges st _ _),
      fun st' hne => (othersSame_upd _ _ _ st' hne).trans (hothers st' hne), by rw [hself'], ?_, ?_, ?_, ?_, ?_⟩
    · rw [hself', hself]; exact hdequeued.2.2
    · rw [hself', hself]; rfl
    · show u.orders = _
      rw [hu]; rfl
    · show Transmits s u
      rw [hu]; exact htransmits
    · show u.eq = _
      rw [hu]; rfl
  · intro hgiven hstate hopen
    obtain ⟨p, huse, htransmits⟩ := usePlace_eq hgiven (.event 0 (rollOpenEvent st m))
    have hexec := exec_rollOpenQueued hl (hasPlace_of_given hgiven) hm
    obtain ⟨u, hu⟩ : ∃ u, u = modMap st (fun m => { m with opening := false })
      (placeUsed (.event 0 (rollOpenEvent st m)) rest p s) := ⟨_, rfl⟩
    have hself : u.stations = s.stations := by rw [hu]; rfl
    have hupU : BoundUp u st b := hup.kept (by rw [hu]; rfl) (by rw [hu]; exact .refl _)
    have honly : OnlyChanges [.rolls, .eventQueue, .port] s u := by
      rw [hu]
      exact ((placeUsed_onlyChanges _ _ _ s).widen).andThen (modMap_onlyChanges st _ _)
    have hrolls : OthersSame st s.rolls u.rolls := by rw [hu]; exact othersSame_upd _ _ _
    have hsU : Settled u := settled_of_others hs (by rw [hself]; exact othersSame_refl _ _) hrolls (honly .bindings (by decide))
      (by rw [honly .devices (by decide)]; exact .refl _)
      (atRest_of_state (by rw [hself, hstate]; decide) (by rw [hself, hstate]; decide))
    have hbU : EngineBusy u := hb.congr (honly .ring (by decide))
    have htold : rollOpenTold st u = standAsk st ⟨b.camera, 0x02, [], .rollCheck⟩ (modStation st Station.checked u) := by
      rw [← enterChecked_standAsk hupU, rollOpenTold, hself, if_pos (.inl hstate)]
    have hfin : finish (standAsk st ⟨b.camera, 0x02, [], .rollCheck⟩ (modStation st Station.checked u))
        = standAsk st ⟨b.camera, 0x02, [], .rollCheck⟩ (modStation st Station.checked u) :=
      EndsAt.finish_busy (st := st) (s := u)
        ⟨othersSame_upd _ _ _, othersSame_refl _ _, rfl, .refl _, Station.checked_atRest st _⟩ hsU hbU
    rw [huse, ← hu, htold] at hexec
    have hself' := modStation_self st Station.checked u
    refine ⟨_, next_of_finish hexec hfin, (honly.widen).andThen (standAsk_modStation_onlyChanges st _ _ _),
      fun st' hne => (othersSame_upd _ _ _ st' hne).trans (by rw [hself]), hrolls, ?_, ?_, ?_, standAsk_asks _ _ _, ?_, ?_⟩
    · show u.rolls[st].map = _
      rw [hu]
      simp only [modMap, modRoll_rolls, upd_self, placeUsed, hm, Option.map_some]
    · exact congrArg Station.state hself'
    · exact congrArg Station.rollCheck hself'
    · show Transmits s u
      rw [hu]; exact htransmits
    · show u.eq = _
      rw [hu]; rfl
  · intro reason hgiven hstate hq hpost hc hh hframes
    have hexec := exec_rollReportQueued hl (hasPlace_of_given hgiven) hm hc
    obtain ⟨p, v, htransmits, hv, hreport⟩ := report_noHeader (s := { s with eq := { s.eq with given := rest } }) hm hc hpost
      (by rw [hstate]; exact fun h => nomatch h.1) hup.2 hh (.event 0 (rollReportEvent st m reason))
    rw [usePlace_joins hgiven, hreport] at hexec
    have hs' : Settled { s with eq := { s.eq with given := rest } } := settled_of_same hs rfl rfl rfl (.refl _)
    have hself := rollGone_station st reason p (.event 0 (rollReportEvent st m reason)) s.composer v
      { s with eq := { s.eq with given := rest } }
    refine ⟨_, next_of_finish hexec (rollGone_finish_busy st reason p _ _ hs' hb hv), ?_, othersSame_upd _ _ _,
      othersSame_upd _ _ _, ?_, ?_, ?_, htransmits, ?_⟩
    · intro q' hq'
      cases q' with
      | stations | rolls | devices | ring | eventQueue | port => exact absurd (by decide) hq'
      | _ => rfl
    · rw [rollGone_roll]; rfl
    · rw [rollGone_roll]; rfl
    · rw [hself]
      show (if s.stations[st].queue.head?.any _ then StationState.waitingFilm else .noRoll) = .noRoll
      rw [hq]; rfl
    · have hevent : rollReportEvent st m reason = .rollReport st m.roll m.stock reason (m.next - 1) 0 0 false := by
        rw [rollReportEvent, countFrames, countFrames, hframes, hh]; rfl
      rw [← hevent]; rfl
  · intro reason h hgiven hstate hpost hc hh hreq hno hstrips
    have hexec := exec_rollReportQueued hl (hasPlace_of_given hgiven) hm hc
    have hfree : ¬ (s.stations[st].state = .suspended ∧ s.stations[st].susp.requestHeld = true) := by
      rintro ⟨hsusp, -⟩
      rw [hsusp] at hstate
      exact absurd hstate (by decide)
    obtain ⟨p, w, v, htransmits, hv, hw, hreport⟩ := report_header (s := { s with eq := { s.eq with given := rest } }) hm hc hpost
      hfree hup.2 hh hstrips (.event 0 (rollReportEvent st m reason))
    rw [usePlace_joins hgiven, hreport] at hexec
    have hs' : Settled { s with eq := { s.eq with given := rest } } := settled_of_same hs rfl rfl rfl (.refl _)
    refine ⟨_, next_of_finish hexec (rollGone_finish_busy st reason p _ _ hs' hb hv), ?_, othersSame_upd _ _ _,
      othersSame_upd _ _ _, ?_, ?_, ⟨rfl, hw⟩, htransmits, ?_⟩
    · exact (((eventQueue_onlyChanges _ s).widen).andThen (rollGone_onlyChanges st reason p _ _ v _))
    · rw [rollGone_roll]
      show { s.rolls[st] with map := none, headerRequest := false, lastClose := some reason } = _
      rw [← hreq]
    · rw [rollGone_station]; exact Station.rollLess_spec _
    · rw [← rollReportEvent_eq st hno reason]; rfl

end Sys2Proof.Machine
end

section
/-! PROOFS. What the camera report of an idle poll does to a station's roll (R24 to R27, R39 to R41, R63, R124). -/

namespace Sys2Proof.Machine

/-! ### The report reaches its station (R65, R154) -/

/-- What an act at one station leaves, once its grant has ended, is not acted on further (R69, R149, R186). -/
theorem EndsAt.finish_endGrant {st : St} {s u : State} (h : EndsAt st s u) (hs : Settled s) (hn : NoAsk s) (hslot : u.slot = s.slot)
    (hasks : ∀ st', u.ring.asks[(st' : St)] = none) (hcomposer : u.ring.composerAsk = none) :
    finish (endGrant u) = endGrant u :=
  finish_of_noAsk (endGrant_settled (h.settled hs)) (hn.kept hslot hasks hcomposer h.devices)

theorem set_none_of_none {v : Vector (Option Ask) 4} (h : ∀ st : St, v[st] = none) (st : St) :
    v.set st.val none st.isLt = v := by
  rw [← h st]
  exact Vector.set_getElem_self _

section
variable {s : State} {t : Transaction} {st : St} {b : Binding} {d : Device} {f : LinkFrame} {flags stock gate : Byte}
  (ho : AnswersOpen s t d f) (hcamera : StationCamera s st b d)

theorem noted_settled {s : State} (hs : Settled s) (t : Transaction) : Settled (noted t s) :=
  settled_of_same hs rfl rfl rfl (noted_devices t s)

theorem noted_noAsk {s : State} (hn : NoAsk s) (t : Transaction) : NoAsk (noted t s) := hn.kept rfl hn.2.1 hn.2.2.1 (noted_devices t s)

theorem noted_boundUp {s : State} {st : St} {b : Binding} (h : BoundUp s st b) (t : Transaction) : BoundUp (noted t s) st b :=
  h.kept rfl (noted_devices t s)

include ho hcamera

theorem exec_idlePoll_camera (hreq : t.requester = .idlePoller) (hp : t.purpose = .idlePoll) (hkind : t.request.kind = 0x02)
    (hk : f.kind = 0x14) (hpay : f.payload = [flags, stock, gate]) (hparses : StatusParses .camera f.payload) :
    exec (.statusReplyReceived f.wire) s
      = .next (finish (endGrant (stationReport st (cameraReport flags stock gate) (noted t s)))) := by
  obtain ⟨-, hcls, -, hcam, hen⟩ := hcamera
  have hx : parseStatus d.cls f.payload = some (.camera flags (cameraReport flags stock gate)) := by
    rw [hcls, hpay]; exact parseStatus_camera (hpay ▸ hparses)
  rw [exec_idlePoll ho hreq hp hkind hk hx]
  show Host.Outcome.next (finish (endGrant (routeReport d (.camera flags (cameraReport flags stock gate)) (noted t s)))) = _
  rw [routeReport_camera (s := noted t s) hcam hen]

end

/-! ### A roll is opened or refused (R25 to R27) -/

theorem cameraReport_present (flags stock gate : Byte) : (cameraReport flags stock gate).present = flags.getLsbD 0 := rfl

theorem cameraReport_stock {flags : Byte} (h : flags.getLsbD 0 = true) (stock gate : Byte) :
    (cameraReport flags stock gate).stock = stock.toNat := if_pos h

theorem cameraReport_gate {flags : Byte} (h : flags.getLsbD 0 = true) (stock gate : Byte) :
    (cameraReport flags stock gate).gate = gate.toNat := if_pos h

/-- The event that reports a refused roll (R26). -/
def refusedEvent (st : St) (r : CameraReport) (s : State) : Event :=
  if stockOf s r.stock = none then .unknownStock st r.stock r.gate else .rollUnusable st r.stock r.gate

section
variable {s : State} {st : St} {r : CameraReport} (hpresent : r.present = true)
include hpresent

theorem openOrRefuse_removal (h : s.rolls[st].removalRequired = true) : openOrRefuse st r s = s := by
  rw [openOrRefuse, hpresent, h]; rfl

theorem openOrRefuse_refuses (hrem : s.rolls[st].removalRequired = false) (h : stockOf s r.stock = none ∨ r.gate ≠ 1) :
    openOrRefuse st r s = refuseRoll st (refusedEvent st r s) s := by
  have hgo : ¬ (!r.present || s.rolls[st].removalRequired) = true := by rw [hpresent, hrem]; decide
  rw [openOrRefuse, if_neg hgo]
  cases hk : stockOf s r.stock with
  | none => simp only [refusedEvent, hk, if_true]
  | some k =>
    have hgate : r.gate ≠ 1 := h.resolve_left (by rw [hk]; nofun)
    simp only [refusedEvent, hk, if_neg hgate, reduceCtorEq, if_false]

theorem openOrRefuse_opens {k : Stock} (hrem : s.rolls[st].removalRequired = false) (hk : stockOf s r.stock = some k)
    (hgate : r.gate = 1) : openOrRefuse st r s = openRoll st k s := by
  have hgo : ¬ (!r.present || s.rolls[st].removalRequired) = true := by rw [hpresent, hrem]; decide
  rw [openOrRefuse, if_neg hgo]
  simp only [hk, hgate, if_true]

end

theorem refuseRoll_silent {s : State} {st : St} (h : s.rolls[st].insertionReported = true ∨ freePlaces s.eq = 0) (e : Event) :
    refuseRoll st e s = s := by
  refine if_pos ?_
  rcases h with h | h
  · rw [h, Bool.true_or]
  · rw [not_canPost_of_full h, Bool.not_false, Bool.or_true]

theorem refuseRoll_reports {s : State} {st : St} (h : s.rolls[st].insertionReported = false) (hroom : Room s 1) (e : Event) :
    refuseRoll st e s = joinTail (.event 0 e) (modRoll st (fun r => { r with insertionReported := true }) s) := by
  refine if_neg ?_
  rw [h, canPost_of_room hroom]
  decide

/-- The Composer with the header label of a new map given a slot, or put into the header list (R122). -/
def Composer.headed (st : St) (slot : Option (Fin 320)) (c : Composer) : Composer :=
  match slot with
  | some i => { c with slots := c.slots.set i.val (.reserved (.header st)) i.isLt }
  | none => { c with headerList := c.headerList ++ [st] }

/-- The roll record of a station whose map has just opened (R25, R27). -/
def RollRec.opened (m : RollMap) (r : RollRec) : RollRec :=
  { r with map := some m, counter := m.roll, headerRequest := m.header.isNone }

/-- A new map asks for its header slot (R25, R122). -/
theorem requestHeader_opened (st : St) {m : RollMap} (hm : m.header = none) (s : State) :
    requestHeader st (modRoll st (fun r => { r with map := some m, counter := m.roll }) s)
      = modComposer (Composer.headed st (freeSlots s.composer).head?)
          (modRoll st (RollRec.opened { m with header := (freeSlots s.composer).head? }) s) := by
  have hsame : (modRoll st (fun r => { r with map := some m, counter := m.roll }) s).composer = s.composer := rfl
  unfold requestHeader
  rw [hsame]
  cases freeSlots s.composer with
  | nil =>
    have hnone : RollRec.opened { m with header := ([] : List (Fin 320)).head? }
        = fun r => { r with map := some m, counter := m.roll, headerRequest := true } := by
      cases m
      subst hm
      rfl
    rw [hnone]
    simp only [List.head?_nil, modRoll, modComposer, upd_upd, Composer.headed]
    rfl
  | cons i l =>
    simp only [List.head?_cons, giveHeader, modRoll, setSlot, modComposer, upd_upd, Composer.headed]
    rfl

/-- The map that opens for a stock (R25). -/
theorem openRoll_eq (st : St) (k : Stock) (s : State) {m : RollMap}
    (hm : m = { RollMap.fresh k (nextRoll s.rolls[st].counter) with header := (freeSlots s.composer).head? }) :
    openRoll st k s =
      if canPost s.eq then
        modStation st (fun x => { x with state := .ready }) (joinTail (.event 0 (.rollOpen st m.roll k.code k.length))
          (modComposer (Composer.headed st m.header) (modRoll st (RollRec.opened m) s)))
      else addWaiter (.rollOpen st) (modMap st (fun m => { m with opening := true })
        (modComposer (Composer.headed st m.header) (modRoll st (RollRec.opened m) s))) := by
  have hreq := requestHeader_opened st (m := RollMap.fresh k (nextRoll s.rolls[st].counter)) rfl s
  subst hm
  unfold openRoll
  dsimp only
  rw [hreq]
  rfl

/-! ### The report of a station at rest or unloading (R39, R41) -/

theorem stationReport_unloading {s : State} {st : St} (hpost : s.stations[st].pendingPost = none)
    (hstate : s.stations[st].state = .unloading) {r : CameraReport} (habsent : r.present = false) :
    stationReport st r s = closeRoll st .unloaded (noteRollStatus st false s) := by
  simp only [stationReport, noteRollStatus_stations, hpost, hstate, Option.isSome_none, Bool.false_eq_true, if_false, habsent]

/-- A report agrees with a map when it states its stock and its gate frame (R41). -/
def agrees (r : CameraReport) (m : RollMap) : Bool := sameRoll r m && r.gate == m.gate

theorem agrees_iff {flags stock gate : Byte} {m : RollMap} : agrees (cameraReport flags stock gate) m = true
    ↔ flags.getLsbD 0 = true ∧ stock.toNat = m.stock ∧ gate.toNat = m.gate := by
  rw [agrees, Bool.and_eq_true, sameRoll_iff, beq_iff_eq, cameraReport_present]
  by_cases h : flags.getLsbD 0 = true
  · rw [cameraReport_stock h, cameraReport_gate h, and_assoc]
  · exact ⟨fun hc => absurd hc.1.1 h, fun hc => absurd hc.1 h⟩

/-- The roll check of a station, served when it is pending (R63). -/
def checkServed (st : St) (s : State) : State :=
  if s.stations[st].rollCheck then dropAsk st (modStation st Station.served s) else s

section
variable {s : State} {st : St} {m : RollMap} {r : CameraReport} (hm : s.rolls[st].map = some m) (hclosing : m.closing = none)
include hm hclosing

theorem idleReport_agrees (h : agrees r m = true) : idleReport st r s = checkServed st s := by
  have h' : (sameRoll r m && r.gate == m.gate) = true := h
  simp only [idleReport, hm, hclosing, Option.isSome_none, Bool.false_eq_true, if_false, h', if_true]
  rfl

theorem idleReport_mismatch (h : agrees r m = false) : idleReport st r s = closeMismatch st r (checkServed st s) := by
  have h' : (sameRoll r m && r.gate == m.gate) = false := h
  simp only [idleReport, hm, hclosing, Option.isSome_none, Bool.false_eq_true, if_false, h']
  rfl

end

section
variable (st : St) (s : State)

theorem checkServed_onlyChanges : OnlyChanges [.stations, .ring] s (checkServed st s) := by
  unfold checkServed
  split
  · exact ((modStation_onlyChanges st Station.served s).widen).andThen (dropAsk_onlyChanges st _)
  · exact .refl _ s

theorem checkServed_station : (checkServed st s).stations[st] =
    if s.stations[st].rollCheck then s.stations[st].served else s.stations[st] := by
  unfold checkServed
  split
  · exact modStation_self st Station.served s
  · rfl

theorem checkServed_others : OthersSame st s.stations (checkServed st s).stations := by
  unfold checkServed
  split
  · exact othersSame_upd _ _ _
  · exact othersSame_refl _ _

theorem checkServed_ring {s : State} (h : ∀ st' : St, s.ring.asks[st'] = none) : (checkServed st s).ring = s.ring := by
  unfold checkServed
  split
  · have hasks := set_none_of_none h st
    show { s.ring with asks := s.ring.asks.set st.val none st.isLt } = s.ring
    rw [hasks]
  · rfl

end

/-! ### A roll closes for MISMATCH (R41, R190) -/

/-- A roll that does not agree with its map is captured (R41, R197). -/
def mismatchFault (st : St) (a : Byte) : FaultRecord := ⟨.gateMismatch, a, 0x02, some st, none, none, none⟩

/-- A station whose head neither runs nor is suspended holds no request. -/
theorem headHolds_eq_false {s : State} {st : St} (h : ∀ q, headOf s st = some q → q.state ≠ .running ∧ q.state ≠ .suspended) :
    headHolds s st = false := by
  unfold headHolds
  cases hq : headOf s st with
  | none => rfl
  | some q =>
    obtain ⟨hrun, hsusp⟩ := h q hq
    simp only [beq_eq_false_iff_ne.mpr hrun, beq_eq_false_iff_ne.mpr hsusp, Bool.or_self, Bool.false_and]

theorem stationFault_of_noHold {s : State} {st : St} (h : headHolds s st = false) (kind : FaultKind) (a frameKind : Byte)
    (reason : Option Byte) : stationFault kind st a frameKind reason s = ⟨kind, a, frameKind, some st, none, none, reason⟩ := by
  simp only [stationFault, h, Bool.false_eq_true, if_false]

/-- The roll record of a station whose close for MISMATCH begins (R190). -/
def RollRec.removing (p : Bool) (r : RollRec) : RollRec := { r with removalRequired := p }

/-- The state in which the close for MISMATCH finds its roll: the fault is captured, and removal required is as the report says. -/
def mismatched (st : St) (present : Bool) (x : FaultRecord) (p : ConsolePort) (s : State) : State :=
  modRoll st (RollRec.removing present) (captured x p s)

theorem closeMismatch_eq {s : State} {st : St} {b : Binding} (hup : BoundUp s st b) {x : FaultRecord}
    (hx : stationFault .gateMismatch st b.camera kindStatus none s = x) (hc : s.capture.record = none) (hroom : Room s 1)
    (r : CameraReport) : ∃ p, Transmits s { s with port := p }
      ∧ closeMismatch st r s = closeRoll st .mismatch (mismatched st r.present x p s) := by
  obtain ⟨p, hoffer, htransmits⟩ := offerFault_captured hc hroom x
  refine ⟨p, htransmits, ?_⟩
  rw [closeMismatch, hup.camera, hx, hoffer]
  rfl

theorem room_captured {s : State} {n : Nat} (h : Room s (n + 1)) (x : FaultRecord) (p : ConsolePort) : Room (captured x p s) n := by
  obtain ⟨hgiven, hplaces⟩ := h
  refine ⟨hgiven, ?_⟩
  have hlen : (captured x p s).eq.records.length = s.eq.records.length + 1 := List.length_append
  have hreserved : (captured x p s).eq.reserved = s.eq.reserved := rfl
  omega

theorem Room.mono {s : State} {n k : Nat} (h : Room s n) (hk : k ≤ n) : Room s k := ⟨h.1, Nat.le_trans (Nat.add_le_add_left hk _) h.2⟩

theorem rollLess_atRest {s u : State} {st : St} (hstate : s.stations[st].state = .noRoll ∨ s.stations[st].state = .waitingFilm)
    (h : u.stations[st].state = s.stations[st].state) : AtRest u st := by
  rcases hstate with hs | hs <;> exact atRest_of_state (by rw [h, hs]; decide) (by rw [h, hs]; decide)

section
variable {s : State} {t : Transaction} {st : St} {b : Binding} {d : Device} {f : LinkFrame} {r : CameraReport} {c : Instr}
  (ho : AnswersOpen s t d f) (hcamera : StationCamera s st b d) (hpost : s.stations[st].pendingPost = none)
  (hexec : exec c s = .next (finish (endGrant (stationReport st r (noted t s)))))
include ho hexec

/-- What the report leaves at its station is where the act ends (R69, R147, R149). -/
theorem completes_report {u : State} {P : State → Prop} (hu : stationReport st r (noted t s) = u) (h : EndsAt st (noted t s) u)
    (hslot : u.slot = s.slot) (hasks : ∀ st', u.ring.asks[(st' : St)] = none) (hcomposer : u.ring.composerAsk = none)
    (hP : P (endGrant u)) : Completes (exec c s) P := by
  obtain ⟨-, hs, hn, -⟩ := ho
  rw [hu] at hexec
  exact ⟨_, next_of_finish hexec (h.finish_endGrant (noted_settled hs t) (noted_noAsk hn t) hslot hasks hcomposer), hP⟩

section
variable (hstate : s.stations[st].state = .noRoll ∨ s.stations[st].state = .waitingFilm) (hm : s.rolls[st].map = none)
include hpost hstate hm

/-- A report of no roll ends the notes of an insertion (R24). -/
theorem rollLess_absent (habsent : r.present = false) : Completes (exec c s) fun u =>
    OnlyChanges [.devices, .ring, .rolls] s u ∧ u.ring = { s.ring with engine := none } ∧ OthersSame st s.rolls u.rolls
      ∧ u.rolls[st] = { s.rolls[st] with removalRequired := false, insertionReported := false } := by
  obtain ⟨-, -, hn, -⟩ := id ho
  have hu : stationReport st r (noted t s)
      = modRoll st (fun r => { r with removalRequired := false, insertionReported := false }) (noted t s) := by
    rw [stationReport_rollLess (s := noted t s) hpost hm hstate, openOrRefuse_absent habsent, habsent, noteRollStatus_absent]
  refine completes_report ho hexec hu ⟨othersSame_refl _ _, othersSame_upd _ _ _, rfl, .refl _, rollLess_atRest hstate rfl⟩ rfl hn.2.1
    hn.2.2.1 ⟨((noted_onlyChanges t s).widen).andThen (modRoll_onlyChanges st _ _) |>.andThen (ring_onlyChanges _ _), rfl,
      othersSame_upd _ _ _, upd_self _ _ _⟩

/-- A roll that cannot be opened, and whose refusal is not reported (R26). -/
theorem rollLess_silent (hpresent : r.present = true) (h : s.rolls[st].removalRequired = true ∨
    (stockOf s r.stock = none ∨ r.gate ≠ 1) ∧ (s.rolls[st].insertionReported = true ∨ freePlaces s.eq = 0)) :
    Completes (exec c s) fun u => OnlyChanges [.devices, .ring] s u ∧ u.ring = { s.ring with engine := none } := by
  obtain ⟨-, -, hn, -⟩ := id ho
  have hu : stationReport st r (noted t s) = noted t s := by
    rw [stationReport_rollLess (s := noted t s) hpost hm hstate, hpresent, noteRollStatus_present]
    by_cases hrem : s.rolls[st].removalRequired = true
    · exact openOrRefuse_removal (s := noted t s) hpresent hrem
    · obtain ⟨hbad, hquiet⟩ := h.resolve_left hrem
      rw [openOrRefuse_refuses (s := noted t s) hpresent (Bool.eq_false_iff.mpr hrem) hbad]
      exact refuseRoll_silent (s := noted t s) hquiet _
  exact completes_report ho hexec hu ⟨othersSame_refl _ _, othersSame_refl _ _, rfl, .refl _, rollLess_atRest hstate rfl⟩ rfl hn.2.1
    hn.2.2.1 ⟨((noted_onlyChanges t s).widen).andThen (ring_onlyChanges _ _), rfl⟩

/-- A roll that cannot be opened is reported once per insertion (R26). -/
theorem rollLess_refused (hpresent : r.present = true) (hrem : s.rolls[st].removalRequired = false)
    (hrep : s.rolls[st].insertionReported = false) (hroom : Room s 1) (h : stockOf s r.stock = none ∨ r.gate ≠ 1) :
    Completes (exec c s) fun u => OnlyChanges [.devices, .ring, .rolls, .eventQueue, .port] s u
      ∧ u.ring = { s.ring with engine := none } ∧ OthersSame st s.rolls u.rolls
      ∧ u.rolls[st] = { s.rolls[st] with insertionReported := true } ∧ Posted s u [.event 0 (refusedEvent st r s)] := by
  obtain ⟨-, -, hn, -⟩ := id ho
  obtain ⟨v, hv⟩ : ∃ v, v = modRoll st (fun r => { r with insertionReported := true }) (noted t s) := ⟨_, rfl⟩
  obtain ⟨p, hjoin, htransmits⟩ := joinTail_eq (.event 0 (refusedEvent st r s)) v
  have hu : stationReport st r (noted t s) = { v with
      port := p, eq := { v.eq with records := v.eq.records ++ [.event 0 (refusedEvent st r s)] } } := by
    rw [stationReport_rollLess (s := noted t s) hpost hm hstate, hpresent, noteRollStatus_present,
      openOrRefuse_refuses (s := noted t s) hpresent hrem h, refuseRoll_reports (s := noted t s) hrep hroom, ← hv, ← hjoin]
    rfl
  rw [hv] at hu htransmits
  refine completes_report ho hexec hu ⟨othersSame_refl _ _, othersSame_upd _ _ _, rfl, .refl _, rollLess_atRest hstate rfl⟩ rfl hn.2.1
    hn.2.2.1 ⟨?_, rfl, othersSame_upd _ _ _, upd_self _ _ _, rfl, htransmits⟩
  intro q hq
  cases q with
  | devices | ring | rolls | eventQueue | port => exact absurd (by decide) hq
  | _ => rfl

section
variable {k : Stock} {m : RollMap} (hpresent : r.present = true) (hgate : r.gate = 1) (hrem : s.rolls[st].removalRequired = false)
  (hk : stockOf s r.stock = some k)
  (hmap : m = { RollMap.fresh k (nextRoll s.rolls[st].counter) with header := (freeSlots s.composer).head? })
include hpresent hgate hrem hk hmap

omit ho hexec hmap in
theorem stationReport_opens : stationReport st r (noted t s) = openRoll st k (noted t s) := by
  rw [stationReport_rollLess (s := noted t s) hpost hm hstate, hpresent, noteRollStatus_present,
    openOrRefuse_opens (s := noted t s) hpresent hrem hk hgate]

/-- The part of the state in which a map has opened (R25). -/
def mapOpened (st : St) (m : RollMap) (s : State) : State :=
  modComposer (Composer.headed st m.header) (modRoll st (RollRec.opened m) s)

/-- A map opens, and its ROLL_OPEN finds room (R25, R64). -/
theorem rollLess_opened (hq : s.stations[st].queue = []) (hroom : Room s 1) : Completes (exec c s) fun u =>
    OnlyChanges [.devices, .ring, .rolls, .composer, .stations, .eventQueue, .port] s u
      ∧ u.ring = { s.ring with engine := none } ∧ OthersSame st s.rolls u.rolls ∧ OthersSame st s.stations u.stations
      ∧ u.rolls[st] = s.rolls[st].opened m ∧ u.composer = s.composer.headed st m.header
      ∧ Posted s u [.event 0 (.rollOpen st m.roll k.code k.length)]
      ∧ u.stations[st] = { s.stations[st] with state := .ready } := by
  obtain ⟨-, -, hn, -⟩ := id ho
  obtain ⟨p, hjoin, htransmits⟩ := joinTail_eq (.event 0 (.rollOpen st m.roll k.code k.length)) (mapOpened st m (noted t s))
  have hu : stationReport st r (noted t s) = modStation st (fun x => { x with state := .ready }) { mapOpened st m (noted t s) with
      port := p, eq := { s.eq with records := s.eq.records ++ [.event 0 (.rollOpen st m.roll k.code k.length)] } } := by
    rw [stationReport_opens hpost hstate hm hpresent hgate hrem hk, openRoll_eq st k (noted t s) hmap,
      if_pos (canPost_of_room (s := noted t s) hroom), ← mapOpened, hjoin]
    rfl
  have hself := modStation_self st (fun x => { x with state := .ready }) { mapOpened st m (noted t s) with
      port := p, eq := { s.eq with records := s.eq.records ++ [.event 0 (.rollOpen st m.roll k.code k.length)] } }
  refine completes_report ho hexec hu ⟨othersSame_upd _ _ _, othersSame_upd _ _ _, rfl, .refl _,
    atRest_of_empty (by rw [hself]; nofun) (by rw [hself]; exact hq)⟩ rfl hn.2.1 hn.2.2.1
    ⟨?_, rfl, othersSame_upd _ _ _, othersSame_upd _ _ _, upd_self _ _ _, rfl, ⟨rfl, htransmits⟩, upd_self _ _ _⟩
  intro q' hq'
  cases q' with
  | devices | ring | rolls | composer | stations | eventQueue | port => exact absurd (by decide) hq'
  | _ => rfl

/-- A map opens, and its ROLL_OPEN waits for room (R25). -/
theorem rollLess_openWaits (hfull : freePlaces s.eq = 0) : Completes (exec c s) fun u =>
    OnlyChanges [.devices, .ring, .rolls, .composer, .eventQueue] s u
      ∧ u.ring = { s.ring with engine := none } ∧ OthersSame st s.rolls u.rolls
      ∧ u.rolls[st] = s.rolls[st].opened { m with opening := true } ∧ u.composer = s.composer.headed st m.header
      ∧ u.eq = { s.eq with waiters := s.eq.waiters ++ [.rollOpen st] } := by
  obtain ⟨-, -, hn, -⟩ := id ho
  have hopened : modMap st (fun m => { m with opening := true }) (mapOpened st m (noted t s))
      = mapOpened st { m with opening := true } (noted t s) := by
    simp only [mapOpened, modMap, modRoll, modComposer, upd_upd]
    rfl
  have hu : stationReport st r (noted t s) = { mapOpened st { m with opening := true } (noted t s) with
      eq := { s.eq with waiters := s.eq.waiters ++ [.rollOpen st] } } := by
    rw [stationReport_opens hpost hstate hm hpresent hgate hrem hk, openRoll_eq st k (noted t s) hmap,
      if_neg (by rw [not_canPost_of_full (s := noted t s) hfull]; decide), ← mapOpened, hopened,
      addWaiter_of_full (s := mapOpened st { m with opening := true } (noted t s)) hfull]
    rfl
  refine completes_report ho hexec hu ⟨othersSame_refl _ _, othersSame_upd _ _ _, rfl, .refl _, rollLess_atRest hstate rfl⟩ rfl hn.2.1
    hn.2.2.1 ⟨?_, rfl, othersSame_upd _ _ _, upd_self _ _ _, rfl, rfl⟩
  intro q' hq'
  cases q' with
  | devices | ring | rolls | composer | eventQueue => exact absurd (by decide) hq'
  | _ => rfl

end

end

end

section
variable {s w : State} {t : Transaction} {st : St} {b : Binding} {d : Device} {f : LinkFrame} {r : CameraReport} {i : Instr}
  {reason : CloseReason} {p : ConsolePort} {x : Record} {c : Composer} {v : Vector (Option Device) 16}
  (ho : AnswersOpen s t d f) (hexec : exec i s = .next (finish (endGrant (stationReport st r (noted t s)))))

theorem rollGone_ring (h : ∀ st' : St, w.ring.asks[st'] = none) (st : St) (reason : CloseReason) (p : ConsolePort) (x : Record)
    (c : Composer) (v : Vector (Option Device) 16) :
    (endGrant (rollGone st reason p x c v w)).ring = { w.ring with engine := none } := by
  show { w.ring with asks := w.ring.asks.set st.val none st.isLt, engine := none } = _
  rw [set_none_of_none h]

theorem rollLess_of_gone {x : Station} {r : Record} (h : w.stations[st].rollLess = x.rollLess) :
    RollLess x (endGrant (rollGone st reason p r c v w)).stations[st] := by
  show RollLess x (rollGone st reason p r c v w).stations[st]
  rw [rollGone_station, h]
  exact Station.rollLess_spec x

theorem roll_of_gone {y : RollRec} {r : Record} (h : w.rolls[st].discarded reason = y) :
    (endGrant (rollGone st reason p r c v w)).rolls[st] = y := (rollGone_roll st reason p r c v w).trans h

include ho hexec

/-- The act in which a roll has closed ends where the close ends (R40, R147). -/
theorem exec_rollGone (hu : stationReport st r (noted t s) = rollGone st reason p x c v w)
    (hstations : OthersSame st s.stations w.stations) (hrolls : OthersSame st s.rolls w.rolls) (hb : w.bindings = s.bindings)
    (hslot : w.slot = s.slot) (hring : w.ring = s.ring) (hv : DevicesKept (noted t s).devices v) :
    exec i s = .next (endGrant (rollGone st reason p x c v w))
      ∧ (endGrant (rollGone st reason p x c v w)).ring = { s.ring with engine := none } := by
  obtain ⟨-, hs, hn, -⟩ := id ho
  have hasks : ∀ st' : St, w.ring.asks[st'] = none := by rw [hring]; exact hn.2.1
  have hsame := rollGone_ring hasks st reason p x c v
  have hends : EndsAt st (noted t s) (rollGone st reason p x c v w) :=
    ⟨fun st' hne => (othersSame_upd _ _ _ st' hne).trans (hstations st' hne),
      fun st' hne => (othersSame_upd _ _ _ st' hne).trans (hrolls st' hne), hb, hv,
      atRest_of_state (by rw [rollGone_station]; exact (Station.rollLess_state _).1)
        (by rw [rollGone_station]; exact (Station.rollLess_state _).2)⟩
  have hcomplete : Completes (exec i s) fun u => u = endGrant (rollGone st reason p x c v w) := by
    refine completes_report ho hexec hu hends hslot (fun st' => ?_) (by show w.ring.composerAsk = none; rw [hring]; exact hn.2.2.1) rfl
    show (w.ring.asks.set st.val none st.isLt)[st'] = none
    rw [set_none_of_none hasks]
    exact hasks st'
  obtain ⟨u, hexec', rfl⟩ := hcomplete
  exact ⟨hexec', by rw [hsame, hring]⟩

end

/-! ### A roll closes UNLOADED (R39, R40) -/

/-- The state in which an UNLOADED close finds its roll: the notes of the insertion have ended (R24). -/
def unnoted (st : St) (s : State) : State :=
  modRoll st (fun r => { r with removalRequired := false, insertionReported := false }) s

theorem unnoted_map {s : State} {st : St} {m : RollMap} {t : Transaction} (h : s.rolls[st].map = some m) : (unnoted st (noted t s)).rolls[st].map = some m := by
  rw [unnoted, modRoll_rolls, upd_self]; exact h

theorem unnoted_roll (st : St) (s : State) : (unnoted st s).rolls[st]
    = { s.rolls[st] with removalRequired := false, insertionReported := false } := upd_self _ _ _

section
variable {s : State} {t : Transaction} {st : St} {b : Binding} {d : Device} {f : LinkFrame} {r : CameraReport} {c : Instr} {m : RollMap}
  (ho : AnswersOpen s t d f) (hup : BoundUp s st b) (hpost : s.stations[st].pendingPost = none)
  (hexec : exec c s = .next (finish (endGrant (stationReport st r (noted t s)))))
  (hm : s.rolls[st].map = some m) (hclosing : m.closing = none) (hno : ∀ r ∈ m.frames, r.state ≠ .reserved)
  (hstate : s.stations[st].state = .unloading) (habsent : r.present = false)
include ho hup hpost hexec hm hclosing hno hstate habsent

theorem unloading_header {h : Fin 320} (hroom : Room s 1) (hh : m.header = some h) (hreq : s.rolls[st].headerRequest = false)
    (hstrips : s.composer.strips ≠ []) : Completes (exec c s) fun u =>
      OnlyChanges [.devices, .ring, .rolls, .composer, .stations, .eventQueue, .port] s u
        ∧ u.ring = { s.ring with engine := none } ∧ OthersSame st s.rolls u.rolls ∧ OthersSame st s.stations u.stations
        ∧ RollLess s.stations[st] u.stations[st] ∧ u.rolls[st] = ⟨none, s.rolls[st].counter, false, false, false, some .unloaded⟩
        ∧ StripReleased s u st m h .unloaded ∧ Posted s u [closeReport st m .unloaded] := by
  have hupN := noted_boundUp hup t
  obtain ⟨p, w, v, htransmits, hv, hw, hclose⟩ := closeRoll_header (s := unnoted st (noted t s)) (reason := .unloaded) (unnoted_map hm)
    hclosing hno hpost (fun h => nomatch hstate.symm.trans h.1) hupN.2 hroom (by rw [unnoted_roll]; exact hreq) hh hstrips
  have hu := stationReport_unloading (s := noted t s) hpost hstate habsent
  rw [noteRollStatus_absent, ← unnoted, hclose] at hu
  obtain ⟨hexec', hring⟩ := exec_rollGone ho hexec hu (othersSame_refl _ _) (othersSame_upd _ _ _) rfl rfl rfl hv
  refine ⟨_, hexec', ?_, hring, fun st' hne => (othersSame_upd _ _ _ st' hne).trans (othersSame_upd _ _ _ st' hne), othersSame_upd _ _ _,
    ?_, ?_, ⟨rfl, hw⟩, rfl, htransmits⟩
  · intro q hq
    cases q with
    | devices | ring | rolls | composer | stations | eventQueue | port => exact absurd (by decide) hq
    | _ => rfl
  · exact rollLess_of_gone rfl
  · exact roll_of_gone (by rw [unnoted_roll]; rfl)

theorem unloading_request (hroom : Room s 1) (hh : m.header = none) (hreq : s.rolls[st].headerRequest = true) :
    Completes (exec c s) fun u => OnlyChanges [.devices, .ring, .rolls, .composer, .stations, .eventQueue, .port] s u
      ∧ u.ring = { s.ring with engine := none } ∧ OthersSame st s.rolls u.rolls ∧ OthersSame st s.stations u.stations
      ∧ RollLess s.stations[st] u.stations[st] ∧ u.rolls[st] = ⟨none, s.rolls[st].counter, false, false, false, some .unloaded⟩
      ∧ u.composer = { s.composer with headerList := s.composer.headerList.erase st }
      ∧ Posted s u [closeReport st m .unloaded] := by
  have hupN := noted_boundUp hup t
  obtain ⟨p, v, htransmits, hv, hclose⟩ := closeRoll_request (s := unnoted st (noted t s)) (reason := .unloaded) (unnoted_map hm)
    hclosing hno hpost (fun h => nomatch hstate.symm.trans h.1) hupN.2 hroom (by rw [unnoted_roll]; exact hreq) hh
  have hu := stationReport_unloading (s := noted t s) hpost hstate habsent
  rw [noteRollStatus_absent, ← unnoted, hclose] at hu
  obtain ⟨hexec', hring⟩ := exec_rollGone ho hexec hu (othersSame_refl _ _) (othersSame_upd _ _ _) rfl rfl rfl hv
  refine ⟨_, hexec', ?_, hring, fun st' hne => (othersSame_upd _ _ _ st' hne).trans (othersSame_upd _ _ _ st' hne), othersSame_upd _ _ _,
    ?_, ?_, rfl, rfl, htransmits⟩
  · intro q hq
    cases q with
    | devices | ring | rolls | composer | stations | eventQueue | port => exact absurd (by decide) hq
    | _ => rfl
  · exact rollLess_of_gone rfl
  · exact roll_of_gone (by rw [unnoted_roll]; rfl)

omit hup in
/-- The close waits, its map closing, while its ROLL_REPORT finds no room (R40). -/
theorem unloading_waits (hfull : freePlaces s.eq = 0) (hreq : s.rolls[st].headerRequest = false) : Completes (exec c s) fun u =>
    OnlyChanges [.devices, .ring, .rolls, .stations, .eventQueue] s u ∧ u.ring = { s.ring with engine := none }
      ∧ OthersSame st s.rolls u.rolls ∧ OthersSame st s.stations u.stations ∧ u.stations[st].state = .unloading
      ∧ u.rolls[st] = { s.rolls[st] with
          map := some { m with closing := some .unloaded }, removalRequired := false, insertionReported := false }
      ∧ u.eq = { s.eq with waiters := s.eq.waiters ++ [.rollReport st] } := by
  obtain ⟨-, -, hn, -⟩ := id ho
  have hu := stationReport_unloading (s := noted t s) hpost hstate habsent
  rw [noteRollStatus_absent, ← unnoted, closeRoll_waits (s := unnoted st (noted t s)) (reason := .unloaded) (unnoted_map hm) hclosing
    hno hfull (by rw [unnoted_roll]; exact hreq), addWaiter_of_full (s := closeBegun st .unloaded (unnoted st (noted t s))) hfull] at hu
  obtain ⟨w, hw⟩ : ∃ w, w = closeBegun st .unloaded (unnoted st (noted t s)) := ⟨_, rfl⟩
  have honly : OnlyChanges [.devices, .rolls, .stations, .ring] s w := by
    rw [hw]
    exact (((noted_onlyChanges t s).widen).andThen (modRoll_onlyChanges st _ _)).andThen (closeBegun_onlyChanges st _ _)
  have hself : w.stations[st] = s.stations[st].quiet := by rw [hw]; exact closeBegun_station st _ _
  have hrolls : OthersSame st s.rolls w.rolls := by
    rw [hw]; exact fun st' hne => (othersSame_upd _ _ _ st' hne).trans (othersSame_upd _ _ _ st' hne)
  have hstations : OthersSame st s.stations w.stations := by rw [hw]; exact othersSame_upd _ _ _
  have hdev : w.devices = (noted t s).devices := by rw [hw]; rfl
  have hring : w.ring = s.ring := by
    have hasks := set_none_of_none hn.2.1 st
    rw [hw]
    show { s.ring with asks := s.ring.asks.set st.val none st.isLt } = s.ring
    rw [hasks]
  have hroll : w.rolls[st] = { s.rolls[st] with
      map := some { m with closing := some .unloaded }, removalRequired := false, insertionReported := false } := by
    have hr : (stopped st (unnoted st (noted t s))).rolls[st]
        = { s.rolls[st] with removalRequired := false, insertionReported := false } := unnoted_roll st (noted t s)
    rw [hw, closeBegun, modMap_rolls, upd_self, hr, hm]
    rfl
  rw [← hw, honly .eventQueue (by decide)] at hu
  have hstateW : w.stations[st].state = .unloading := by rw [hself]; exact hstate
  have hends : EndsAt st (noted t s) { w with eq := { s.eq with waiters := s.eq.waiters ++ [.rollReport st] } } :=
    ⟨hstations, hrolls, honly .bindings (by decide), by rw [hdev]; exact .refl _,
      atRest_of_state (by rw [hstateW]; decide) (by rw [hstateW]; decide)⟩
  refine completes_report ho hexec hu hends (honly .slot (by decide)) (by rw [hring]; exact hn.2.1) (by rw [hring]; exact hn.2.2.1)
    ⟨?_, by rw [← hring]; rfl, hrolls, hstations, hstateW, hroll, rfl⟩
  exact ((honly.widen).andThen (eventQueue_onlyChanges _ _)).andThen (ring_onlyChanges _ _)

end

/-! ### A report closes a roll MISMATCH where its station holds no request (R41, R190) -/

/-- The state in which a report's close for MISMATCH begins (R41, R190): the devices as the reply left them, and nothing changed but
at the station. -/
structure ClosesFrom (st : St) (t : Transaction) (s z : State) : Prop where
  only : OnlyChanges [.devices, .rolls, .stations, .ring] s z
  stations : OthersSame st s.stations z.stations
  rolls : OthersSame st s.rolls z.rolls
  ring : z.ring = s.ring
  devices : z.devices = (noted t s).devices

theorem mismatch_closes {s z : State} {t : Transaction} {st : St} {b : Binding} {d : Device} {f : LinkFrame} {r : CameraReport} {c : Instr}
    {m : RollMap} {h : Fin 320} (ho : AnswersOpen s t d f) (hexec : exec c s = .next (finish (endGrant (stationReport st r (noted t s)))))
    (hz : ClosesFrom st t s z) (hup : BoundUp s st b) (hu : stationReport st r (noted t s) = closeMismatch st r z)
    (hholdZ : headHolds z st = false) (hm : z.rolls[st].map = some m) (hclosing : m.closing = none)
    (hno : ∀ r ∈ m.frames, r.state ≠ .reserved) (hpostZ : z.stations[st].pendingPost = none)
    (hfree : ¬ (z.stations[st].state = .suspended ∧ z.stations[st].susp.requestHeld = true))
    (hrollLess : z.stations[st].rollLess = s.stations[st].rollLess)
    (hreqZ : z.rolls[st].headerRequest = s.rolls[st].headerRequest)
    (hrollZ : (z.rolls[st].removing r.present).discarded .mismatch
      = ⟨none, s.rolls[st].counter, r.present, r.present && s.rolls[st].insertionReported, false, some .mismatch⟩)
    (hreq : s.rolls[st].headerRequest = false) (hh : m.header = some h) (hstrips : s.composer.strips ≠ [])
    (hcap : s.capture.record = none) (hroom : Room s 2) : Completes (exec c s) fun u =>
      OnlyChanges [.devices, .ring, .rolls, .composer, .stations, .capture, .eventQueue, .port] s u
        ∧ u.ring = { s.ring with engine := none } ∧ OthersSame st s.rolls u.rolls
        ∧ OthersSame st s.stations u.stations ∧ RollLess s.stations[st] u.stations[st]
        ∧ u.rolls[st] = ⟨none, s.rolls[st].counter, r.present, r.present && s.rolls[st].insertionReported, false, some .mismatch⟩
        ∧ StripReleased s u st m h .mismatch ∧ u.capture.record = some (mismatchFault st b.camera)
        ∧ Posted s u [.event 0 (.faultNotice (mismatchFault st b.camera)), closeReport st m .mismatch] := by
  obtain ⟨honlyZ, hothers, hrollsZ, hringZ, hdevZ⟩ := hz
  have hupZ : BoundUp z st b := by
    refine hup.kept (by rw [honlyZ .bindings (by decide)]) ?_
    rw [hdevZ]; exact noted_devices t s
  have hcapZ : z.capture = s.capture := honlyZ .capture (by decide)
  have hroomZ : Room z 2 := hroom.congr (honlyZ .eventQueue (by decide))
  have hportZ : z.port = s.port := honlyZ .port (by decide)
  have hcomposerZ : z.composer = s.composer := honlyZ .composer (by decide)
  obtain ⟨p, htransmits, hclose⟩ := closeMismatch_eq (x := mismatchFault st b.camera) hupZ
    (stationFault_of_noHold hholdZ .gateMismatch b.camera kindStatus none) (by rw [hcapZ]; exact hcap) (hroomZ.mono (by decide)) r
  obtain ⟨y, hy⟩ : ∃ y, y = mismatched st r.present (mismatchFault st b.camera) p z := ⟨_, rfl⟩
  have hrollY : y.rolls[st] = z.rolls[st].removing r.present := by rw [hy]; exact upd_self _ _ _
  have hstationsY : y.stations = z.stations := by rw [hy]; rfl
  have hbothY : bothUp y st = true := by rw [hy]; exact hupZ.2
  obtain ⟨p', sl, v, htransmits', hv, hsl, hclosed⟩ := closeRoll_header (s := y) (reason := .mismatch) (by rw [hrollY]; exact hm) hclosing
    hno (by rw [hstationsY]; exact hpostZ) (by rw [hstationsY]; exact hfree) hbothY
    (by rw [hy]; exact room_captured hroomZ (mismatchFault st b.camera) p) (by rw [hrollY]; exact hreqZ.trans hreq) hh
    (by rw [hy]; show z.composer.strips ≠ []; rw [hcomposerZ]; exact hstrips)
  have hu' : closeMismatch st r z = closeRoll st .mismatch y := by rw [hclose, hy]
  rw [hu', hclosed] at hu
  have honlyY : OnlyChanges [.devices, .rolls, .stations, .ring, .capture, .eventQueue, .port] s y := by
    rw [hy]
    have hlast : OnlyChanges [.rolls, .capture, .eventQueue, .port] z (mismatched st r.present (mismatchFault st b.camera) p z) := by
      intro q hq
      cases q with
      | rolls | capture | eventQueue | port => exact absurd (by decide) hq
      | _ => rfl
    exact (honlyZ.widen).andThen hlast
  have hringY : y.ring = s.ring := by
    rw [hy]; exact hringZ
  obtain ⟨hexec', hringU⟩ := exec_rollGone ho hexec hu (by rw [hstationsY]; exact hothers)
    (fun st' hne => by
      rw [hy]
      exact (othersSame_upd _ _ _ st' hne).trans (hrollsZ st' hne))
    (honlyY .bindings (by decide)) (honlyY .slot (by decide)) hringY (by rw [← hdevZ]; rw [hy] at hv; exact hv)
  have hcomposerY : y.composer = s.composer := honlyY .composer (by decide)
  rw [hcomposerY] at hsl
  refine ⟨_, hexec', ((honlyY.widen).andThen (rollGone_onlyChanges st _ _ _ _ _ y)).andThen (ring_onlyChanges _ _), hringU, ?_, ?_, ?_,
    ?_, ⟨by rw [← hcomposerY]; rfl, hsl⟩, ?_, ?_, ?_⟩
  · intro st' hne
    refine (othersSame_upd _ _ _ st' hne).trans ?_
    rw [hy]
    exact (othersSame_upd _ _ _ st' hne).trans (hrollsZ st' hne)
  · intro st' hne
    exact (othersSame_upd _ _ _ st' hne).trans (by rw [hstationsY]; exact hothers st' hne)
  · exact rollLess_of_gone (by rw [hstationsY, hrollLess])
  · exact roll_of_gone (by rw [hrollY]; exact hrollZ)
  · show y.capture.record = _
    rw [hy]; rfl
  · show { y.eq with records := y.eq.records ++ [closeReport st m .mismatch] } = _
    have heq : y.eq = { s.eq with records := s.eq.records ++ [.event 0 (.faultNotice (mismatchFault st b.camera))] } := by
      rw [hy, ← honlyZ .eventQueue (by decide)]; rfl
    rw [heq, List.append_assoc]; rfl
  · have hfirst : Transmits s { z with port := p } := by
      unfold Transmits at htransmits ⊢
      rw [← hportZ]; exact htransmits
    have hyport : y.port = p := by rw [hy]; rfl
    refine hfirst.trans (t := { z with port := p }) ?_
    unfold Transmits at htransmits' ⊢
    rw [hyport] at htransmits'
    exact htransmits'

/-! ### A station at rest with a roll (R41) -/

section
variable {s : State} {t : Transaction} {st : St} {b : Binding} {d : Device} {f : LinkFrame} {r : CameraReport} {c : Instr} {m : RollMap}
  (ho : AnswersOpen s t d f) (hup : BoundUp s st b) (hpost : s.stations[st].pendingPost = none)
  (hexec : exec c s = .next (finish (endGrant (stationReport st r (noted t s)))))
  (hm : s.rolls[st].map = some m) (hclosing : m.closing = none)
  (hstate : s.stations[st].state = .ready ∨ s.stations[st].state = .waitingLabels)
include ho hup hpost hexec hm hclosing hstate

omit hup in
theorem ready_agrees (hagrees : agrees r m = true) (hpresent : r.present = true)
    (hq : s.stations[st].state = .ready → s.stations[st].queue = []) : Completes (exec c s) fun u =>
      OnlyChanges [.devices, .ring, .stations] s u ∧ u.ring = { s.ring with engine := none } ∧ OthersSame st s.stations u.stations
        ∧ u.stations[st] = (if s.stations[st].rollCheck then
            { s.stations[st] with rollCheck := false, gap := none, waits := 0 } else s.stations[st]) := by
  obtain ⟨-, -, hn, -⟩ := id ho
  have hnN := noted_noAsk hn t
  have hu : stationReport st r (noted t s) = checkServed st (noted t s) := by
    rw [stationReport_ready (s := noted t s) hpost hstate, hpresent, noteRollStatus_present,
      idleReport_agrees (s := noted t s) hm hclosing hagrees]
  have honly := checkServed_onlyChanges st (noted t s)
  have hself : (checkServed st (noted t s)).stations[st]
      = (if s.stations[st].rollCheck then s.stations[st].served else s.stations[st]) := checkServed_station st (noted t s)
  have hring := checkServed_ring (st := st) hnN.2.1
  have hstateU : (checkServed st (noted t s)).stations[st].state = s.stations[st].state := by rw [hself]; split <;> rfl
  have hqU : (checkServed st (noted t s)).stations[st].queue = s.stations[st].queue := by rw [hself]; split <;> rfl
  have hrest : AtRest (checkServed st (noted t s)) st := by
    rcases hstate with h | h
    · exact atRest_of_empty (by rw [hstateU, h]; decide) (by rw [hqU]; exact hq h)
    · exact atRest_of_state (by rw [hstateU, h]; decide) (by rw [hstateU, h]; decide)
  refine completes_report ho hexec hu ⟨checkServed_others st _, by rw [honly .rolls (by decide)]; exact othersSame_refl _ _,
    honly .bindings (by decide), by rw [honly .devices (by decide)]; exact .refl _, hrest⟩ (honly .slot (by decide))
    (by rw [hring]; exact hnN.2.1) (by rw [hring]; exact hnN.2.2.1) ⟨?_, ?_, checkServed_others st (noted t s), hself⟩
  · exact (((noted_onlyChanges t s).widen).andThen honly).andThen (ring_onlyChanges _ _)
  · show { (checkServed st (noted t s)).ring with engine := none } = _
    rw [hring]; rfl

theorem ready_mismatch {h : Fin 320} (hagrees : agrees r m = false) (hh : m.header = some h) (hreq : s.rolls[st].headerRequest = false)
    (hno : ∀ r ∈ m.frames, r.state ≠ .reserved) (hstrips : s.composer.strips ≠ [])
    (hhead : ∀ q, headOf s st = some q → q.state ≠ .running ∧ q.state ≠ .suspended) (hcap : s.capture.record = none)
    (hroom : Room s 2) : Completes (exec c s) fun u =>
      OnlyChanges [.devices, .ring, .rolls, .composer, .stations, .capture, .eventQueue, .port] s u
        ∧ u.ring = { s.ring with engine := none } ∧ OthersSame st s.rolls u.rolls
        ∧ OthersSame st s.stations u.stations ∧ RollLess s.stations[st] u.stations[st]
        ∧ u.rolls[st] = ⟨none, s.rolls[st].counter, r.present, r.present && s.rolls[st].insertionReported, false, some .mismatch⟩
        ∧ StripReleased s u st m h .mismatch ∧ u.capture.record = some (mismatchFault st b.camera)
        ∧ Posted s u [.event 0 (.faultNotice (mismatchFault st b.camera)), closeReport st m .mismatch] := by
  obtain ⟨-, -, hn, -⟩ := id ho
  obtain ⟨w, hw⟩ : ∃ w, w = noteRollStatus st r.present (noted t s) := ⟨_, rfl⟩
  have honlyW : OnlyChanges [.devices, .rolls] s w := by
    rw [hw]
    unfold noteRollStatus
    split
    · exact (noted_onlyChanges t s).widen
    · exact ((noted_onlyChanges t s).widen).andThen (modRoll_onlyChanges st _ _)
  have hmW : w.rolls[st].map = some m := by rw [hw, noteRollStatus_map]; exact hm
  have hrollW : w.rolls[st] = { s.rolls[st] with
      removalRequired := r.present && s.rolls[st].removalRequired
      insertionReported := r.present && s.rolls[st].insertionReported } := by
    rw [hw]
    cases r.present with
    | true => rfl
    | false => exact upd_self _ _ _
  have hrollsW : OthersSame st s.rolls w.rolls := by
    rw [hw]
    cases r.present with
    | true => exact othersSame_refl _ _
    | false => exact othersSame_upd _ _ _
  have hdevW : w.devices = (noted t s).devices := by rw [hw]; unfold noteRollStatus; split <;> rfl
  have hasksW : ∀ st' : St, w.ring.asks[st'] = none := by rw [honlyW .ring (by decide)]; exact hn.2.1
  obtain ⟨z, hz⟩ : ∃ z, z = checkServed st w := ⟨_, rfl⟩
  have honly := checkServed_onlyChanges st w
  have hothers := checkServed_others st w
  have hself := checkServed_station st w
  have hring := checkServed_ring (st := st) hasksW
  rw [← hz] at honly hothers hself hring
  have honlyZ : OnlyChanges [.devices, .rolls, .stations, .ring] s z := ((honlyW.widen).andThen honly)
  have hstationsW : w.stations = s.stations := honlyW .stations (by decide)
  rw [hstationsW] at hself hothers
  have hstateZ : z.stations[st].state = s.stations[st].state := by rw [hself]; split <;> rfl
  have hqueueZ : z.stations[st].queue = s.stations[st].queue := by rw [hself]; split <;> rfl
  have hpostZ : z.stations[st].pendingPost = none := by rw [hself, ← hpost]; split <;> rfl
  have hrollLess : z.stations[st].rollLess = s.stations[st].rollLess := by rw [hself]; split <;> rfl
  have hrollsZ : z.rolls = w.rolls := honly .rolls (by decide)
  have hdevZ : z.devices = (noted t s).devices := (honly .devices (by decide)).trans hdevW
  have hupZ : BoundUp z st b := by
    refine hup.kept (by rw [honlyZ .bindings (by decide)]) ?_
    rw [hdevZ]; exact noted_devices t s
  have hholdZ : headHolds z st = false := headHolds_eq_false fun q hq => hhead q (by rw [headOf] at hq ⊢; rw [← hqueueZ]; exact hq)
  have hcapZ : z.capture = s.capture := honlyZ .capture (by decide)
  have hroomZ : Room z 2 := hroom.congr (honlyZ .eventQueue (by decide))
  have hportZ : z.port = s.port := honlyZ .port (by decide)
  have hcomposerZ : z.composer = s.composer := honlyZ .composer (by decide)
  have hu : stationReport st r (noted t s) = closeMismatch st r z := by
    rw [stationReport_ready (s := noted t s) hpost hstate, ← hw, idleReport_mismatch hmW hclosing hagrees, ← hz]
  have hfrom : ClosesFrom st t s z := ⟨honlyZ, hothers, fun st' hne => (congrArg (fun v => v[st']) hrollsZ).trans (hrollsW st' hne),
    by rw [hring, honlyW .ring (by decide)], hdevZ⟩
  refine mismatch_closes ho hexec hfrom hup hu hholdZ (by rw [hrollsZ, hmW]) hclosing hno hpostZ ?_ hrollLess ?_ ?_ hreq hh hstrips hcap hroom
  · rw [hstateZ]
    rintro ⟨hs, -⟩
    rcases hstate with h | h <;> rw [h] at hs <;> cases hs
  · rw [hrollsZ, hrollW]
  · rw [hrollsZ, hrollW]; rfl

end

/-- Settles O41. -/
theorem rollsOpenAndClose : Obligations.RollsOpenAndClose := by
  intro s t st b d f flags stock gate ho hreq hp hkind hcamera hpost hk hpay hparses
  have hexec := exec_idlePoll_camera ho hcamera hreq hp hkind hk hpay hparses
  have hup := hcamera.1
  have hpresent (h : flags.getLsbD 0 = true) : (cameraReport flags stock gate).present = true := h
  have hgate (h : flags.getLsbD 0 = true) : (cameraReport flags stock gate).gate = 1 ↔ gate = 1 := by
    rw [cameraReport_gate h]
    exact ⟨fun hg => BitVec.eq_of_toNat_eq hg, fun hg => by rw [hg]; rfl⟩
  have hstock (h : flags.getLsbD 0 = true) := cameraReport_stock h stock gate
  refine ⟨fun hstate hm => ⟨fun hflag => ?_, fun hflag h => ?_, fun hflag hrem hrep hroom h => ?_, ?_⟩, ?_, ?_⟩
  · exact rollLess_absent ho hpost hexec hstate hm hflag
  · refine rollLess_silent ho hpost hexec hstate hm (hpresent hflag) ?_
    rw [hstock hflag, ne_eq, hgate hflag]
    exact h
  · have hbad : stockOf s (cameraReport flags stock gate).stock = none ∨ (cameraReport flags stock gate).gate ≠ 1 := by
      rw [hstock hflag, ne_eq, hgate hflag]
      exact h
    have hcomplete := rollLess_refused ho hpost hexec hstate hm (hpresent hflag) hrem hrep hroom hbad
    rw [refusedEvent, hstock hflag, cameraReport_gate hflag] at hcomplete
    exact hcomplete
  · intro k number m slot hflag hg hrem hk' hnumber hslot hmap hq hroom
    have hk'' : stockOf s (cameraReport flags stock gate).stock = some k := by rw [hstock hflag]; exact hk'
    have hg' : (cameraReport flags stock gate).gate = 1 := (hgate hflag).mpr hg
    have hfresh : ({ m with opening := false } : RollMap)
        = { RollMap.fresh k (nextRoll s.rolls[st].counter) with header := (freeSlots s.composer).head? } := by
      rw [hmap, hnumber, hslot]; rfl
    have hheader : m.header = slot := by rw [hmap]
    have hroll : m.roll = number := by rw [hmap]
    have hopened : s.rolls[st].opened m
        = { s.rolls[st] with map := some m, counter := number, headerRequest := slot.isNone } := by
      rw [RollRec.opened, hheader, hroll]
    have hheaded : s.composer.headed st m.header = (match slot with
        | some i => { s.composer with slots := s.composer.slots.set i.val (.reserved (.header st)) i.isLt }
        | none => { s.composer with headerList := s.composer.headerList ++ [st] }) := by
      rw [hheader]; cases slot <;> rfl
    by_cases hfull : freePlaces s.eq = 0
    · have hopening : m.opening = true := by rw [hmap]; exact decide_eq_true hfull
      have hm' : ({ ({ m with opening := false } : RollMap) with opening := true } : RollMap) = m := by rw [← hopening]
      obtain ⟨u, hu, honly, hring, hrolls, hroll', hcomposer, heq⟩ := rollLess_openWaits ho hpost hexec hstate hm (hpresent hflag) hg'
        hrem hk'' hfresh hfull
      rw [hm'] at hroll'
      refine ⟨u, hu, honly.widen, hring, hrolls, ?_, hroll'.trans hopened, hcomposer.trans hheaded, fun h => ?_, fun _ => ?_⟩
      · rw [honly .stations (by decide)]; exact othersSame_refl _ _
      · rw [hopening] at h; cases h
      · exact ⟨honly .stations (by decide), honly .port (by decide), heq⟩
    · have hopening : m.opening = false := by rw [hmap]; exact decide_eq_false hfull
      have hm' : ({ m with opening := false } : RollMap) = m := by rw [← hopening]
      rw [hm'] at hfresh
      obtain ⟨u, hu, honly, hring, hrolls, hstations, hroll', hcomposer, hposted, hself⟩ := rollLess_opened ho hpost hexec hstate hm
        (hpresent hflag) hg' hrem hk'' hfresh hq (hroom.resolve_right hfull)
      refine ⟨u, hu, honly, hring, hrolls, hstations, hroll'.trans hopened, hcomposer.trans hheaded, fun _ => ⟨?_, hself⟩, fun h => ?_⟩
      · rw [hroll] at hposted; exact hposted
      · rw [hopening] at h; cases h
  · intro m hm hclosing hno hstate hflag
    have habsent : (cameraReport flags stock gate).present = false := hflag
    refine ⟨fun hroom => ⟨fun h hh hreq' hstrips => ?_, fun hh hreq' => ?_⟩, fun hfull hreq' => ?_⟩
    · exact unloading_header ho hup hpost hexec hm hclosing hno hstate habsent hroom hh hreq' hstrips
    · exact unloading_request ho hup hpost hexec hm hclosing hno hstate habsent hroom hh hreq'
    · exact unloading_waits ho hpost hexec hm hclosing hno hstate habsent hfull hreq'
  · intro m hm hclosing hstate
    refine ⟨fun hflag hs hg hq => ?_, fun h hbad hh hreq' hno hstrips hhead hcap hroom => ?_⟩
    · exact ready_agrees ho hpost hexec hm hclosing hstate (agrees_iff.mpr ⟨hflag, hs, hg⟩) hflag hq
    · refine ready_mismatch ho hup hpost hexec hm hclosing hstate (Bool.eq_false_iff.mpr fun hc => ?_) hh hreq' hno hstrips hhead hcap hroom
      obtain ⟨hflag, hs, hg⟩ := agrees_iff.mp hc
      rcases hbad with h | h | h
      · rw [hflag] at h; cases h
      · exact h hs
      · exact h hg

end Sys2Proof.Machine
end

section
/-! PROOFS. The run of a frame as rules: what a report's mark, an advance, a frame boundary and the end of a request leave at a station
that drives its head request (R29, R30, R74, R77, R80, R83), and how the reply to a station's own STATUS ends (R147, R154). -/

namespace Sys2Proof.Machine

/-! ### Busy markers leave the tags (R143, R150) -/

/-- Every entry keeps its ring tag. -/
def TagsKept (v w : Vector (Option Device) 16) : Prop := ∀ i : Fin 16, w[i].map Device.tag = v[i].map Device.tag

theorem TagsKept.refl (v : Vector (Option Device) 16) : TagsKept v v := fun _ => rfl

theorem TagsKept.trans {u v w : Vector (Option Device) 16} (h : TagsKept u v) (k : TagsKept v w) : TagsKept u w :=
  fun i => (k i).trans (h i)

theorem tagsKept_upd {f : Device → Device} (hf : ∀ d, (f d).tag = d.tag) (i : Fin 16) (v : Vector (Option Device) 16) :
    TagsKept v (upd v i (Option.map f)) := by
  intro j
  rw [upd_get]
  split
  · rw [Option.map_map]
    exact congrArg (fun g => Option.map g v[j]) (funext hf)
  · rfl

/-- Only busy markers, idle timers and due entries may have changed in the Device Table. -/
def MarkChange (s t : State) : Prop := ∃ v, DevicesKept s.devices v ∧ TagsKept s.devices v ∧ t = { s with devices := v }

theorem MarkChange.refl (s : State) : MarkChange s s := ⟨s.devices, .refl _, .refl _, rfl⟩

theorem MarkChange.trans {s t u : State} (h : MarkChange s t) (k : MarkChange t u) : MarkChange s u := by
  obtain ⟨v, hv, htv, rfl⟩ := h
  obtain ⟨w, hw, htw, rfl⟩ := k
  exact ⟨w, hv.trans hw, htv.trans htw, rfl⟩

theorem modDeviceAt_marks {f : Device → Device} (hf : ∀ d, DeviceKept d (f d)) (ht : ∀ d, (f d).tag = d.tag) (a : Byte) (s : State) :
    MarkChange s (modDeviceAt a f s) := by
  unfold modDeviceAt
  split
  · exact ⟨_, devicesKept_upd hf _ s.devices, tagsKept_upd ht _ s.devices, rfl⟩
  · exact .refl s

theorem clearBusy_tag (d : Device) : d.clearBusy.tag = d.tag := by unfold Device.clearBusy; split <;> rfl

theorem replied_tag (d : Device) : d.replied.tag = d.tag := by unfold Device.replied; split <;> rfl

theorem setBusyAt_marks (a : Byte) (s : State) : MarkChange s (setBusyAt a s) := modDeviceAt_marks setBusy_kept (fun _ => rfl) a s

theorem clearBusyAt_marks (a : Byte) (s : State) : MarkChange s (clearBusyAt a s) := modDeviceAt_marks clearBusy_kept clearBusy_tag a s

theorem setBusyStation_marks (st : St) (s : State) : MarkChange s (setBusyStation st s) :=
  (setBusyAt_marks _ s).trans (setBusyAt_marks _ _)

theorem clearBusyStation_marks (st : St) (s : State) : MarkChange s (clearBusyStation st s) :=
  (clearBusyAt_marks _ s).trans (clearBusyAt_marks _ _)

theorem noted_tags (t : Transaction) (s : State) : TagsKept s.devices (noted t s).devices := tagsKept_upd replied_tag t.entry s.devices

/-- The same entry, as the busy markers and timers then stand. -/
theorem deviceAt_kept {s u : State} {i : Fin 16} {d : Device} (h : DeviceAt s i d) (hk : DevicesKept s.devices u.devices)
    (ht : TagsKept s.devices u.devices) : ∃ e, DeviceAt u i e ∧ e.addr = d.addr ∧ e.cls = d.cls ∧ e.tag = d.tag := by
  obtain ⟨hd, hi⟩ := h
  have hki := hk i
  have hti := ht i
  rw [hd] at hki hti
  obtain ⟨e, he, htag⟩ := Option.map_eq_some_iff.mp hti
  rw [he] at hki
  cases hki with
  | some hde =>
    obtain ⟨haddr, hcls, -⟩ := hde
    refine ⟨e, ⟨he, ?_⟩, haddr, hcls, htag⟩
    rw [haddr, deviceIdx_kept hk]
    exact hi

/-! ### The ask that stands is granted at the end of the act (R149) -/

theorem finish_grants {s w : State} {st : St} {a : Ask} {i : Fin 16} {d : Device} (hs : Settled w) (hn : NoAsk w)
    (hengine : w.ring.engine = none) (hd : DeviceAt s i d) (hda : d.addr = a.address) (hk : DevicesKept s.devices w.devices)
    (ht : TagsKept s.devices w.devices) (hp : w.pins = s.pins) : ∃ v, DevicesKept w.devices v ∧ finish (standAsk st a w) = { w with
      devices := v
      ring := { w.ring with
        lastGranted := .station st, engine := some (granted s (.station st) i d a.purpose a.kind a.payload) } } := by
  obtain ⟨e, he, haddr, hcls, htag⟩ := deviceAt_kept hd hk ht
  have hgranted : granted w (.station st) i e a.purpose a.kind a.payload = granted s (.station st) i d a.purpose a.kind a.payload := by
    simp only [granted, haddr, hcls, htag, hp]
  refine ⟨_, devicesKept_set (e := { e with tag := e.tag + 1 }) he.1 ⟨rfl, rfl, rfl, id, id⟩, ?_⟩
  have hs' : Settled (standAsk st a w) := settled_of_same hs rfl rfl rfl (.refl _)
  rw [finish, settle_of_settled hs', arbitrate_standAsk hn hengine he (haddr.trans hda), hgranted]

/-! ### The reply to a station's own STATUS (R147, R154) -/

/-- The end of a station's own STATUS whose report has been used: it is handed to the station, unless the station has gone on without
it (R147, R184). -/
def ownEnded (st : St) (p : Purpose) (w : State) : State :=
  if stillAttached w then stationEnding st p .status (endGrant w) else detachedEnding st p .status (endGrant w)

theorem endingOf_status {f : LinkFrame} (h : f.kind = 0x14) : endingOf f = .status := by rw [endingOf, h]; rfl

theorem exec_ownStatus {s : State} {t : Transaction} {st : St} {d : Device} {f : LinkFrame} {flags stock gate : Byte} (hl : Live s)
    (hr : Runs s t) (hreq : t.requester = .station st) (hp : t.purpose ≠ .forwarded) (hp' : t.purpose ≠ .wake)
    (hkind : t.request.kind = 0x02) (hd : DeviceAt s t.entry d) (hcls : t.cls = d.cls) (hcamera : d.cls = .camera)
    (hcam : cameraStation s d.addr = some st) (hen : s.bindings[st].enabled = true) (ha : Answers t f) (hk : f.kind = 0x14)
    (hpay : f.payload = [flags, stock, gate]) (hparses : StatusParses .camera f.payload) :
    exec (.statusReplyReceived f.wire) s
      = .next (finish (ownEnded st t.purpose (stationReport st (cameraReport flags stock gate) (noted t s)))) := by
  have hx : parseStatus t.cls f.payload = some (.camera flags (cameraReport flags stock gate)) := by
    rw [hcls, hcamera, hpay]; exact parseStatus_camera (hpay ▸ hparses)
  have hd' : (noted t s).devices[t.entry] = some d.replied := by
    rw [noted, modDevice_devices, upd_self, hd.1, Option.map_some]
  have hbring : Brings (.statusReplyReceived f.wire) f := .inr (.inr (.inr (.inr ⟨rfl, by rw [hk]; decide⟩)))
  have hroute : routeReply t f routeReport (noted t s) = stationReport st (cameraReport flags stock gate) (noted t s) := by
    rw [routeReply_status hd' hk hx, routeReport_replied, routeReport_camera (s := noted t s) hcam hen]
  rw [exec_of_reply hl hr ha (kindAccepted_status hp hp' hkind hk (by rw [hx]; rfl)) hbring, takeReply_own hr (.inl ⟨st, hreq⟩)]
  show Host.Outcome.next (finish (takeOwn t f (noted t s))) = _
  simp only [takeOwn, hroute, hreq, endingOf_status hk]
  rfl

/-- A frame's poll whose report moved the station on has nothing left to do. -/
theorem ownEnded_moved {w : State} {st : St} {p : Purpose} {ph : Phase} (hp : (p, ph) ∈ framePurposes)
    (h : w.stations[st].state ≠ .running ∨ w.stations[st].phase ≠ some ph) : ownEnded st p w = endGrant w := by
  have hend : stationEnding st p .status (endGrant w) = endGrant w := by
    unfold stationEnding
    split
    · rfl
    · simp only [framePurposes, List.mem_cons, Prod.mk.injEq, List.mem_nil_iff, or_false] at hp
      rcases hp with ⟨rfl, rfl⟩ | ⟨rfl, rfl⟩ | ⟨rfl, rfl⟩ | ⟨rfl, rfl⟩ | ⟨rfl, rfl⟩ <;> exact if_pos h
  have hdet : detachedEnding st p .status (endGrant w) = endGrant w := if_neg fun hc => nomatch hc.2
  unfold ownEnded
  rw [hend, hdet, ite_self]

/-- The report that serves the check of a resume ends its transaction (R187). -/
theorem ownEnded_resumeCheck (st : St) (w : State) : ownEnded st .resumeCheck w = endGrant w := by
  have hend : stationEnding st .resumeCheck .status (endGrant w) = endGrant w := by
    unfold stationEnding
    split
    · rfl
    · unfold resumeEnding
      dsimp only
      split
      · rfl
      · rfl
  have hdet : detachedEnding st .resumeCheck .status (endGrant w) = endGrant w := if_neg fun hc => nomatch hc.2
  unfold ownEnded
  rw [hend, hdet, ite_self]

/-! ### A station that drives its head request (4.6) -/

/-- The station holds its head request's frames on an open map, no abort is under way, and both devices are UP. -/
structure Drives (s : State) (st : St) (b : Binding) (q : Request) (m : RollMap) : Prop where
  holds : HoldsFrames s st q m
  noAbort : q.abort = false
  up : BoundUp s st b

/-- What a station drives is kept by an act that leaves the request's frames, the map's roll and the devices' links. -/
theorem Drives.after {s u : State} {st : St} {b : Binding} {q q' : Request} {m m' : RollMap} (h : Drives s st b q m)
    (hhead : headOf u st = some q') (hq : q'.frames = q.frames ∧ q'.abort = q.abort) (hmap : u.rolls[st].map = some m')
    (hm : m'.roll = m.roll ∧ m'.closing = m.closing) (hb : u.bindings = s.bindings) (hd : DevicesKept s.devices u.devices) :
    Drives u st b q' m' := by
  obtain ⟨⟨-, ⟨z, hz, hroll⟩, -, hopen⟩, hab, hup⟩ := h
  exact ⟨⟨hhead, ⟨z, hq.1.trans hz, hroll.trans hm.1.symm⟩, hmap, hm.2.trans hopen⟩, hq.2.trans hab, hup.kept (by rw [hb]) hd⟩

theorem headAborts_of_head {s : State} {st : St} {q : Request} (hq : headOf s st = some q) (hab : q.abort = false) :
    headAborts s st = false := by rw [headAborts, hq, Option.map_some, Option.getD_some, hab]

theorem Drives.headAborts {s : State} {st : St} {b : Binding} {q : Request} {m : RollMap} (h : Drives s st b q m) :
    headAborts s st = false := headAborts_of_head h.holds.head h.noAbort

theorem Drives.modStation {s : State} {st : St} {b : Binding} {q : Request} {m : RollMap} (h : Drives s st b q m)
    {f : Station → Station} (hq : (f s.stations[st]).queue = s.stations[st].queue) : Drives (modStation st f s) st b q m :=
  h.after ((headOf_modStation hq).trans h.holds.head) ⟨rfl, rfl⟩ h.holds.map ⟨rfl, rfl⟩ rfl (.refl _)

theorem Drives.modHead {s : State} {st : St} {b : Binding} {q : Request} {m : RollMap} (h : Drives s st b q m)
    {f : Request → Request} (hq : (f q).frames = q.frames ∧ (f q).abort = q.abort) : Drives (modHead st f s) st b (f q) m :=
  h.after (headOf_modHead h.holds.head f) hq h.holds.map ⟨rfl, rfl⟩ rfl (.refl _)

theorem Drives.dropAsk {s : State} {st : St} {b : Binding} {q : Request} {m : RollMap} (h : Drives s st b q m) :
    Drives (dropAsk st s) st b q m := h.after h.holds.head ⟨rfl, rfl⟩ h.holds.map ⟨rfl, rfl⟩ rfl (.refl _)

/-! ### Marks EXPOSED (R29, R77) -/

theorem exposeFrame_onlyChanges (st : St) (m : RollMap) (r : FrameRec) (s : State) :
    OnlyChanges [.orders, .accounts, .composer] s (exposeFrame st m r s) := by
  unfold exposeFrame
  split
  · exact .refl _ s
  · next o ho =>
    have hconvert : OnlyChanges [.accounts] s (convertHeld o.terms.account r.hold s) := by
      unfold convertHeld
      split
      · intro p hp
        cases p with
        | accounts => exact absurd (List.mem_singleton_self _) hp
        | _ => rfl
      · exact .refl _ s
    exact (((hconvert.widen).andThen (reportOrder_onlyChanges _ _ _)).andThen (setSlot_onlyChanges _ _ _)).andThen
      (reportOrder_onlyChanges _ _ _)

theorem convertHeld_of_at {s : State} {j : Fin 32} {a : Account} (h : AccountAt s j a) {n : Nat} (hn : a.number = n) (x : Nat) :
    convertHeld n x s = modAccount j (fun a => { a with held := a.held - x, spent := satAdd a.spent x }) s := by
  rw [convertHeld, accountIdx_of_at h hn]

/-- The frame label of an exposed frame (R117). -/
def exposedLabel (s : State) (o : Order) (m : RollMap) (r : FrameRec) : Lines :=
  frameLabel s.composer.templates[o.terms.template] s.composer.stand o ((s.plans[o.terms.plan]).getD []) m.roll r

theorem exposeFrame_eq {s : State} {k : Fin 16} {o : Order} {j : Fin 32} {a : Account} {r : FrameRec} (ho : OrderAt s k o)
    (hn : o.terms.number = r.order) (ha : AccountAt s j a) (hj : a.number = o.terms.account) (st : St) (m : RollMap) :
    exposeFrame st m r s = modOrder k (fun o => { o with exposed := satAdd o.exposed 1 })
      (setSlot r.slot (.composed (.frame st r.number) (exposedLabel s o m r))
        (modOrder k (fun o => { o with charged := satAdd o.charged r.hold })
          (modAccount j (fun a => { a with held := a.held - r.hold, spent := satAdd a.spent r.hold }) s))) := by
  obtain ⟨w, hw⟩ : ∃ w, w = modOrder k (fun o => { o with charged := satAdd o.charged r.hold })
      (modAccount j (fun a => { a with held := a.held - r.hold, spent := satAdd a.spent r.hold }) s) := ⟨_, rfl⟩
  have ho' : OrderAt w k { o with charged := satAdd o.charged r.hold } := by
    refine ⟨by rw [hw, modOrder_orders, upd_self, modAccount_orders, ho.1, Option.map_some], ?_⟩
    rw [hw]
    exact (orderIdx_modOrder (f := fun o => { o with charged := satAdd o.charged r.hold }) (fun _ => rfl) k _ _).trans ho.2
  have hcharge : reportOrder r.order (fun o => { o with charged := satAdd o.charged r.hold })
      (convertHeld o.terms.account r.hold s) = w := by
    rw [convertHeld_of_at ha hj, reportOrder_of_at (by exact ho) hn, hw]
  have hlabel : frameLabel w.composer.templates[o.terms.template] w.composer.stand o ((w.plans[o.terms.plan]).getD []) m.roll r
      = exposedLabel s o m r := by rw [hw]; rfl
  rw [exposeFrame, orderOf_of_at ho hn]
  dsimp only
  rw [hcharge, hlabel, composeSlot, reportOrder_of_at (s := setSlot r.slot _ w)
    (o := { o with charged := satAdd o.charged r.hold }) (by exact ho') (by exact hn), hw]

section
variable {s : State} {st : St} {q : Request} {m : RollMap} (h : HoldsFrames s st q m) {r : FrameRec}
  (hr : recordAt m m.gate = some r)
include h hr

theorem HoldsFrames.markGateExposed_reserved (hres : r.state = .reserved) : markGateExposed st s =
    (.marked, countExposed st (exposeFrame st m r (modMap st (·.marked m.gate .exposed) s))) := by
  have hmark : markExposed st m.roll m.gate s = (.marked, exposeFrame st m r (setFrameState st m.gate .exposed s)) := by
    simp only [markExposed, h.openMap, hr, hres, if_true]
  rw [markGateExposed, h.headRoll, h.gateOf, hmark]
  rfl

theorem HoldsFrames.markGateExposed_marked (hres : r.state ≠ .reserved) : markGateExposed st s = (.already, s) := by
  have hmark : markExposed st m.roll m.gate s = (.already, s) := by
    simp only [markExposed, h.openMap, hr, if_neg hres]
  rw [markGateExposed, h.headRoll, h.gateOf, hmark]

end

/-! ### The station goes on (R74, R77, R80) -/

/-- A station in phase ADVANCE (R77). -/
def Station.advancing (x : Station) : Station := { x.quiet with state := .running, phase := some .advance }

theorem enterAdvance_eq {s : State} {st : St} {b : Binding} (hup : BoundUp s st b) : ∃ v, DevicesKept s.devices v
    ∧ TagsKept s.devices v ∧ setBusyStation st (modStation st Station.advancing s) = { modStation st Station.advancing s with devices := v }
    ∧ enterAdvance st s = standAsk st ⟨b.camera, 0x05, [], .advance⟩ { modStation st Station.advancing s with devices := v } := by
  obtain ⟨v, hv, ht, he⟩ := setBusyStation_marks st (modStation st Station.advancing s)
  refine ⟨v, hv, ht, he, ?_⟩
  have hup' : BoundUp { modStation st Station.advancing s with devices := v } st b := hup.kept rfl hv
  rw [enterAdvance]
  show askCamera st kindAdvance .advance (setBusyStation st (modStation st Station.advancing s)) = _
  rw [he]
  exact askCamera_standAsk hup' kindAdvance .advance

/-- A station that stands HELD at a frame boundary (R74). -/
def Station.holding (x : Station) : Station := { x.quiet with state := .held }

/-- The checks of a frame boundary on an asserted hold line (R74). -/
theorem boundary_held {s : State} {st : St} {b : Binding} {q : Request} (hq : headOf s st = some q) (hab : q.abort = false)
    (hb : BoundUp s st b) (hhold : s.pins.hold[st] = true) : boundary st s = clearBusyStation st (modStation st Station.holding s) := by
  have hhead : headAborts (modStation st Station.quiet s) st = false := by
    rw [Machine.headAborts, headOf_modStation (by rfl), hq, Option.map_some, Option.getD_some, hab]
  have hup : bothUp (modStation st Station.quiet s) st = true := (bothUp_kept rfl (.refl _)).trans hb.2
  unfold boundary
  simp only [hhead, hup, Bool.false_eq_true, if_false, Bool.not_true, modStation_pins, hhold, if_true, modStation_modStation]
  rfl

/-- The film has moved: the advance limit, the poll timer and the gap stop (R80). -/
def Station.moved (x : Station) : Station := { x with advanceLimit := false, pollTimer := false, gap := none, waits := 0 }

/-- The map whose gate frame has moved on (R30). -/
def RollMap.advanced (m : RollMap) : RollMap := { m with gate := m.gate + 1 }

/-- The state in which the film has moved and P has moved on (R30, R80). -/
def filmMoved (st : St) (s : State) : State := modMap st RollMap.advanced (dropAsk st (modStation st Station.moved s))

theorem filmMoved_onlyChanges (st : St) (s : State) : OnlyChanges [.stations, .ring, .rolls] s (filmMoved st s) :=
  (((modStation_onlyChanges st Station.moved s).widen).andThen (dropAsk_onlyChanges st _)).andThen (modMap_onlyChanges st _ _)

theorem filmMoved_station (st : St) (s : State) : (filmMoved st s).stations[st] = s.stations[st].moved := upd_self _ _ _

/-- The outcome of an advance that has passed the end of the roll (R83). -/
def Station.ending (x : Station) : Station := { x with rollEnd := true }

theorem takeAdvance_of_rollEnd {s u : State} {st : St} (hadv : advanceRoll st (headRoll (dropAsk st (modStation st Station.moved s)) st)
    (dropAsk st (modStation st Station.moved s)) = (.rollEnd, u)) :
    takeAdvance st s = endRequest st (lastOutcome u st) (modStation st Station.ending u) := by
  have hadv' : advanceRoll st (headRoll (dropAsk st (modStation st (fun x =>
      { x with advanceLimit := false, pollTimer := false, gap := none, waits := 0 }) s)) st)
    (dropAsk st (modStation st (fun x =>
      { x with advanceLimit := false, pollTimer := false, gap := none, waits := 0 }) s)) = (.rollEnd, u) := hadv
  unfold takeAdvance
  simp only [hadv']
  rfl

theorem takeAdvance_of_advanced {s u : State} {st : St} (hadv : advanceRoll st (headRoll (dropAsk st (modStation st Station.moved s)) st)
    (dropAsk st (modStation st Station.moved s)) = (.advanced, u)) : takeAdvance st s =
      if noFrameLeft u st then endRequest st (lastOutcome u st) u
      else boundary st (modHead st (Request.nextFrame (headCopies u st)) u) := by
  have hadv' : advanceRoll st (headRoll (dropAsk st (modStation st (fun x =>
      { x with advanceLimit := false, pollTimer := false, gap := none, waits := 0 }) s)) st)
    (dropAsk st (modStation st (fun x =>
      { x with advanceLimit := false, pollTimer := false, gap := none, waits := 0 }) s)) = (.advanced, u) := hadv
  unfold takeAdvance
  simp only [hadv']

section
variable {s : State} {st : St} {b : Binding} {q : Request} {z : Reserved} {m : RollMap} (h : Drives s st b q m)
include h

theorem Drives.filmMoved : Drives (filmMoved st s) st b q m.advanced :=
  h.after ((headOf_modStation (f := Station.moved) (by rfl)).trans h.holds.head) ⟨rfl, rfl⟩
    (modMap_map (s := Machine.dropAsk st (Machine.modStation st Station.moved s)) h.holds.map _) ⟨rfl, rfl⟩ rfl (.refl _)

theorem Drives.advanceRoll : Machine.advanceRoll st (headRoll (Machine.dropAsk st (Machine.modStation st Station.moved s)) st)
    (Machine.dropAsk st (Machine.modStation st Station.moved s))
      = (if m.gate + 1 = m.length + 1 then .rollEnd else .advanced, Machine.filmMoved st s) := by
  have h' : HoldsFrames (Machine.dropAsk st (Machine.modStation st Station.moved s)) st q m :=
    ((h.modStation (f := Station.moved) (by rfl)).dropAsk).holds
  simp only [Machine.advanceRoll, h'.headRoll, h'.openMap]
  rfl

theorem Drives.lastOutcome : Machine.lastOutcome s st = .complete := by
  rw [Machine.lastOutcome, h.headAborts, if_neg Bool.false_ne_true]

theorem Drives.noFrameLeft (hz : q.frames = some z) : Machine.noFrameLeft s st = decide (z.first + z.count ≤ m.gate) := by
  simp only [Machine.noFrameLeft, h.holds.head, hz, h.holds.gateOf]

/-- The film has passed the end of the roll (R30, R83). -/
theorem Drives.takeAdvance_rollEnd (hend : m.gate = m.length) :
    takeAdvance st s = endRequest st .complete (Machine.modStation st Station.ending (Machine.filmMoved st s)) := by
  have hadv := h.advanceRoll
  rw [if_pos (by rw [hend])] at hadv
  rw [takeAdvance_of_rollEnd hadv, h.filmMoved.lastOutcome]

/-- The request's last frame has been taken (R80). -/
theorem Drives.takeAdvance_last (hend : m.gate ≠ m.length) (hz : q.frames = some z) (hlast : z.first + z.count ≤ m.gate + 1) :
    takeAdvance st s = endRequest st .complete (Machine.filmMoved st s) := by
  have hadv := h.advanceRoll
  rw [if_neg (by omega)] at hadv
  have hleft : Machine.noFrameLeft (Machine.filmMoved st s) st = true := by
    rw [h.filmMoved.noFrameLeft hz]; exact decide_eq_true hlast
  rw [takeAdvance_of_advanced hadv, if_pos hleft, h.filmMoved.lastOutcome]

/-- The request goes on to its next frame (R80). -/
theorem Drives.takeAdvance_next {i : Fin 16} {o : Order} (hend : m.gate ≠ m.length) (hz : q.frames = some z)
    (hmore : m.gate + 1 < z.first + z.count) (ho : OrderAt s i o) (hn : o.terms.number = q.order) :
    takeAdvance st s = boundary st (Machine.modHead st (Request.nextFrame o.terms.copies) (Machine.filmMoved st s)) := by
  have hadv := h.advanceRoll
  rw [if_neg (by omega)] at hadv
  have hleft : Machine.noFrameLeft (Machine.filmMoved st s) st = false := by
    rw [h.filmMoved.noFrameLeft hz]; exact decide_eq_false (Nat.not_le.mpr hmore)
  have ho' : OrderAt (Machine.filmMoved st s) i o := ho.congr (filmMoved_onlyChanges st s .orders (by decide))
  have hcopies : headCopies (Machine.filmMoved st s) st = o.terms.copies := by
    simp only [headCopies, h.filmMoved.holds.head, orderOf_of_at ho' hn, Option.map_some, Option.getD_some]
  rw [takeAdvance_of_advanced hadv, if_neg (by rw [hleft]; exact Bool.false_ne_true), hcopies]

end

/-! ### The end of a request (R83) -/

/-- The ended request's REQUEST_DONE has been posted, and the request is gone (R83). -/
theorem endRequest_gone {s : State} {st : St} {q : Request} {i : Fin 16} {o : Order} (hq : headOf s st = some q)
    (ho : OrderAt s i o) (hn : o.terms.number = q.order) (hc : o.closing = false) (hroom : Room s 1) (x : RequestOutcome) :
    ∃ p v, Transmits s { s with port := p } ∧ DevicesKept s.devices v ∧ TagsKept s.devices v
      ∧ endRequest st x s = afterRequest st s.stations[st].leftUp (requestGone st i o v { s with
          port := p, eq := { s.eq with records := s.eq.records ++ [.event q.tag (q.doneEvent x)] } }) := by
  obtain ⟨p, hjoin, htransmits⟩ := joinTail_eq (.event q.tag (q.doneEvent x)) s
  obtain ⟨w, hw⟩ : ∃ w : State, w = { s with
    port := p, eq := { s.eq with records := s.eq.records ++ [.event q.tag (q.doneEvent x)] } } := ⟨_, rfl⟩
  have hqW : headOf w st = some q := by rw [hw]; exact hq
  have hoW : OrderAt w i o := ho.congr (by rw [hw])
  obtain ⟨v, hv, ht, he⟩ := clearBusyStation_marks st (setOrder i (o.left (o.outstanding - 1)) (modStation st Station.dequeue w))
  refine ⟨p, v, htransmits, by rw [hw] at hv; exact hv, by rw [hw] at ht; exact ht, ?_⟩
  rw [endRequest_posts hq hroom, hjoin, ← hw, finishRequest_eq hqW hoW hn hc, he]
  rw [hw]
  rfl

/-- A station that has driven its last frame past the end of the roll starts an unload (R83). -/
theorem afterRequest_unloads {s : State} {st : St} {b : Binding} (hend : s.stations[st].rollEnd = true) (hup : BoundUp s st b) :
    afterRequest st false s = startUnload st (modStation st (fun x => { x with rollEnd := false }) s) := by
  obtain ⟨w, hw⟩ : ∃ w, w = modStation st (fun x => { x with rollEnd := false }) s := ⟨_, rfl⟩
  have hup' : BoundUp w st b := by rw [hw]; exact hup.kept rfl (.refl _)
  obtain ⟨v, hv, -, hstart⟩ := startUnload_standAsk hup'
  have hboth : bothUp (startUnload st w) st = true := by
    rw [hstart]
    exact (bothUp_kept (s := w) (t := standAsk st ⟨b.camera, 0x06, [], .rewind⟩ { modStation st Station.unloads w with devices := v })
      rfl hv).trans hup'.2
  unfold afterRequest
  simp only [hend, if_true, ← hw, hboth]

/-! ### A frame boundary (R74) -/

/-- The entry at an address is busy no longer, and an entry that is not busy stays so (R150). -/
theorem clearBusyAt_notBusy {s : State} {a : Byte} {i : Fin 16} {d : Device} (hd : (clearBusyAt a s).devices[i] = some d)
    (h : deviceIdx s a = some i ∨ ∀ e, s.devices[i] = some e → e.busy = false) : d.busy = false := by
  have hclear (e : Device) : e.clearBusy.busy = false := by
    unfold Device.clearBusy
    split
    · rfl
    · next hb => exact Bool.eq_false_iff.mpr hb
  unfold clearBusyAt modDeviceAt at hd
  split at hd
  · next j hj =>
    rw [modDevice_devices, upd_get] at hd
    split at hd
    · obtain ⟨e, -, rfl⟩ := Option.map_eq_some_iff.mp hd
      exact hclear e
    · next hne =>
      rcases h with h | h
      · rw [hj] at h; exact absurd (Option.some.inj h).symm hne
      · exact h d hd
  · next hj =>
    rcases h with h | h
    · rw [hj] at h; cases h
    · exact h d hd

theorem clearBusyStation_notBusy {s : State} {st : St} {i : Fin 16} {d : Device} (hd : (clearBusyStation st s).devices[i] = some d)
    (h : deviceIdx s (cameraOf s st) = some i ∨ deviceIdx s (lampOf s st) = some i) : d.busy = false := by
  obtain ⟨v, hv, he⟩ := clearBusyAt_change (cameraOf s st) s
  have hcamera := @clearBusyAt_notBusy s (cameraOf s st) i
  unfold clearBusyStation at hd
  refine clearBusyAt_notBusy hd ?_
  rcases h with h | h
  · exact .inr fun e he' => hcamera he' (.inl h)
  · refine .inl ?_
    rw [he, deviceIdx_kept (s := s) hv]
    exact h

theorem Drives.gateRecord {s : State} {st : St} {b : Binding} {q : Request} {m : RollMap} (h : Drives s st b q m) :
    gateRecord s st = recordAt m m.gate := by simp only [Machine.gateRecord, h.holds.headRoll, h.holds.openMap]

theorem enterLampSet_tags {s : State} {st : St} {r : FrameRec} (hr : Machine.gateRecord s st = some r) :
    TagsKept s.devices (enterLampSet st s).devices := by
  obtain ⟨v, -, ht, he⟩ := setBusyStation_marks st (modStation st Station.lampSetting s)
  have henter : enterLampSet st s = askLampSet st (setBusyStation st (modStation st Station.lampSetting s)) := by
    rw [enterLampSet, hr]; rfl
  have hdev : (askLampSet st (setBusyStation st (modStation st Station.lampSetting s))).devices
      = (setBusyStation st (modStation st Station.lampSetting s)).devices := by
    unfold askLampSet
    split
    · exact placeAsk_onlyChanges _ _ _ _ _ _ .devices (by decide)
    · rfl
  rw [henter, hdev, he]
  exact ht

section
variable {s : State} {st : St} {b : Binding} {q : Request} {m : RollMap} (h : Drives s st b q m)
include h

/-- The next frame begins: its LAMP_SET is asked for (R74). -/
theorem Drives.boundary_lampSet {r : FrameRec} (hhold : s.pins.hold[st] = false) (hr : recordAt m m.gate = some r) :
    ∃ v, DevicesKept s.devices v ∧ TagsKept s.devices v ∧ boundary st s
      = standAsk st ⟨b.lamp, 0x03, lampPayload r.times, .lampSet⟩ { Machine.modStation st Station.lampSetting s with devices := v } := by
  have h' : Drives (Machine.modStation st Station.quiet s) st b q m := h.modStation (by rfl)
  obtain ⟨v, hv, -, he⟩ := enterLampSet_eq h'.up (h'.gateRecord.trans hr)
  have ht := enterLampSet_tags (h'.gateRecord.trans hr)
  rw [he] at ht
  refine ⟨v, hv, ht, ?_⟩
  rw [Machine.boundary_lampSet h.holds.head h.noAbort h.up hhold, he, modStation_modStation]
  rfl

/-- The station is HELD at the boundary, and its devices are busy no longer (R74, R150). -/
theorem Drives.boundary_held (hhold : s.pins.hold[st] = true) : ∃ v, DevicesKept s.devices v ∧ TagsKept s.devices v
    ∧ (∀ (j : Fin 16) x, v[j] = some x → deviceIdx s b.camera = some j ∨ deviceIdx s b.lamp = some j → x.busy = false)
    ∧ boundary st s = { Machine.modStation st Station.holding s with devices := v } := by
  obtain ⟨v, hv, ht, he⟩ := clearBusyStation_marks st (Machine.modStation st Station.holding s)
  refine ⟨v, hv, ht, fun j x hx hj => ?_, (Machine.boundary_held h.holds.head h.noAbort h.up hhold).trans he⟩
  have hcamera : cameraOf (Machine.modStation st Station.holding s) st = b.camera := h.up.camera
  have hlamp : lampOf (Machine.modStation st Station.holding s) st = b.lamp := h.up.lamp
  refine clearBusyStation_notBusy (s := Machine.modStation st Station.holding s) (st := st) (i := j) (by rw [he]; exact hx) ?_
  rw [hcamera, hlamp]
  exact hj

end

/-! ### Where the act of a station's own reply ends (R147, R149) -/

section
variable {s w : State} {st : St} {c : Instr} (hs : Settled s) (hn : NoAsk s) (h : EndsAt st s w) (hslot : w.slot = s.slot)
  (hring : (endGrant w).ring = { s.ring with engine := none })
include hs hn h hslot hring

omit hs in
theorem endGrant_noAsk : NoAsk (endGrant w) :=
  hn.kept hslot (by rw [hring]; exact hn.2.1) (by rw [hring]; exact hn.2.2.1) h.devices

/-- Nothing is asked. -/
theorem exec_ends_idle (hexec : exec c s = .next (finish (endGrant w))) : exec c s = .next (endGrant w) :=
  next_of_finish hexec (finish_of_noAsk (endGrant_settled (h.settled hs)) (endGrant_noAsk hn h hslot hring))

/-- The station's next transaction is asked for, and granted at once. -/
theorem exec_ends_granted {a : Ask} {i : Fin 16} {d : Device} (htags : TagsKept s.devices w.devices) (hpins : w.pins = s.pins)
    (hd : DeviceAt s i d) (hda : d.addr = a.address) (hexec : exec c s = .next (finish (endGrant (standAsk st a w)))) :
    ∃ v, DevicesKept w.devices v ∧ exec c s = .next { w with
      devices := v
      ring := { s.ring with
        lastGranted := .station st, engine := some (granted s (.station st) i d a.purpose a.kind a.payload) } } := by
  obtain ⟨u, hu⟩ : ∃ u, u = endGrant w := ⟨_, rfl⟩
  have hgrant : endGrant (standAsk st a w) = standAsk st a u := by rw [hu]; rfl
  have hdev : u.devices = w.devices := by rw [hu]; rfl
  have hringU : u.ring = { s.ring with engine := none } := by rw [hu]; exact hring
  obtain ⟨v, hv, hfin⟩ := finish_grants (s := s) (w := u) (st := st) (a := a) (by rw [hu]; exact endGrant_settled (h.settled hs))
    (by rw [hu]; exact endGrant_noAsk hn h hslot hring) (by rw [hringU]) hd hda (by rw [hdev]; exact h.devices)
    (by rw [hdev]; exact htags) (by rw [hu]; exact hpins)
  refine ⟨v, by rw [← hdev]; exact hv, ?_⟩
  rw [hexec, hgrant, hfin, hringU, hu]
  rfl

end

end Sys2Proof.Machine
end

section
/-! PROOFS. The reports that drive a frame (R77, R80, R81): a SHOT marks the gate frame, an ADVANCED moves the film on, and a report
that fails the check suspends the station. -/

namespace Sys2Proof.Machine

/-! ### A report in RUNNING (R77, R80, R81) -/

theorem stationReport_running {s : State} {st : St} (hpost : s.stations[st].pendingPost = none)
    (hstate : s.stations[st].state = .running) (r : CameraReport) :
    stationReport st r s = runningReport st r (noteRollStatus st r.present s) := by
  simp only [stationReport, noteRollStatus_stations, hpost, hstate, Option.isSome_none, Bool.false_eq_true, if_false]

theorem runningReport_shot {s : State} {st : St} {m : RollMap} {r : CameraReport} {lampFault : Bool} (hm : s.rolls[st].map = some m)
    (hphase : s.stations[st].phase = some .shotWait) (hr : expected m false r = true) (hshot : r.shot = some lampFault) :
    runningReport st r s = takeShot st lampFault s := by
  unfold runningReport
  simp only [hm, hphase, show (some Phase.shotWait == some Phase.advanceWait) = false from rfl, hr, hshot, Bool.not_true,
    Bool.false_eq_true, if_false, if_true]

theorem runningReport_advanced {s : State} {st : St} {m : RollMap} {r : CameraReport} (hm : s.rolls[st].map = some m)
    (hphase : s.stations[st].phase = some .advanceWait) (hr : expected m true r = true) (hadv : r.advanced = true) :
    runningReport st r s = takeAdvance st s := by
  unfold runningReport
  simp only [hm, hphase, show (some Phase.advanceWait == some Phase.advanceWait) = true from rfl, hr, hadv, Bool.not_true,
    Bool.false_eq_true, if_false, and_self, if_true]
  rfl

theorem runningReport_unexpected {s : State} {st : St} {m : RollMap} {r : CameraReport} (hm : s.rolls[st].map = some m)
    (hphase : s.stations[st].phase = some .advanceWait) (hr : expected m true r = false) :
    runningReport st r s = noteShot st r (suspendHeld st .advanceWait false s) := by
  unfold runningReport
  simp only [hm, hphase, show (some Phase.advanceWait == some Phase.advanceWait) = true from rfl, hr, Bool.not_false, if_true]
  rfl

/-- A report agrees with the map in ADVANCE_WAIT when it names the map's stock and its gate frame, or the next one (R81). -/
theorem expected_advancing_iff {m : RollMap} {flags stock gate : Byte} :
    expected m true (cameraReport flags stock gate) = true ↔ flags.getLsbD 0 = true ∧ stock.toNat = m.stock
      ∧ (gate.toNat = m.gate ∧ flags.getLsbD 3 = false ∨ gate.toNat = m.gate + 1) := by
  unfold expected sameRoll cameraReport
  cases hp : flags.getLsbD 0 with
  | false => simp
  | true => cases ha : flags.getLsbD 3 <;> simp

/-! ### A SHOT is taken (R77) -/

/-- The gate frame's record exposed, with what follows from it, and the request's count (R29, R77). -/
def gateExposed (st : St) (m : RollMap) (r : FrameRec) (label : Lines) (k : Fin 16) (j : Fin 32) (s : State) : State :=
  countExposed st (modOrder k (fun o => { o with exposed := satAdd o.exposed 1 })
    (setSlot r.slot (.composed (.frame st r.number) label)
      (modOrder k (fun o => { o with charged := satAdd o.charged r.hold })
        (modAccount j (fun a => { a with held := a.held - r.hold, spent := satAdd a.spent r.hold })
          (modMap st (·.marked m.gate .exposed) s)))))

theorem markGateExposed_eq {s : State} {st : St} {q : Request} {m : RollMap} (h : HoldsFrames s st q m) {r : FrameRec}
    (hr : recordAt m m.gate = some r) (hres : r.state = .reserved) {k : Fin 16} {o : Order} {j : Fin 32} {a : Account}
    (ho : OrderAt s k o) (hn : o.terms.number = r.order) (ha : AccountAt s j a) (hj : a.number = o.terms.account) :
    markGateExposed st s = (.marked, gateExposed st m r (exposedLabel s o m r) k j s) := by
  rw [h.markGateExposed_reserved hr hres, exposeFrame_eq (s := modMap st (·.marked m.gate .exposed) s) ho hn ha hj]
  rfl

section
variable {s : State} {st : St} {m : RollMap} {r : FrameRec} {label : Lines} {k : Fin 16} {j : Fin 32}

theorem gateExposed_stations : (gateExposed st m r label k j s).stations =
    upd s.stations st fun x => { x with queue := x.queue.modifyHead fun q => { q with exposed := q.exposed + 1 } } := rfl

theorem gateExposed_rolls : (gateExposed st m r label k j s).rolls =
    upd s.rolls st fun x => { x with map := x.map.map (·.marked m.gate .exposed) } := rfl

theorem gateExposed_orders {k : Fin 16} {o : Order} (h : s.orders[k] = some o) : (gateExposed st m r label k j s).orders =
    s.orders.set k.val (some { o with
      charged := min (o.charged + r.hold) 4294967295, exposed := min (o.exposed + 1) 4294967295 }) k.isLt := by
  simp only [gateExposed, countExposed, modHead_orders, modOrder_orders, setSlot_orders, modAccount_orders, modMap_orders, upd_upd]
  simp only [upd, h, Function.comp_apply, Option.map_some, satAdd, top32]

theorem gateExposed_accounts {j : Fin 32} {a : Account} (h : s.accounts[j] = some a) :
    (gateExposed st m r label k j s).accounts = s.accounts.set j.val
      (some { a with held := a.held - r.hold, spent := min (a.spent + r.hold) 4294967295 }) j.isLt := by
  simp only [gateExposed, countExposed, modHead_accounts, modOrder_accounts, setSlot_accounts, modAccount_accounts, modMap_accounts,
    upd, h, Option.map_some, satAdd, top32]

theorem gateExposed_composer : (gateExposed st m r label k j s).composer = { s.composer with
    slots := s.composer.slots.set r.slot.val (.composed (.frame st r.number) label) r.slot.isLt } := by
  simp only [gateExposed, countExposed, modHead_composer, modOrder_composer, setSlot_composer, modAccount_composer,
    modMap_composer]

theorem gateExposed_onlyChanges : OnlyChanges [.stations, .rolls, .orders, .accounts, .composer] s
    (gateExposed st m r label k j s) :=
  ((((((modMap_onlyChanges st _ s).widen).andThen (modAccount_onlyChanges j _ _)).andThen (modOrder_onlyChanges k _ _)).andThen
    (setSlot_onlyChanges r.slot _ _)).andThen (modOrder_onlyChanges k _ _)).andThen (modHead_onlyChanges st _ _)

end

theorem takeShot_of_marked {s u : State} {st : St} (hab : headAborts (dropAsk st (modStation st Station.shotOver s)) st = false)
    (hmark : markGateExposed st (dropAsk st (modStation st Station.shotOver s)) = (.marked, u)) :
    takeShot st false s = enterAdvance st u := by
  have hab' : headAborts (dropAsk st (modStation st (fun x => { x with shotLimit := none, pollTimer := false }) s)) st = false := hab
  have hmark' : markGateExposed st (dropAsk st (modStation st (fun x => { x with shotLimit := none, pollTimer := false }) s))
      = (.marked, u) := hmark
  unfold takeShot
  simp only [hab', hmark']
  rfl

/-! ### The devices of a running frame stay as they are (R150) -/

theorem setBusyAt_of_busy {s : State} {a : Byte}
    (h : ∀ i l, DeviceAt s i l → l.addr = a → l.busy = true ∧ l.idleTimer = false ∧ l.duePoll = false) : setBusyAt a s = s := by
  unfold setBusyAt modDeviceAt
  split
  · next i hi =>
    obtain ⟨l, hl, hla⟩ := deviceIdx_get hi
    obtain ⟨hbusy, htimer, hdue⟩ := h i l ⟨hl, hla ▸ hi⟩ hla
    have hkept : l.setBusy = l := by
      cases l
      cases hbusy
      cases htimer
      cases hdue
      rfl
    have hsame : upd s.devices i (Option.map Device.setBusy) = s.devices :=
      upd_same _ _ _ (by rw [hl, Option.map_some, hkept])
    rw [modDevice, hsame]
  · rfl

theorem setBusyStation_of_busy {s : State} {st : St} {b : Binding} (hb : BoundUp s st b) (h : ∀ i l, DeviceAt s i l →
    l.addr = b.camera ∨ l.addr = b.lamp → l.busy = true ∧ l.idleTimer = false ∧ l.duePoll = false) : setBusyStation st s = s := by
  rw [setBusyStation, hb.camera, hb.lamp, setBusyAt_of_busy fun i l hl ha => h i l hl (.inl ha),
    setBusyAt_of_busy fun i l hl ha => h i l hl (.inr ha)]

/-! ### The report of a SHOT (R77) -/

theorem RunsFrame.holds {s : State} {st : St} {q : Request} {m : RollMap} {ph : Phase} (h : RunsFrame s st q m ph) :
    HoldsFrames s st q m := by
  obtain ⟨-, -, -, hq, -, -, -, hframes, hm, hc⟩ := h
  exact ⟨hq, hframes, hm, hc⟩

/-- What a SHOT without a lamp fault leaves of the station, before its ADVANCE is asked for (R77). -/
def shotTaken (st : St) (m : RollMap) (r : FrameRec) (label : Lines) (k : Fin 16) (j : Fin 32) (s : State) : State :=
  modStation st Station.advancing (gateExposed st m r label k j (modStation st Station.shotOver s))

section
variable {s : State} {st : St} {q : Request} {m : RollMap} {b : Binding} {r : FrameRec} {k : Fin 16} {o : Order} {j : Fin 32}
  {a : Account}

theorem takeShot_exposes (hrun : RunsFrame s st q m .shotWait) (hn : NoAsk s) (hup : BoundUp s st b)
    (hbusy : ∀ i l, DeviceAt s i l → l.addr = b.camera ∨ l.addr = b.lamp → l.busy = true ∧ l.idleTimer = false)
    (hr : recordAt m m.gate = some r) (hres : r.state = .reserved) (ho : OrderAt s k o) (hnum : o.terms.number = r.order)
    (ha : AccountAt s j a) (hj : a.number = o.terms.account) : takeShot st false s
      = standAsk st ⟨b.camera, 0x05, [], .advance⟩ (shotTaken st m r (exposedLabel s o m r) k j s) := by
  obtain ⟨w, hw⟩ : ∃ w, w = modStation st Station.shotOver s := ⟨_, rfl⟩
  have hdrop : dropAsk st w = w := by rw [hw]; exact dropAsk_of_none (s := modStation st Station.shotOver s) (hn.2.1 st)
  have hrunW : RunsFrame w st q m .shotWait := by rw [hw]; exact hrun.modStation rfl rfl rfl rfl
  have hmark : markGateExposed st w = (.marked, gateExposed st m r (exposedLabel s o m r) k j w) := by
    rw [markGateExposed_eq hrunW.holds hr hres (ho.congr (by rw [hw]; rfl)) hnum (ha.congr (by rw [hw]; rfl)) hj, hw]
    rfl
  rw [takeShot_of_marked (u := gateExposed st m r (exposedLabel s o m r) k j w) (by rw [← hw, hdrop]; exact hrunW.headAborts)
    (by rw [← hw, hdrop]; exact hmark)]
  obtain ⟨u, hu⟩ : ∃ u, u = gateExposed st m r (exposedLabel s o m r) k j w := ⟨_, rfl⟩
  have hchanges : OnlyChanges [.stations, .rolls, .orders, .accounts, .composer] s u := by
    rw [hu, hw]
    exact ((modStation_onlyChanges st _ s).widen).andThen gateExposed_onlyChanges
  have hdev : u.devices = s.devices := hchanges .devices (by decide)
  have hupU : BoundUp u st b := hup.kept (by rw [hchanges .bindings (by decide)]) (by rw [hdev]; exact .refl _)
  obtain ⟨v, -, -, hset, henter⟩ := enterAdvance_eq hupU
  have hself : setBusyStation st (modStation st Station.advancing u) = modStation st Station.advancing u := by
    refine setBusyStation_of_busy (b := b) (hupU.kept rfl (.refl _)) fun i l hl hla => ?_
    have hl' : DeviceAt s i l := by
      refine ⟨hdev ▸ hl.1, ?_⟩
      exact (deviceIdx_kept (t := modStation st Station.advancing u) (by rw [modStation_devices, hdev]; exact .refl _) l.addr).symm.trans
        hl.2
    exact ⟨(hbusy i l hl' hla).1, (hbusy i l hl' hla).2, (hn.2.2.2 i l hl'.1).2⟩
  rw [← hu, henter, ← hset, hself, hu, hw]
  rfl

end

section
variable {s : State} {st : St} {q : Request} {m : RollMap} {r : FrameRec} {label : Lines} {k : Fin 16} {j : Fin 32}

theorem shotTaken_onlyChanges :
    OnlyChanges [.stations, .rolls, .orders, .accounts, .composer] s (shotTaken st m r label k j s) :=
  (((modStation_onlyChanges st Station.shotOver s).widen).andThen gateExposed_onlyChanges).andThen
    (modStation_onlyChanges st Station.advancing _)

theorem shotTaken_stations : (shotTaken st m r label k j s).stations = upd s.stations st fun x =>
    { x.quiet with
      queue := x.queue.modifyHead fun q => { q with exposed := q.exposed + 1 }, state := .running, phase := some .advance } := by
  rw [shotTaken, modStation_stations, gateExposed_stations, modStation_stations, upd_upd, upd_upd]
  rfl

theorem shotTaken_rolls :
    (shotTaken st m r label k j s).rolls = upd s.rolls st fun x => { x with map := x.map.map (·.marked m.gate .exposed) } := by
  rw [shotTaken, modStation_rolls, gateExposed_rolls]
  rfl

theorem shotTaken_endsAt : EndsAt st s (shotTaken st m r label k j s) := by
  have hst := shotTaken_stations (s := s) (st := st) (m := m) (r := r) (label := label) (k := k) (j := j)
  refine ⟨?_, ?_, shotTaken_onlyChanges .bindings (by decide), ?_, running_atRest ?_⟩
  · rw [hst]; exact othersSame_upd _ _ _
  · rw [shotTaken_rolls]; exact othersSame_upd _ _ _
  · rw [shotTaken_onlyChanges .devices (by decide)]; exact .refl _
  · rw [hst, upd_self]

end

/-- A poll's report of SHOT without the lamp-fault flag (R77). -/
theorem shotReport_exposes {s : State} {t : Transaction} {st : St} {q : Request} {m : RollMap} {d : Device} {b : Binding}
    {f : LinkFrame} {r : FrameRec} {k : Fin 16} {o : Order} {j : Fin 32} {a : Account} (ho : AnswersOpen s t d f)
    (hreq : t.requester = .station st) (hp : t.purpose = .shotPoll) (hkind : t.request.kind = 0x02) (hsc : StationCamera s st b d)
    (hbusy : ∀ i l, DeviceAt s i l → l.addr = b.camera ∨ l.addr = b.lamp → l.busy = true ∧ l.idleTimer = false)
    (hrun : RunsFrame s st q m .shotWait) (hrec : recordAt m m.gate = some r) (hres : r.state = .reserved) (hstock : m.stock ≤ 255)
    (hgate : m.gate ≤ 255) (horder : OrderAt s k o) (hnum : o.terms.number = r.order) (ha : AccountAt s j a)
    (hj : a.number = o.terms.account) (hk : f.kind = 0x14) (hpay : f.payload = [0x03, u8 m.stock, u8 m.gate]) :
    exec (.statusReplyReceived f.wire) s = .next { shotTaken st m r (exposedLabel s o m r) k j s with
      devices := s.devices.set t.entry.val (some { d with tag := d.tag + 1 }) t.entry.isLt
      ring := { s.ring with
        lastGranted := .station st, engine := some (granted s (.station st) t.entry d .advance 0x05 []) } } := by
  obtain ⟨hl, hset, hn, hr, hd, hcls, hans⟩ := ho
  obtain ⟨hup, hcamera, haddr, hcam, hen⟩ := hsc
  have hparses : StatusParses .camera f.payload := ⟨0x03, u8 m.stock, u8 m.gate, hpay, by decide, by decide⟩
  have hnoted : noted t s = s := replied_of_busy hd.1 (hbusy t.entry d hd (.inl haddr)).1
  have hexp : expected m false (cameraReport 0x03 (u8 m.stock) (u8 m.gate)) = true := by
    simp [expected, sameRoll, cameraReport, toNat_u8_of_lt (Nat.lt_succ_of_le hstock), toNat_u8_of_lt (Nat.lt_succ_of_le hgate)]
  have hreport : stationReport st (cameraReport 0x03 (u8 m.stock) (u8 m.gate)) (noted t s)
      = standAsk st ⟨b.camera, 0x05, [], .advance⟩ (shotTaken st m r (exposedLabel s o m r) k j s) := by
    rw [hnoted, stationReport_running hrun.2.2.1 hrun.1]
    show runningReport st _ s = _
    rw [runningReport_shot (lampFault := false) hrun.2.2.2.2.2.2.2.2.1 hrun.2.1 hexp rfl,
      takeShot_exposes hrun hn hup hbusy hrec hres horder hnum ha hj]
  have hexec := exec_ownStatus hl hr hreq (by rw [hp]; decide) (by rw [hp]; decide) hkind hd hcls hcamera hcam hen hans hk hpay hparses
  obtain ⟨w, hw⟩ : ∃ w, w = shotTaken st m r (exposedLabel s o m r) k j s := ⟨_, rfl⟩
  have hends : EndsAt st s w := by rw [hw]; exact shotTaken_endsAt
  have honly : OnlyChanges [.stations, .rolls, .orders, .accounts, .composer] s w := by rw [hw]; exact shotTaken_onlyChanges
  have hdev : w.devices = s.devices := honly .devices (by decide)
  have hring : w.ring = s.ring := honly .ring (by decide)
  have hphase : w.stations[st].phase = some .advance := by rw [hw, shotTaken_stations, upd_self]
  rw [hreport, ← hw, hp, ownEnded_moved (ph := .shotWait) (by decide) (.inr (by
    rw [standAsk_stations, hphase]; decide))] at hexec
  have hringE : (endGrant w).ring = { s.ring with engine := none } := by
    show ({ w.ring with engine := none } : Ring) = _
    rw [hring]
  have hnU : NoAsk (endGrant w) := endGrant_noAsk hn hends (honly .slot (by decide)) hringE
  have hdU : DeviceAt (endGrant w) t.entry d :=
    ⟨hdev ▸ hd.1, (deviceIdx_kept (t := endGrant w) (hends.devices) d.addr).trans hd.2⟩
  have hgranted : granted (endGrant w) (.station st) t.entry d .advance 0x05 [] = granted s (.station st) t.entry d .advance 0x05 [] := by
    have hpins : (endGrant w).pins = s.pins := honly .pins (by decide)
    simp only [granted, hpins]
  have hsettled : Settled (endGrant (standAsk st ⟨b.camera, 0x05, [], .advance⟩ w)) :=
    settled_of_same (hends.settled hset) rfl rfl rfl (.refl _)
  have hgrant : endGrant (standAsk st ⟨b.camera, 0x05, [], .advance⟩ w) = standAsk st ⟨b.camera, 0x05, [], .advance⟩ (endGrant w) := rfl
  have hdevE : (endGrant w).devices = s.devices := hdev
  rw [hexec, finish, settle_of_settled hsettled, hgrant, arbitrate_standAsk hnU rfl hdU haddr, hgranted, hringE, hdevE, ← hw]
  rfl

/-! ### A report that fails the check suspends the station, which resumes at once (R81, R182, R185) -/

theorem suspendHeld_marks {s : State} {st : St} {q : Request} (hq : headOf s st = some q) (hab : q.abort = false)
    (ph : SuspendedPhase) (owed : Bool) : ∃ v, DevicesKept s.devices v ∧ TagsKept s.devices v
      ∧ suspendHeld st ph owed s = suspended st ph true owed v s := by
  obtain ⟨v, hv, he⟩ := suspendHeld_suspended hq hab ph owed
  obtain ⟨w, -, ht, hw⟩ := clearBusyStation_marks st (modStation st (Station.suspend ph true owed) s)
  have hhead : headAborts (suspended st ph true owed v s) st = false := by
    rw [headAborts, headOf_suspended hq, Option.map_some, Option.getD_some, hab]
  have hdev : (suspendHeld st ph owed s).devices = w := by
    have henter : enterSuspended st ph true owed s = suspended st ph true owed w s := by
      rw [enterSuspended]
      exact congrArg (fun u => detach (.station st) (dropAsk st u)) hw
    have haborts : headAborts (enterSuspended st ph true owed s) st = false := by
      rw [henter, headAborts, headOf_suspended hq, Option.map_some, Option.getD_some, hab]
    rw [suspendHeld]
    simp only [haborts, Bool.false_eq_true, if_false]
    rw [henter]
    rfl
  have hvw : v = w := by rw [← hdev, he]; rfl
  exact ⟨v, hv, hvw ▸ ht, he⟩

/-- The latched SHOT of a suspended station's report, noted (R185). -/
def Station.noting (shot : Option Bool) (x : Station) : Station := { x with susp := { x.susp with notedShot := shot } }

theorem noteShot_suspended (st : St) (r : CameraReport) (ph : SuspendedPhase) (held owed : Bool) (v : Vector (Option Device) 16)
    (s : State) : noteShot st r (suspended st ph held owed v s) = modStation st (Station.noting r.shot) (suspended st ph held owed v s) := by
  unfold noteShot
  split
  · next f hf => rw [hf]; rfl
  · next hnone =>
    have hsame : upd (suspended st ph held owed v s).stations st (Station.noting none) = (suspended st ph held owed v s).stations :=
      upd_same _ _ _ (by rw [suspended_station]; rfl)
    rw [hnone, modStation, hsame]

/-- A station that can resume begins its check, and its STATUS is granted at once (R185, R186). -/
theorem finish_resumes {s w : State} {st : St} {b : Binding} {i : Fin 16} {d : Device} (hothers : ∀ st', st' ≠ st → AtRest w st')
    (hb : BoundUp w st b) (hr : resumable w st = true) (hn : NoAsk w) (hengine : w.ring.engine = none) (hd : DeviceAt s i d)
    (hda : d.addr = b.camera) (hk : DevicesKept s.devices w.devices) (ht : TagsKept s.devices w.devices) (hp : w.pins = s.pins) :
    ∃ v, DevicesKept w.devices v ∧ finish w = { modStation st Station.checking w with
      devices := v
      ring := { w.ring with
        lastGranted := .station st, engine := some (granted s (.station st) i d .resumeCheck 0x02 []) } } := by
  obtain ⟨hsettle, hsettled⟩ := settle_resumes hothers hb hr
  have hset : Settled (modStation st Station.checking w) := settled_of_same hsettled rfl rfl rfl (.refl _)
  obtain ⟨v, hv, hfin⟩ := finish_grants (w := modStation st Station.checking w) (a := ⟨b.camera, 0x02, [], .resumeCheck⟩) hset hn hengine
    hd hda hk ht hp
  refine ⟨v, hv, ?_⟩
  rw [finish, settle_of_settled hsettled] at hfin
  rw [finish, hsettle, hfin]
  rfl

/-- The report of a running station without film ends the notes of an insertion (R24). -/
theorem noteRollStatus_roll (st : St) (present : Bool) (s : State) : (noteRollStatus st present s).rolls[st]
    = if present then s.rolls[st] else { s.rolls[st] with removalRequired := false, insertionReported := false } := by
  cases present with
  | true => rfl
  | false => exact upd_self _ _ _

theorem noteRollStatus_onlyChanges (st : St) (present : Bool) (s : State) : OnlyChanges [.rolls] s (noteRollStatus st present s) := by
  cases present with
  | true => exact .refl _ s
  | false => exact modRoll_onlyChanges st _ s

theorem noteRollStatus_othersSame (st : St) (present : Bool) (s : State) : OthersSame st s.rolls (noteRollStatus st present s).rolls := by
  cases present with
  | true => exact othersSame_refl _ _
  | false => exact othersSame_upd _ _ _

/-- A station suspended in ADVANCE_WAIT whose check is under way (R81, R185). -/
def Station.resuming (shot : Option Bool) (x : Station) : Station :=
  ((x.suspend .advanceWait true false).noting shot).checking

theorem unexpectedReport_resumes {s : State} {t : Transaction} {st : St} {q : Request} {m : RollMap} {d : Device} {b : Binding}
    {f : LinkFrame} {flags stock gate : Byte} (ho : AnswersOpen s t d f) (hreq : t.requester = .station st)
    (hp : t.purpose = .advancePoll) (hkind : t.request.kind = 0x02) (hsc : StationCamera s st b d) (hrun : RunsFrame s st q m .advanceWait)
    (hk : f.kind = 0x14) (hpay : f.payload = [flags, stock, gate]) (hparses : StatusParses .camera f.payload)
    (hexp : expected m true (cameraReport flags stock gate) = false) :
    Completes (exec (.statusReplyReceived f.wire) s) fun u => OnlyChanges [.stations, .rolls, .devices, .ring] s u
      ∧ u.stations = upd s.stations st (Station.resuming (cameraReport flags stock gate).shot)
      ∧ u.rolls = (noteRollStatus st (flags.getLsbD 0) s).rolls
      ∧ u.ring = { s.ring with
          lastGranted := .station st, engine := some (granted s (.station st) t.entry d .resumeCheck 0x02 []) } := by
  obtain ⟨hl, hset, hn, hr, hd, hcls, hans⟩ := ho
  obtain ⟨hup, hcamera, haddr, hcam, hen⟩ := hsc
  have hexec := exec_ownStatus hl hr hreq (by rw [hp]; decide) (by rw [hp]; decide) hkind hd hcls hcamera hcam hen hans hk hpay hparses
  obtain ⟨r, hr'⟩ : ∃ r, r = cameraReport flags stock gate := ⟨_, rfl⟩
  have hpresent : r.present = flags.getLsbD 0 := by rw [hr']; rfl
  obtain ⟨w, hw⟩ : ∃ w, w = noteRollStatus st (flags.getLsbD 0) (noted t s) := ⟨_, rfl⟩
  have honly : OnlyChanges [.rolls] (noted t s) w := by rw [hw]; exact noteRollStatus_onlyChanges st _ _
  have hstW : w.stations = s.stations := honly .stations (by decide)
  have hdevW : w.devices = (noted t s).devices := honly .devices (by decide)
  have hringW : w.ring = s.ring := honly .ring (by decide)
  have hmapW : w.rolls[st].map = some m := by rw [hw, noteRollStatus_map]; exact hrun.2.2.2.2.2.2.2.2.1
  have hupW : BoundUp w st b := hup.kept (by rw [honly .bindings (by decide)]; rfl) (by rw [hdevW]; exact noted_devices t s)
  have hheadW : headOf w st = some q := (headOf_congr (by rw [hstW])).trans hrun.2.2.2.1
  obtain ⟨v, hv, ht, hsusp⟩ := suspendHeld_marks hheadW hrun.2.2.2.2.2.1 .advanceWait false
  have hreport : stationReport st r (noted t s) = modStation st (Station.noting r.shot) (suspended st .advanceWait true false v w) := by
    rw [stationReport_running (s := noted t s) hrun.2.2.1 hrun.1, hpresent, ← hw,
      runningReport_unexpected hmapW (by rw [hstW]; exact hrun.2.1) (by rw [hr']; exact hexp), hsusp, noteShot_suspended]
  rw [← hr', hreport, hp, ownEnded_moved (ph := .advanceWait) (by decide) (.inl (by rw [modStation_self, suspended_station]; nofun))] at hexec
  obtain ⟨u, hu⟩ : ∃ u, u = endGrant (modStation st (Station.noting r.shot) (suspended st .advanceWait true false v w)) := ⟨_, rfl⟩
  have hring : u.ring = { s.ring with engine := none } := by
    have hasks := set_none_of_none (v := w.ring.asks) (by rw [hringW]; exact hn.2.1) st
    rw [hu, ← hringW]
    show { w.ring with asks := w.ring.asks.set st.val none st.isLt, engine := none } = _
    rw [hasks]
  have hstU : u.stations = upd s.stations st (Station.noting r.shot ∘ Station.suspend .advanceWait true false) := by
    rw [hu, ← hstW, ← upd_upd]; rfl
  have hself : u.stations[st] = (s.stations[st].suspend .advanceWait true false).noting r.shot := by rw [hstU, upd_self]; rfl
  have hrollsU : u.rolls = w.rolls := by rw [hu]; rfl
  have hdevU : u.devices = v := by rw [hu]; rfl
  have hbindU : u.bindings = s.bindings := by rw [hu]; exact honly .bindings (by decide)
  have hslotU : u.slot = s.slot := by rw [hu]; exact honly .slot (by decide)
  have hpinsU : u.pins = s.pins := by rw [hu]; exact honly .pins (by decide)
  have hkept : DevicesKept s.devices u.devices := by rw [hdevU]; exact (noted_devices t s).trans (hdevW ▸ hv)
  have htags : TagsKept s.devices u.devices := by rw [hdevU]; exact (noted_tags t s).trans (hdevW ▸ ht)
  have hupU : BoundUp u st b := hup.kept (by rw [hbindU]) hkept
  have hmapU : u.rolls[st].map = some m := by rw [hrollsU]; exact hmapW
  have hothers : ∀ st', st' ≠ st → AtRest u st' := by
    intro st' hne
    refine atRest_congr (by rw [hstU]; exact upd_ne _ _ _ _ hne) ?_ (bothUp_kept (by rw [hbindU]) hkept) (hset st')
    rw [hrollsU, hw]
    exact congrArg RollRec.map (noteRollStatus_othersSame st _ (noted t s) st' hne)
  have hres : resumable u st = true := by
    rw [resumable_iff, hself, hmapU]
    exact ⟨rfl, hupU.2, rfl, hrun.2.2.1, rfl, rfl, closeUnderWay_open hmapU hrun.2.2.2.2.2.2.2.2.2⟩
  have hnU : NoAsk u := hn.kept hslotU (by rw [hring]; exact hn.2.1) (by rw [hring]; exact hn.2.2.1) hkept
  obtain ⟨v', -, hfin⟩ := finish_resumes hothers hupU hres hnU (by rw [hring]) hd haddr hkept htags hpinsU
  have honlyU : OnlyChanges [.stations, .rolls, .devices, .ring] s u := by
    rw [hu]
    exact (((((noted_onlyChanges t s).widen).andThen honly).andThen (suspended_onlyChanges st _ _ _ v w)).andThen
      (modStation_onlyChanges st _ _)).andThen (ring_onlyChanges _ _)
  refine ⟨_, by rw [hexec, ← hu, hfin, hring], ?_, ?_, ?_, rfl⟩
  · exact ((honlyU.andThen (modStation_onlyChanges st Station.checking u)).andThen (devices_onlyChanges v' _)).andThen
      (ring_onlyChanges _ _)
  · show upd u.stations st Station.checking = _
    rw [hstU, upd_upd, ← hr']
    rfl
  · show u.rolls = _
    rw [hrollsU, hw]
    cases flags.getLsbD 0 <;> rfl

/-! ### A station moves, and nothing else does -/

/-- What an act at one station leaves alone: the other stations and rolls, the tables that bind it, the devices but for their busy
markers, and the ring. -/
structure MovesAt (st : St) (s u : State) : Prop where
  stations : OthersSame st s.stations u.stations
  rolls : OthersSame st s.rolls u.rolls
  bindings : u.bindings = s.bindings
  devices : DevicesKept s.devices u.devices
  tags : TagsKept s.devices u.devices
  ring : u.ring = s.ring
  slot : u.slot = s.slot
  pins : u.pins = s.pins

theorem MovesAt.trans {st : St} {s t u : State} (h : MovesAt st s t) (k : MovesAt st t u) : MovesAt st s u where
  stations j hj := (k.stations j hj).trans (h.stations j hj)
  rolls j hj := (k.rolls j hj).trans (h.rolls j hj)
  bindings := k.bindings.trans h.bindings
  devices := h.devices.trans k.devices
  tags := h.tags.trans k.tags
  ring := k.ring.trans h.ring
  slot := k.slot.trans h.slot
  pins := k.pins.trans h.pins

theorem modStation_movesAt (st : St) (f : Station → Station) (s : State) : MovesAt st s (modStation st f s) :=
  ⟨othersSame_upd _ _ _, othersSame_refl _ _, rfl, .refl _, .refl _, rfl, rfl, rfl⟩

theorem modMap_movesAt (st : St) (f : RollMap → RollMap) (s : State) : MovesAt st s (modMap st f s) :=
  ⟨othersSame_refl _ _, othersSame_upd _ _ _, rfl, .refl _, .refl _, rfl, rfl, rfl⟩

theorem devices_movesAt {s : State} {v : Vector (Option Device) 16} (hv : DevicesKept s.devices v) (ht : TagsKept s.devices v)
    (st : St) : MovesAt st s { s with devices := v } :=
  ⟨othersSame_refl _ _, othersSame_refl _ _, rfl, hv, ht, rfl, rfl, rfl⟩

theorem noted_movesAt (st : St) (t : Transaction) (s : State) : MovesAt st s (noted t s) :=
  devices_movesAt (noted_devices t s) (noted_tags t s) st

/-- An act at which nothing of the station, the devices and the ring changes. -/
theorem movesAt_of_only {ps : List Part} {s u : State} (h : OnlyChanges ps s u)
    (hps : ∀ p ∈ [Part.stations, .rolls, .bindings, .devices, .ring, .slot, .pins], p ∉ ps := by decide) (st : St) : MovesAt st s u := by
  have hdev : u.devices = s.devices := h .devices (hps _ (by decide))
  refine ⟨?_, ?_, h .bindings (hps _ (by decide)), hdev ▸ .refl _, hdev ▸ .refl _, h .ring (hps _ (by decide)),
    h .slot (hps _ (by decide)), h .pins (hps _ (by decide))⟩
  · rw [h .stations (hps _ (by decide))]; exact othersSame_refl _ _
  · rw [h .rolls (hps _ (by decide))]; exact othersSame_refl _ _

theorem dropAsk_movesAt {s : State} {st : St} (h : s.ring.asks[st] = none) : MovesAt st s (dropAsk st s) := by
  rw [dropAsk_of_none h]
  exact devices_movesAt (.refl _) (.refl _) st

theorem filmMoved_movesAt {s : State} {st : St} (h : s.ring.asks[st] = none) : MovesAt st s (filmMoved st s) :=
  ((modStation_movesAt st Station.moved s).trans (dropAsk_movesAt (s := modStation st Station.moved s) h)).trans (modMap_movesAt st _ _)

theorem requestGone_movesAt {s : State} {v : Vector (Option Device) 16} (hv : DevicesKept s.devices v) (ht : TagsKept s.devices v)
    (st : St) (i : Fin 16) (o : Order) : MovesAt st s (requestGone st i o v s) :=
  ⟨othersSame_upd _ _ _, othersSame_refl _ _, rfl, hv, ht, rfl, rfl, rfl⟩

theorem MovesAt.endsAt {st : St} {s u : State} (h : MovesAt st s u) (hrest : AtRest u st) : EndsAt st s u :=
  ⟨h.stations, h.rolls, h.bindings, h.devices, hrest⟩

theorem MovesAt.endGrant_ring {st : St} {s u : State} (h : MovesAt st s u) : (endGrant u).ring = { s.ring with engine := none } := by
  rw [← h.ring]; rfl

section
variable {s w : State} {st : St} {c : Instr} (hs : Settled s) (hn : NoAsk s) (h : MovesAt st s w) (hrest : AtRest w st)
include hs hn h hrest

/-- Nothing is asked when the act has ended. -/
theorem MovesAt.exec_idle (hexec : exec c s = .next (finish (endGrant w))) : exec c s = .next (endGrant w) :=
  exec_ends_idle hs hn (h.endsAt hrest) h.slot h.endGrant_ring hexec

/-- The station's next transaction is granted when the act has ended. -/
theorem MovesAt.exec_granted {a : Ask} {i : Fin 16} {d : Device} (hd : DeviceAt s i d) (hda : d.addr = a.address)
    (hexec : exec c s = .next (finish (endGrant (standAsk st a w)))) :
    ∃ v, DevicesKept w.devices v ∧ exec c s = .next { w with
      devices := v
      ring := { s.ring with
        lastGranted := .station st, engine := some (granted s (.station st) i d a.purpose a.kind a.payload) } } :=
  exec_ends_granted hs hn (h.endsAt hrest) h.slot h.endGrant_ring h.tags h.pins hd hda hexec

end

/-! ### The report of an ADVANCED (R80) -/

theorem RunsFrame.drives {s : State} {st : St} {q : Request} {m : RollMap} {ph : Phase} {b : Binding} (h : RunsFrame s st q m ph)
    (hup : BoundUp s st b) : Drives s st b q m := ⟨h.holds, h.2.2.2.2.2.1, hup⟩

section
variable {s : State} {t : Transaction} {st : St} {q : Request} {z : Reserved} {m : RollMap} {d : Device} {b : Binding} {f : LinkFrame}
  {i : Fin 16} {o : Order} (ho : AnswersOpen s t d f) (hreq : t.requester = .station st) (hp : t.purpose = .advancePoll)
  (hkind : t.request.kind = 0x02) (hsc : StationCamera s st b d) (hrun : RunsFrame s st q m .advanceWait) (hk : f.kind = 0x14)
  (hstock : m.stock ≤ 255) (hgate : m.gate + 1 ≤ 255) (hpay : f.payload = [0x09, u8 m.stock, u8 (m.gate + 1)])
include ho hreq hp hkind hsc hrun hk hstock hgate hpay

/-- The film of the station has moved, and its poll has nothing left to do. -/
theorem advancedReport_takes {w : State} (htakes : takeAdvance st (noted t s) = w)
    (hw : w.stations[st].state ≠ .running ∨ w.stations[st].phase ≠ some .advanceWait) :
    exec (.statusReplyReceived f.wire) s = .next (finish (endGrant w)) := by
  obtain ⟨hl, hset, hn, hr, hd, hcls, hans⟩ := ho
  obtain ⟨hup, hcamera, haddr, hcam, hen⟩ := hsc
  have hparses : StatusParses .camera f.payload := ⟨0x09, u8 m.stock, u8 (m.gate + 1), hpay, by decide, by decide⟩
  have hexp : expected m true (cameraReport 0x09 (u8 m.stock) (u8 (m.gate + 1))) = true :=
    expected_advancing_iff.mpr ⟨by decide, toNat_u8_of_lt (Nat.lt_succ_of_le hstock), .inr (toNat_u8_of_lt (Nat.lt_succ_of_le hgate))⟩
  have hreport : stationReport st (cameraReport 0x09 (u8 m.stock) (u8 (m.gate + 1))) (noted t s) = w := by
    rw [stationReport_running (s := noted t s) hrun.2.2.1 hrun.1, cameraReport_present]
    show runningReport st _ (noted t s) = w
    rw [runningReport_advanced (s := noted t s) hrun.2.2.2.2.2.2.2.2.1 hrun.2.1 hexp rfl, htakes]
  rw [exec_ownStatus hl hr hreq (by rw [hp]; decide) (by rw [hp]; decide) hkind hd hcls hcamera hcam hen hans hk hpay hparses, hreport,
    hp, ownEnded_moved (ph := .advanceWait) (by decide) hw]

end

section
variable {s : State} {st : St} {q : Request} {z : Reserved} {m : RollMap} {b : Binding} {i : Fin 16} {o : Order}
  (h : Drives s st b q m) (hn : s.ring.asks[st] = none) (hz : q.frames = some z)
include h hn hz

/-- The station whose film has moved goes on to its request's next frame (R80). -/
theorem Drives.takes_next (hend : m.gate ≠ m.length) (hmore : m.gate + 1 < z.first + z.count)
    (horder : OrderAt s i o) (hnum : o.terms.number = q.order) : ∃ y, MovesAt st s y
      ∧ OnlyChanges [.stations, .rolls, .ring] s y ∧ Drives y st b (q.nextFrame o.terms.copies) m.advanced
      ∧ takeAdvance st s = boundary st y := by
  refine ⟨Machine.modHead st (Request.nextFrame o.terms.copies) (Machine.filmMoved st s),
    (filmMoved_movesAt hn).trans (modStation_movesAt st _ _), ?_, ?_, h.takeAdvance_next hend hz hmore horder hnum⟩
  · exact ((filmMoved_onlyChanges st s).widen).andThen (modHead_onlyChanges st _ _)
  · refine h.filmMoved.modHead ?_
    unfold Request.nextFrame
    split <;> exact ⟨rfl, rfl⟩

/-- The station whose film has moved past the end of its request or of the roll ends the request (R80, R83). -/
theorem Drives.takes_last (hend : m.gate = m.length ∨ z.first + z.count ≤ m.gate + 1) (hno : s.stations[st].rollEnd = false) :
    ∃ y, MovesAt st s y ∧ OnlyChanges [.stations, .rolls, .ring] s y ∧ Drives y st b q m.advanced
      ∧ y.stations[st] = { s.stations[st].moved with rollEnd := decide (m.gate = m.length) }
      ∧ takeAdvance st s = endRequest st .complete y := by
  have hmoved : MovesAt st s (Machine.filmMoved st s) := filmMoved_movesAt hn
  have honly := filmMoved_onlyChanges st s
  by_cases hroll : m.gate = m.length
  · refine ⟨Machine.modStation st Station.ending (Machine.filmMoved st s), hmoved.trans (modStation_movesAt st _ _), ?_,
      h.filmMoved.modStation (by rfl), ?_, h.takeAdvance_rollEnd hroll⟩
    · exact (honly.widen).andThen (modStation_onlyChanges st _ _)
    · rw [modStation_self, filmMoved_station, decide_eq_true hroll]
      rfl
  · refine ⟨Machine.filmMoved st s, hmoved, honly.widen, h.filmMoved, ?_, h.takeAdvance_last hroll hz (hend.resolve_left hroll)⟩
    rw [filmMoved_station, decide_eq_false hroll, ← hno]
    rfl

end

/-- The REQUEST_DONE of a station's head has been posted, and the request is gone; the station goes on from there (R83). -/
theorem endRequest_movesAt {s : State} {st : St} {q : Request} {i : Fin 16} {o : Order} (hq : headOf s st = some q)
    (ho : OrderAt s i o) (hnum : o.terms.number = q.order) (hc : o.closing = false) (hroom : Room s 1) (x : RequestOutcome) :
    ∃ w, MovesAt st s w ∧ OnlyChanges [.stations, .orders, .devices, .eventQueue, .port] s w
      ∧ w.stations[st] = s.stations[st].dequeue ∧ w.rolls = s.rolls
      ∧ w.orders = s.orders.set i.val (some (o.left (o.outstanding - 1))) i.isLt ∧ Posted s w [.event q.tag (q.doneEvent x)]
      ∧ endRequest st x s = afterRequest st s.stations[st].leftUp w := by
  obtain ⟨p, v, htransmits, hv, ht, hend⟩ := endRequest_gone hq ho hnum hc hroom x
  obtain ⟨y, hy⟩ : ∃ y : State, y = { s with
    port := p, eq := { s.eq with records := s.eq.records ++ [.event q.tag (q.doneEvent x)] } } := ⟨_, rfl⟩
  have hposts : OnlyChanges [.eventQueue, .port] s y := by
    rw [hy]
    intro r hr
    cases r with
    | eventQueue | port => exact absurd (by decide) hr
    | _ => rfl
  have hdev : y.devices = s.devices := hposts .devices (by decide)
  rw [← hy] at hend
  refine ⟨requestGone st i o v y, (movesAt_of_only hposts (by decide) st).trans (requestGone_movesAt (hdev ▸ hv) (hdev ▸ ht) st i o),
    (hposts.widen).andThen (requestGone_onlyChanges st i o v y), ?_, hposts .rolls (by decide), ?_, ⟨?_, ?_⟩, hend⟩
  · rw [requestGone_station, hposts .stations (by decide)]
  · rw [← hposts .orders (by decide)]; rfl
  · rw [(requestGone_onlyChanges st i o v y) .eventQueue (by decide), hy]
  · unfold Transmits
    rw [(requestGone_onlyChanges st i o v y) .port (by decide), hy]
    exact htransmits

/-- A station starts an unload (R37, R39): its REWIND is asked for. -/
theorem startUnload_movesAt {s : State} {st : St} {b : Binding} (h : BoundUp s st b) : ∃ w, MovesAt st s w
    ∧ OnlyChanges [.stations, .devices] s w ∧ w.stations[st] = s.stations[st].unloads ∧ w.rolls = s.rolls
    ∧ startUnload st s = standAsk st ⟨b.camera, 0x06, [], .rewind⟩ w := by
  obtain ⟨v, hv, hset, hstart⟩ := startUnload_standAsk h
  obtain ⟨v', -, ht, hset'⟩ := setBusyAt_marks b.camera (modStation st Station.unloads s)
  have hvv : v' = v := congrArg State.devices (hset'.symm.trans hset)
  refine ⟨{ modStation st Station.unloads s with devices := v }, ?_, ?_, modStation_self st Station.unloads s, rfl, hstart⟩
  · exact (modStation_movesAt st _ s).trans (devices_movesAt (s := modStation st Station.unloads s) hv (hvv ▸ ht) st)
  · exact ((modStation_onlyChanges st _ s).widen).andThen (devices_onlyChanges v _)

/-- The request whose last frame has been taken has ended, and the station goes on without it (R80, R83). -/
theorem Drives.takes_ends {s : State} {st : St} {q : Request} {z : Reserved} {m : RollMap} {b : Binding} {i : Fin 16} {o : Order}
    (h : Drives s st b q m) (hn : s.ring.asks[st] = none) (hz : q.frames = some z) (hstate : s.stations[st].state ≠ .suspended)
    (hend : m.gate = m.length ∨ z.first + z.count ≤ m.gate + 1) (hno : s.stations[st].rollEnd = false)
    (horder : OrderAt s i o) (hnum : o.terms.number = q.order) (hc : o.closing = false) (hroom : Room s 1)
    (hleft : s.stations[st].leftUp = false) : ∃ w, MovesAt st s w
      ∧ OnlyChanges [.stations, .rolls, .orders, .devices, .ring, .eventQueue, .port] s w
      ∧ w.stations[st] = { s.stations[st].moved.dequeue with rollEnd := decide (m.gate = m.length) }
      ∧ w.rolls[st].map = some m.advanced ∧ w.orders = s.orders.set i.val (some (o.left (o.outstanding - 1))) i.isLt
      ∧ Posted s w [.event q.tag (q.doneEvent .complete)] ∧ takeAdvance st s = afterRequest st false w := by
  obtain ⟨y, hmoves, honly, hdrives, hself, htakes⟩ := h.takes_last hn hz hend hno
  have heq : y.eq = s.eq := honly .eventQueue (by decide)
  have hport : y.port = s.port := honly .port (by decide)
  have horders : y.orders = s.orders := honly .orders (by decide)
  obtain ⟨w, hmovesW, honlyW, hselfW, hrollsW, hordersW, ⟨hposted, htransmits⟩, hends⟩ := endRequest_movesAt hdrives.holds.head
    (horder.congr horders) hnum hc (hroom.congr heq) .complete
  have hrunning : s.stations[st].moved.state ≠ .suspended := hstate
  refine ⟨w, hmoves.trans hmovesW, (honly.widen).andThen honlyW, ?_, ?_, by rw [hordersW, horders],
    ⟨by rw [hposted, heq], by unfold Transmits at htransmits ⊢; rw [← hport]; exact htransmits⟩, ?_⟩
  · rw [hselfW, hself]
    unfold Station.dequeue
    dsimp only
    rw [if_neg hrunning, if_neg hrunning]
    rfl
  · rw [hrollsW]; exact hdrives.holds.map
  · rw [htakes, hends, hself]
    exact congrArg (afterRequest st · w) hleft

/-- A running station whose poll's report has been noted drives its request still (R147). -/
theorem RunsFrame.noted_drives {s : State} {st : St} {q : Request} {m : RollMap} {ph : Phase} {b : Binding} (h : RunsFrame s st q m ph)
    (hup : BoundUp s st b) (t : Transaction) : Drives (noted t s) st b q m :=
  RunsFrame.drives (s := noted t s) (h.congr rfl rfl) (noted_boundUp hup t)

theorem dequeue_of_running {x : Station} (h : x.state = .running) : x.moved.dequeue = { x.moved.quiet with
    queue := x.queue.tail, pendingPost := none, leftUp := false } := by
  have hne : x.moved.state ≠ .suspended := by
    show x.state ≠ _
    rw [h]; nofun
  rw [Station.dequeue, if_neg hne]
  rfl

section
variable {s : State} {st : St} {b : Binding} {q : Request} {m : RollMap} (h : Drives s st b q m)
include h

/-- A driven station stands HELD at a frame boundary on an asserted hold line (R74). -/
theorem Drives.boundary_holds (hhold : s.pins.hold[st] = true) : ∃ w, boundary st s = w ∧ MovesAt st s w
    ∧ OnlyChanges [.stations, .devices] s w ∧ w.stations[st] = s.stations[st].holding
    ∧ ∀ (j : Fin 16) x, w.devices[j] = some x → deviceIdx s b.camera = some j ∨ deviceIdx s b.lamp = some j → x.busy = false := by
  obtain ⟨v, hv, ht, hfree, hbound⟩ := h.boundary_held hhold
  exact ⟨_, hbound, (modStation_movesAt st _ s).trans (devices_movesAt (s := Machine.modStation st Station.holding s) hv ht st),
    ((modStation_onlyChanges st Station.holding s).widen).andThen (devices_onlyChanges v _), modStation_self st Station.holding s, hfree⟩

/-- A driven station begins its next frame at a frame boundary (R74). -/
theorem Drives.boundary_begins {r : FrameRec} (hhold : s.pins.hold[st] = false) (hr : recordAt m m.gate = some r) : ∃ w,
    boundary st s = standAsk st ⟨b.lamp, 0x03, lampPayload r.times, .lampSet⟩ w ∧ MovesAt st s w
      ∧ OnlyChanges [.stations, .devices] s w ∧ w.stations[st] = s.stations[st].lampSetting := by
  obtain ⟨v, hv, ht, hbound⟩ := h.boundary_lampSet hhold hr
  exact ⟨_, hbound, (modStation_movesAt st _ s).trans (devices_movesAt (s := Machine.modStation st Station.lampSetting s) hv ht st),
    ((modStation_onlyChanges st Station.lampSetting s).widen).andThen (devices_onlyChanges v _),
    modStation_self st Station.lampSetting s⟩

end

/-! ### The film moves on (R80, R83) -/

section
variable {s : State} {t : Transaction} {st : St} {q : Request} {z : Reserved} {m : RollMap} {d : Device} {b : Binding} {f : LinkFrame}
  {i : Fin 16} {o : Order} (ho : AnswersOpen s t d f) (hreq : t.requester = .station st) (hp : t.purpose = .advancePoll)
  (hkind : t.request.kind = 0x02) (hsc : StationCamera s st b d) (hrun : RunsFrame s st q m .advanceWait) (hk : f.kind = 0x14)
  (hstock : m.stock ≤ 255) (hgate : m.gate + 1 ≤ 255) (hpay : f.payload = [0x09, u8 m.stock, u8 (m.gate + 1)])
  (hz : q.frames = some z)
include ho hreq hp hkind hsc hrun hk hstock hgate hpay hz

theorem advancedReport_held (hend : m.gate ≠ m.length) (hmore : m.gate + 1 < z.first + z.count) (horder : OrderAt s i o)
    (hnum : o.terms.number = q.order) (hhold : s.pins.hold[st] = true) :
    Completes (exec (.statusReplyReceived f.wire) s) fun u =>
      OnlyChanges [.stations, .rolls, .devices, .ring] s u ∧ u.ring = { s.ring with engine := none }
        ∧ OthersSame st s.stations u.stations ∧ OthersSame st s.rolls u.rolls ∧ u.rolls[st].map = some m.advanced
        ∧ u.stations[st].state = .held ∧ u.stations[st].phase = none ∧ u.stations[st].advanceLimit = false
        ∧ u.stations[st].pollTimer = false ∧ headOf u st = some (q.nextFrame o.terms.copies)
        ∧ ∀ (j : Fin 16) x, u.devices[j] = some x → deviceIdx s x.addr = some j → x.addr = b.camera ∨ x.addr = b.lamp →
          x.busy = false := by
  obtain ⟨-, hset, hn, -⟩ := id ho
  obtain ⟨y, hmovesN, honlyN, hdrives, htakes⟩ := (hrun.noted_drives hsc.1 t).takes_next (hn.2.1 st) hz hend hmore
    (horder.congr (s := s) rfl) hnum
  have hmoves : MovesAt st s y := (noted_movesAt st t s).trans hmovesN
  have honly : OnlyChanges [.stations, .rolls, .devices, .ring] s y := ((noted_onlyChanges t s).widen).andThen honlyN
  obtain ⟨w, hbound, hmovesY, honlyY, hself, hfree⟩ := hdrives.boundary_holds (by rw [hmoves.pins]; exact hhold)
  have hmovesW : MovesAt st s w := hmoves.trans hmovesY
  have honlyW : OnlyChanges [.stations, .rolls, .devices, .ring] s w := honly.andThen honlyY
  have hexec := advancedReport_takes ho hreq hp hkind hsc hrun hk hstock hgate hpay (htakes.trans hbound)
    (.inl (by rw [hself]; nofun))
  have hrest : AtRest w st := atRest_of_state (by rw [hself]; nofun) (by rw [hself]; nofun)
  refine ⟨endGrant w, hmovesW.exec_idle hset hn hrest hexec, honlyW.andThen (ring_onlyChanges _ _), hmovesW.endGrant_ring,
    hmovesW.stations, hmovesW.rolls, ?_, ?_, ?_, ?_, ?_, ?_, fun j x hx hj hxa => ?_⟩
  · show w.rolls[st].map = _
    rw [honlyY .rolls (by decide)]; exact hdrives.holds.map
  · show w.stations[st].state = _
    rw [hself]; rfl
  · show w.stations[st].phase = _
    rw [hself]; rfl
  · show w.stations[st].advanceLimit = _
    rw [hself]; rfl
  · show w.stations[st].pollTimer = _
    rw [hself]; rfl
  · show w.stations[st].queue.head? = _
    rw [hself]; exact hdrives.holds.head
  · refine hfree j x hx ?_
    rw [deviceIdx_kept hmoves.devices, deviceIdx_kept hmoves.devices]
    rcases hxa with h | h
    · exact .inl (h ▸ hj)
    · exact .inr (h ▸ hj)

theorem advancedReport_lampSet (hend : m.gate ≠ m.length) (hmore : m.gate + 1 < z.first + z.count) (horder : OrderAt s i o)
    (hnum : o.terms.number = q.order) (hhold : s.pins.hold[st] = false) {r : FrameRec} {j : Fin 16} {lamp : Device}
    (hr : recordAt m (m.gate + 1) = some r) (hlamp : DeviceAt s j lamp) (hla : lamp.addr = b.lamp) :
    Completes (exec (.statusReplyReceived f.wire) s) fun u =>
      OnlyChanges [.stations, .rolls, .devices, .ring] s u
        ∧ OthersSame st s.stations u.stations ∧ OthersSame st s.rolls u.rolls ∧ u.rolls[st].map = some m.advanced
        ∧ u.stations[st].state = .running ∧ u.stations[st].phase = some .lampSet ∧ u.stations[st].advanceLimit = false
        ∧ u.stations[st].pollTimer = false ∧ headOf u st = some (q.nextFrame o.terms.copies)
        ∧ u.ring = { s.ring with
            lastGranted := .station st
            engine := some (granted s (.station st) j lamp .lampSet 0x03 (be16 r.times.r ++ be16 r.times.g ++ be16 r.times.b)) } := by
  obtain ⟨-, hset, hn, -⟩ := id ho
  obtain ⟨y, hmovesN, honlyN, hdrives, htakes⟩ := (hrun.noted_drives hsc.1 t).takes_next (hn.2.1 st) hz hend hmore
    (horder.congr (s := s) rfl) hnum
  have hmoves : MovesAt st s y := (noted_movesAt st t s).trans hmovesN
  have honly : OnlyChanges [.stations, .rolls, .devices, .ring] s y := ((noted_onlyChanges t s).widen).andThen honlyN
  obtain ⟨w, hbound, hmovesY, honlyY, hself⟩ := hdrives.boundary_begins (by rw [hmoves.pins]; exact hhold) (r := r) hr
  have hmovesW : MovesAt st s w := hmoves.trans hmovesY
  have honlyW : OnlyChanges [.stations, .rolls, .devices, .ring] s w := honly.andThen honlyY
  have hexec := advancedReport_takes ho hreq hp hkind hsc hrun hk hstock hgate hpay (htakes.trans hbound)
    (.inr (by rw [standAsk_stations, hself]; nofun))
  obtain ⟨v', -, hexec'⟩ := hmovesW.exec_granted hset hn (running_atRest (by rw [hself]; rfl)) hlamp hla hexec
  refine ⟨_, hexec', (honlyW.andThen (devices_onlyChanges v' _)).andThen (ring_onlyChanges _ _),
    hmovesW.stations, hmovesW.rolls, ?_, ?_, ?_, ?_, ?_, ?_, rfl⟩
  · show w.rolls[st].map = _
    rw [honlyY .rolls (by decide)]; exact hdrives.holds.map
  · show w.stations[st].state = _
    rw [hself]; rfl
  · show w.stations[st].phase = _
    rw [hself]; rfl
  · show w.stations[st].advanceLimit = _
    rw [hself]; rfl
  · show w.stations[st].pollTimer = _
    rw [hself]; rfl
  · show w.stations[st].queue.head? = _
    rw [hself]; exact hdrives.holds.head

section
variable (hno : s.stations[st].rollEnd = false) (horder : OrderAt s i o) (hnum : o.terms.number = q.order) (hc : o.closing = false)
  (hroom : Room s 1) (hq : s.stations[st].queue = [q]) (hleft : s.stations[st].leftUp = false)
include hno horder hnum hc hroom hq hleft

theorem advancedReport_ready (hend : m.gate ≠ m.length) (hlast : z.first + z.count ≤ m.gate + 1) :
    Completes (exec (.statusReplyReceived f.wire) s) fun u =>
      OnlyChanges [.stations, .rolls, .orders, .devices, .ring, .eventQueue, .port] s u
        ∧ OthersSame st s.stations u.stations ∧ OthersSame st s.rolls u.rolls ∧ u.rolls[st].map = some m.advanced
        ∧ u.stations[st] = { s.stations[st].moved.dequeue with rollEnd := false, state := .ready }
        ∧ u.orders = s.orders.set i.val (some (o.left (o.outstanding - 1))) i.isLt
        ∧ Posted s u [.event q.tag (q.doneEvent .complete)] ∧ u.ring = { s.ring with engine := none } := by
  obtain ⟨-, hset, hn, -⟩ := id ho
  obtain ⟨w, hmovesN, honlyN, hself, hmap, horders, hposted, htakes⟩ := (hrun.noted_drives hsc.1 t).takes_ends (hn.2.1 st) hz
    (fun hs => nomatch hrun.1.symm.trans hs) (.inr hlast) hno (horder.congr (s := s) rfl) hnum hc hroom hleft
  replace hself : w.stations[st] = { s.stations[st].moved.dequeue with rollEnd := decide (m.gate = m.length) } := hself
  have hmoves : MovesAt st s w := (noted_movesAt st t s).trans hmovesN
  have honly : OnlyChanges [.stations, .rolls, .orders, .devices, .ring, .eventQueue, .port] s w :=
    ((noted_onlyChanges t s).widen).andThen honlyN
  rw [decide_eq_false hend] at hself
  have hrunning : s.stations[st].moved.state = .running := hrun.1
  have hstate : w.stations[st].state = .running := by
    rw [hself]
    unfold Station.dequeue
    rw [if_neg (by rw [hrunning]; nofun)]
    exact hrunning
  have hready : afterRequest st false w = modStation st (fun x => { x with state := .ready }) w :=
    afterRequest_ready (by rw [hself]) hmap (by rw [hstate]; nofun) ((hsc.1.kept (by rw [hmoves.bindings]) hmoves.devices).2)
  obtain ⟨u, hu⟩ : ∃ u, u = modStation st (fun x => { x with state := .ready }) w := ⟨_, rfl⟩
  have hselfU : u.stations[st] = { s.stations[st].moved.dequeue with rollEnd := false, state := .ready } := by
    rw [hu, modStation_self, hself]
  have hmovesU : MovesAt st s u := by rw [hu]; exact hmoves.trans (modStation_movesAt st _ w)
  have hexec := advancedReport_takes ho hreq hp hkind hsc hrun hk hstock hgate hpay (htakes.trans (hready.trans hu.symm))
    (.inl (by rw [hselfU]; nofun))
  have hempty : u.stations[st].queue = [] := by
    rw [hselfU]
    unfold Station.dequeue
    show List.tail s.stations[st].queue = []
    rw [hq]; rfl
  refine ⟨endGrant u, hmovesU.exec_idle hset hn (atRest_of_empty (by rw [hselfU]; nofun) hempty) hexec, ?_, hmovesU.stations,
    hmovesU.rolls, ?_, hselfU, ?_, ?_, hmovesU.endGrant_ring⟩
  · rw [hu]
    exact (honly.andThen (modStation_onlyChanges st _ w)).andThen (ring_onlyChanges _ _)
  · show u.rolls[st].map = _
    rw [hu]; exact hmap
  · show u.orders = _
    rw [hu]; exact horders
  · rw [hu]; exact hposted

omit hq in
theorem advancedReport_unloads (hend : m.gate = m.length) :
    Completes (exec (.statusReplyReceived f.wire) s) fun u =>
      OnlyChanges [.stations, .rolls, .orders, .devices, .ring, .eventQueue, .port] s u
        ∧ OthersSame st s.stations u.stations ∧ OthersSame st s.rolls u.rolls ∧ u.rolls[st].map = some m.advanced
        ∧ u.stations[st] = Station.unloads { s.stations[st].moved.dequeue with rollEnd := false }
        ∧ u.orders = s.orders.set i.val (some (o.left (o.outstanding - 1))) i.isLt
        ∧ Posted s u [.event q.tag (q.doneEvent .complete)]
        ∧ u.ring = { s.ring with
            lastGranted := .station st, engine := some (granted s (.station st) t.entry d .rewind 0x06 []) } := by
  obtain ⟨-, hset, hn, -, hd, -⟩ := id ho
  obtain ⟨hup, -, hda, -⟩ := id hsc
  obtain ⟨w, hmovesN, honlyN, hself, hmap, horders, hposted, htakes⟩ := (hrun.noted_drives hup t).takes_ends (hn.2.1 st) hz
    (fun hs => nomatch hrun.1.symm.trans hs) (.inl hend) hno (horder.congr (s := s) rfl) hnum hc hroom hleft
  replace hself : w.stations[st] = { s.stations[st].moved.dequeue with rollEnd := decide (m.gate = m.length) } := hself
  have hmoves : MovesAt st s w := (noted_movesAt st t s).trans hmovesN
  have honly : OnlyChanges [.stations, .rolls, .orders, .devices, .ring, .eventQueue, .port] s w :=
    ((noted_onlyChanges t s).widen).andThen honlyN
  rw [decide_eq_true hend] at hself
  have hupW : BoundUp w st b := hup.kept (by rw [hmoves.bindings]) hmoves.devices
  obtain ⟨y, hy⟩ : ∃ y, y = modStation st (fun x => { x with rollEnd := false }) w := ⟨_, rfl⟩
  have hmovesY : MovesAt st w y := by rw [hy]; exact modStation_movesAt st _ w
  have honlyY : OnlyChanges [.stations] w y := by rw [hy]; exact modStation_onlyChanges st _ w
  obtain ⟨u, hmovesU, honlyU, hselfU, hrollsU, hstart⟩ := startUnload_movesAt (s := y)
    (hupW.kept (by rw [hmovesY.bindings]) hmovesY.devices)
  have hafter : afterRequest st false w = standAsk st ⟨b.camera, 0x06, [], .rewind⟩ u := by
    rw [afterRequest_unloads (by rw [hself]) hupW, ← hy, hstart]
  have hselfU' : u.stations[st] = Station.unloads { s.stations[st].moved.dequeue with rollEnd := false } := by
    rw [hselfU, hy, modStation_self, hself]
  have hmovesSU : MovesAt st s u := (hmoves.trans hmovesY).trans hmovesU
  have honlySU : OnlyChanges [.stations, .devices] w u := (honlyY.widen).andThen honlyU
  have hexec := advancedReport_takes ho hreq hp hkind hsc hrun hk hstock hgate hpay (htakes.trans hafter)
    (.inl (by rw [standAsk_stations, hselfU']; nofun))
  obtain ⟨v, -, hexec'⟩ := hmovesSU.exec_granted hset hn (Station.unloads_atRest (by rw [hselfU']; rfl)) hd hda hexec
  have hrolls : u.rolls = w.rolls := honlySU .rolls (by decide)
  have horders' : u.orders = w.orders := honlySU .orders (by decide)
  have heq : u.eq = w.eq := honlySU .eventQueue (by decide)
  have hport : u.port = w.port := honlySU .port (by decide)
  refine ⟨_, hexec', ?_, hmovesSU.stations, hmovesSU.rolls, ?_, hselfU', ?_, ?_, rfl⟩
  · exact ((honly.andThen honlySU).andThen (devices_onlyChanges v _)).andThen (ring_onlyChanges _ _)
  · show u.rolls[st].map = _
    rw [hrolls]; exact hmap
  · show u.orders = _
    rw [horders']; exact horders
  · obtain ⟨hrecords, htransmits⟩ := hposted
    refine ⟨by show u.eq = _; rw [heq]; exact hrecords, ?_⟩
    unfold Transmits at htransmits ⊢
    rw [← hport] at htransmits
    exact htransmits

end

end

/-- Settles O40. -/
theorem shotReportExposesFrame : Obligations.ShotReportExposesFrame := by
  refine ⟨?_, ?_⟩
  · intro s t st q m d b f r k o j a hl hset hn hr hreq hp hkind hcls hd hcamera haddr hbusy htimer hup hcam hen hlamp hrun hrec hres
      hstock hgate horder hnum ha hj hans hk hpay
    have hdevices : ∀ i l, DeviceAt s i l → l.addr = b.camera ∨ l.addr = b.lamp → l.busy = true ∧ l.idleTimer = false := by
      rintro i l hl (ha | ha)
      · have hi : t.entry = i := Option.some.inj ((hd.2).symm.trans (haddr.trans ha.symm ▸ hl.2))
        have hdl : d = l := Option.some.inj (hd.1.symm.trans (hi ▸ hl.1))
        exact hdl ▸ ⟨hbusy, htimer⟩
      · exact hlamp i l hl ha
    refine ⟨_, shotReport_exposes ⟨hl, hset, hn, hr, hd, hcls.trans hcamera.symm, hans⟩ hreq hp hkind ⟨hup, hcamera, haddr, hcam, hen⟩
      hdevices hrun hrec hres hstock hgate horder hnum ha hj hk hpay, ?_⟩
    obtain ⟨w, hw⟩ : ∃ w, w = shotTaken st m r (exposedLabel s o m r) k j s := ⟨_, rfl⟩
    have honly := shotTaken_onlyChanges (s := s) (st := st) (m := m) (r := r) (label := exposedLabel s o m r) (k := k) (j := j)
    have hends := shotTaken_endsAt (s := s) (st := st) (m := m) (r := r) (label := exposedLabel s o m r) (k := k) (j := j)
    have hself : w.stations[st] = { s.stations[st].quiet with
        queue := s.stations[st].queue.modifyHead fun q => { q with exposed := q.exposed + 1 }
        state := .running, phase := some .advance } := by rw [hw, shotTaken_stations, upd_self]
    have hhead : s.stations[st].queue.head? = some q := hrun.2.2.2.1
    rw [← hw] at honly hends ⊢
    have honlyW : OnlyChanges [.stations, .rolls, .orders, .accounts, .composer, .devices, .ring] s w := honly.widen
    refine ⟨(honlyW.andThen (devices_onlyChanges (s.devices.set t.entry.val (some { d with tag := d.tag + 1 }) t.entry.isLt) w)).andThen
      (ring_onlyChanges _ _), hends.stations, hends.rolls, ?_, ?_, ?_, ?_,
      ?_, ?_, ?_, ?_, ?_, rfl, ?_⟩
    · show w.rolls[st].map = _
      rw [hw, shotTaken_rolls, upd_self, hrun.2.2.2.2.2.2.2.2.1]
      rfl
    · show w.accounts = _
      rw [hw, shotTaken, modStation_accounts, gateExposed_accounts (by exact ha.1)]
      rfl
    · show w.orders = _
      rw [hw, shotTaken, modStation_orders, gateExposed_orders (by exact horder.1)]
      rfl
    · show w.composer = _
      rw [hw, shotTaken, modStation_composer, gateExposed_composer]
      rfl
    · show w.stations[st].state = _
      rw [hself]
    · show w.stations[st].phase = _
      rw [hself]
    · show w.stations[st].shotLimit = _
      rw [hself]; rfl
    · show w.stations[st].pollTimer = _
      rw [hself]; rfl
    · show w.stations[st].queue.head? = _
      rw [hself]
      show (s.stations[st].queue.modifyHead fun q => { q with exposed := q.exposed + 1 }).head? = _
      rw [List.head?_modifyHead, hhead, Option.map_some]
    · simp only [granted, haddr, hcamera]
  · intro s t st q z m d b f i o ho hreq hp hkind hsc hrun hz hstock hgate hno horder hnum hc hk
    refine ⟨fun hpay => ⟨fun hend hmore => ⟨?_, ?_⟩, ?_⟩, ?_⟩
    · exact advancedReport_held ho hreq hp hkind hsc hrun hk hstock hgate hpay hz hend hmore horder hnum
    · intro hhold r j lamp hr hl hla
      exact advancedReport_lampSet ho hreq hp hkind hsc hrun hk hstock hgate hpay hz hend hmore horder hnum hhold hr hl hla
    · intro hend hroom hq hleft
      have hdone : Event.requestDone q.order q.original z.first z.count q.exposed q.spoiled .complete = q.doneEvent .complete := by
        simp only [Request.doneEvent, hz, Option.map_some, Option.getD_some]
      have hdequeue := dequeue_of_running hrun.1
      by_cases hroll : m.gate = m.length
      · obtain ⟨u, hexec, honly, hst, hrolls, hmap, hself, horders, hposted, hring⟩ :=
          advancedReport_unloads ho hreq hp hkind hsc hrun hk hstock hgate hpay hz hno horder hnum hc hroom hleft hroll
        rw [hdequeue] at hself
        rw [hdone]
        refine ⟨u, hexec, honly, hst, hrolls, hmap, ?_, ?_, ?_, ?_, horders, hposted, fun h => absurd hroll h, fun _ => ⟨?_, ?_, hring⟩⟩
        · rw [hself]; show s.stations[st].queue.tail = []; rw [hq]; rfl
        all_goals rw [hself]; rfl
      · obtain ⟨u, hexec, honly, hst, hrolls, hmap, hself, horders, hposted, hring⟩ :=
          advancedReport_ready ho hreq hp hkind hsc hrun hk hstock hgate hpay hz hno horder hnum hc hroom hq hleft hroll
            (hend.resolve_left hroll)
        rw [hdequeue] at hself
        rw [hdone]
        refine ⟨u, hexec, honly, hst, hrolls, hmap, ?_, ?_, ?_, ?_, horders, hposted, fun _ => ⟨?_, hring⟩, fun h => absurd h hroll⟩
        · rw [hself]; show s.stations[st].queue.tail = []; rw [hq]; rfl
        all_goals rw [hself]
        all_goals rfl
    · intro flags stock gate hpay hparses hbad
      have hexp : expected m true (cameraReport flags stock gate) = false := by
        rw [Bool.eq_false_iff]
        intro h
        obtain ⟨hpresent, hst, hg⟩ := expected_advancing_iff.mp h
        rcases hbad with hno | hno | ⟨hno, hno'⟩ | ⟨hadv, hno⟩
        · exact nomatch hno.symm.trans hpresent
        · exact hno hst
        · exact hg.elim (fun h => hno h.1) hno'
        · exact hg.elim (fun h => nomatch hadv.symm.trans h.2) hno
      obtain ⟨u, hexec, honly, hstations, hrolls, hring⟩ := unexpectedReport_resumes ho hreq hp hkind hsc hrun hk hpay (hpay ▸ hparses) hexp
      have hself : u.stations[st] = s.stations[st].resuming (cameraReport flags stock gate).shot := by rw [hstations, upd_self]
      have hhead : s.stations[st].queue.head? = some q := hrun.2.2.2.1
      refine ⟨u, hexec, honly, by rw [hstations]; exact othersSame_upd _ _ _, by rw [hrolls]; exact noteRollStatus_othersSame st _ s,
        by rw [hrolls, noteRollStatus_roll], by rw [hself]; rfl, by rw [hself]; rfl, ?_, by rw [hself]; rfl, hring⟩
      rw [headOf, hself]
      show (s.stations[st].queue.modifyHead fun q => { q with state := .suspended }).head? = _
      rw [List.head?_modifyHead, hhead, Option.map_some]

end Sys2Proof.Machine
end

section
/-! PROOFS. The check of a resume (R185, R187 to R190): what the report that serves it finds, what each phase does then, and how a NAK
or a WAIT fails the step. -/

namespace Sys2Proof.Machine

/-! ### The report that serves the check (R185, R187) -/

/-- A SUSPENDED station whose check has begun is asked about its camera: a ring frame answers its STATUS, and nothing else waits to be
done (R187). -/
structure Checks (s : State) (t : Transaction) (st : St) (b : Binding) (d : Device) (m : RollMap) (f : LinkFrame) : Prop where
  opens : AnswersOpen s t d f
  requester : t.requester = .station st
  purpose : t.purpose = .resumeCheck
  kind : t.request.kind = 0x02
  camera : StationCamera s st b d
  state : s.stations[st].state = .suspended
  step : s.stations[st].susp.step = .checking
  noPost : s.stations[st].pendingPost = none
  noEnd : s.stations[st].rollEnd = false
  map : s.rolls[st].map = some m
  open_ : m.closing = none

/-- The SHOT that a SUSPENDED station has noted, with a report's own (R185). -/
def Station.latching (shot : Option Bool) (x : Station) : Station :=
  { x with susp := { x.susp with notedShot := shot.or x.susp.notedShot } }

theorem noteShot_latching (st : St) (r : CameraReport) (s : State) : noteShot st r s = modStation st (Station.latching r.shot) s := by
  unfold noteShot
  cases r.shot with
  | some f => rfl
  | none =>
    have hsame : upd s.stations st (Station.latching none) = s.stations := upd_same _ _ _ rfl
    rw [modStation, hsame]

/-- A station whose check is being served (R187). -/
def Station.serving (x : Station) : Station := { x.quiet with susp := { x.susp with step := .awaiting, notedShot := none } }

/-- The state in which the report of a check finds its station (R187). -/
def checkTaken (st : St) (present : Bool) (t : Transaction) (s : State) : State :=
  dropAsk st (modStation st Station.serving (noteRollStatus st present (noted t s)))

theorem serveCheck_latched {s : State} {st : St} (r : CameraReport) {shot : Option Bool} : serveCheck st r (modStation st (Station.latching shot) s)
    = if s.stations[st].susp.requestHeld then
        checkHeld st (s.stations[st].latching shot).susp r (dropAsk st (modStation st Station.serving s))
      else checkFree st (s.stations[st].latching shot).susp r (dropAsk st (modStation st Station.serving s)) := by
  have hserve : modStation st Station.serving (modStation st (Station.latching shot) s) = modStation st Station.serving s :=
    modStation_modStation st _ _ s
  rw [serveCheck, modStation_self]
  show (if s.stations[st].susp.requestHeld then
    checkHeld st _ r (dropAsk st (modStation st Station.serving (modStation st (Station.latching shot) s)))
    else checkFree st _ r (dropAsk st (modStation st Station.serving (modStation st (Station.latching shot) s)))) = _
  rw [hserve]

theorem stationReport_suspended {s : State} {st : St} (hpost : s.stations[st].pendingPost = none)
    (hstate : s.stations[st].state = .suspended) (r : CameraReport) :
    stationReport st r s = suspendedReport st r (noteRollStatus st r.present s) := by
  simp only [stationReport, noteRollStatus_stations, hpost, hstate, Option.isSome_none, Bool.false_eq_true, if_false]

theorem suspendedReport_serves {s : State} {st : St} {m : RollMap} {r : CameraReport} (hm : s.rolls[st].map = some m)
    (hc : m.closing = none) (hstep : s.stations[st].susp.step = .checking)
    (hp : ¬ (s.stations[st].susp.phase = .unload ∧ r.present = false)) :
    suspendedReport st r s = serveCheck st r (modStation st (Station.latching r.shot) s) := by
  unfold suspendedReport
  simp only [noteShot_latching, modStation_rolls, hm, hc, modStation_stations, upd_self, Option.isSome_none, Bool.false_eq_true, if_false]
  rw [if_neg (show ¬ ((s.stations[st].latching r.shot).susp.phase = .unload ∧ r.present = false) from hp)]
  simp only [Station.latching, hstep]

theorem suspendedReport_unloaded {s : State} {st : St} {m : RollMap} {r : CameraReport} (hm : s.rolls[st].map = some m)
    (hc : m.closing = none) (hp : s.stations[st].susp.phase = .unload ∧ r.present = false) :
    suspendedReport st r s = closeRoll st .unloaded
      (modStation st (fun x => { x with susp := { x.susp with step := .awaiting } }) (modStation st (Station.latching r.shot) s)) := by
  unfold suspendedReport
  simp only [noteShot_latching, modStation_rolls, hm, hc, modStation_stations, upd_self, Option.isSome_none, Bool.false_eq_true, if_false]
  rw [if_pos (show (s.stations[st].latching r.shot).susp.phase = .unload ∧ r.present = false from hp)]

section
variable (st : St) (present : Bool) (t : Transaction) {s : State}

theorem checkTaken_movesAt (h : s.ring.asks[st] = none) : MovesAt st s (checkTaken st present t s) := by
  have hnote : MovesAt st (noted t s) (noteRollStatus st present (noted t s)) := by
    cases present with
    | true => exact devices_movesAt (.refl _) (.refl _) st
    | false => exact ⟨othersSame_refl _ _, othersSame_upd _ _ _, rfl, .refl _, .refl _, rfl, rfl, rfl⟩
  have hasks : (modStation st Station.serving (noteRollStatus st present (noted t s))).ring.asks[st] = none := by
    rw [modStation_ring, noteRollStatus_onlyChanges st present (noted t s) .ring (by decide)]
    exact h
  exact (((noted_movesAt st t s).trans hnote).trans (modStation_movesAt st Station.serving _)).trans (dropAsk_movesAt hasks)

theorem checkTaken_onlyChanges : OnlyChanges [.stations, .rolls, .devices, .ring] s (checkTaken st present t s) :=
  ((((noted_onlyChanges t s).widen).andThen (noteRollStatus_onlyChanges st present _)).andThen
    (modStation_onlyChanges st Station.serving _)).andThen (dropAsk_onlyChanges st _)

theorem checkTaken_present_onlyChanges : OnlyChanges [.stations, .devices, .ring] s (checkTaken st true t s) :=
  (((noted_onlyChanges t s).widen).andThen (modStation_onlyChanges st Station.serving _)).andThen (dropAsk_onlyChanges st _)

theorem checkTaken_station : (checkTaken st present t s).stations[st] = s.stations[st].serving := by
  have hst := noteRollStatus_stations st present (noted t s)
  show (modStation st Station.serving (noteRollStatus st present (noted t s))).stations[st] = _
  rw [modStation_self, hst]
  rfl

theorem checkTaken_roll : (checkTaken st present t s).rolls[st] = { s.rolls[st] with
    removalRequired := present && s.rolls[st].removalRequired
    insertionReported := present && s.rolls[st].insertionReported } := by
  show (noteRollStatus st present (noted t s)).rolls[st] = _
  rw [noteRollStatus_roll]
  cases present <;> rfl

end

section
variable {s : State} {t : Transaction} {st : St} {b : Binding} {d : Device} {m : RollMap} {f : LinkFrame} (h : Checks s t st b d m f)
  {flags stock gate : Byte} (hk : f.kind = 0x14) (hpay : f.payload = [flags, stock, gate]) (hparses : StatusParses .camera f.payload)
include h hk hpay hparses

/-- The report of a check is used, and its transaction ends (R147, R187). -/
theorem Checks.exec : exec (.statusReplyReceived f.wire) s
    = .next (finish (endGrant (stationReport st (cameraReport flags stock gate) (noted t s)))) := by
  obtain ⟨hl, -, -, hr, hd, hcls, hans⟩ := h.opens
  obtain ⟨-, hcamera, -, hcam, hen⟩ := h.camera
  rw [exec_ownStatus hl hr h.requester (by rw [h.purpose]; decide) (by rw [h.purpose]; decide) h.kind hd hcls hcamera hcam hen hans hk
    hpay hparses, h.purpose, ownEnded_resumeCheck]

omit hk hpay hparses in
theorem Checks.noteRollStatus_facts (present : Bool) : (noteRollStatus st present (noted t s)).stations = s.stations
    ∧ (noteRollStatus st present (noted t s)).rolls[st].map = some m :=
  ⟨noteRollStatus_stations st present (noted t s), (noteRollStatus_map st present (noted t s)).trans h.map⟩

/-- What the report of a check that serves it does (R188, R189). -/
theorem Checks.exec_serves (hp : ¬ (s.stations[st].susp.phase = .unload ∧ flags.getLsbD 0 = false)) :
    Machine.exec (.statusReplyReceived f.wire) s = .next (finish (endGrant (
      if s.stations[st].susp.requestHeld then
        checkHeld st (s.stations[st].latching (cameraReport flags stock gate).shot).susp (cameraReport flags stock gate)
          (checkTaken st (flags.getLsbD 0) t s)
      else checkFree st (s.stations[st].latching (cameraReport flags stock gate).shot).susp (cameraReport flags stock gate)
          (checkTaken st (flags.getLsbD 0) t s)))) := by
  obtain ⟨hst, hmap⟩ := h.noteRollStatus_facts (flags.getLsbD 0)
  rw [h.exec hk hpay hparses, stationReport_suspended (s := noted t s) h.noPost h.state, cameraReport_present,
    suspendedReport_serves hmap h.open_ (by rw [hst]; exact h.step) (by rw [hst]; exact hp), serveCheck_latched, hst]
  rfl

end

/-! ### The held request runs again (R188) -/

/-- A SUSPENDED station that holds a request which runs frames (R185). -/
structure HoldsRequest (s : State) (st : St) (m : RollMap) (q : Request) (z : Reserved) (i : Fin 16) (o : Order) : Prop where
  held : s.stations[st].susp.requestHeld = true
  notUnload : s.stations[st].susp.phase ≠ .unload
  head : headOf s st = some q
  suspended : q.state = .suspended
  noAbort : q.abort = false
  noOutcome : q.outcome = none
  frames : q.frames = some z
  roll : z.roll = m.roll
  order : OrderAt s i o
  number : o.terms.number = q.order
  notClosing : o.closing = false

/-- A held request that runs again (R188). -/
def Request.rerun (q : Request) : Request := { q with state := .running }

/-- A station that has left SUSPENDED for RUNNING (R188). -/
def Station.awake (x : Station) : Station := { x with state := .running, susp := Suspension.clear }

/-- A station whose held request runs again (R188). -/
def Station.leaving (x : Station) : Station := { x.awake with queue := x.queue.modifyHead Request.rerun }

theorem leaveSuspended_movesAt (st : St) (s : State) : MovesAt st s (leaveSuspended st s)
    ∧ OnlyChanges [.stations, .devices] s (leaveSuspended st s) ∧ (leaveSuspended st s).stations[st] = s.stations[st].leaving := by
  obtain ⟨v, hv, ht, he⟩ := setBusyStation_marks st (modStation st Station.awake s)
  obtain ⟨y, hy⟩ : ∃ y, y = { modStation st Station.awake s with devices := v } := ⟨_, rfl⟩
  have hleave : leaveSuspended st s = modHead st Request.rerun y := by
    rw [hy, ← he]; rfl
  have hmoves : MovesAt st s y := by
    rw [hy]; exact (modStation_movesAt st _ s).trans (devices_movesAt (s := modStation st Station.awake s) hv ht st)
  have honly : OnlyChanges [.stations, .devices] s y := by
    rw [hy]; exact ((modStation_onlyChanges st _ s).widen).andThen (devices_onlyChanges v _)
  have hself : y.stations[st] = s.stations[st].awake := by rw [hy]; exact modStation_self st Station.awake s
  rw [hleave]
  refine ⟨hmoves.trans (modStation_movesAt st _ _), honly.andThen (modHead_onlyChanges st _ _), ?_⟩
  rw [modHead, modStation_self, hself]
  rfl

section
variable {s : State} {t : Transaction} {st : St} {b : Binding} {d : Device} {m : RollMap} {f : LinkFrame} (h : Checks s t st b d m f)
  {flags stock gate : Byte} (hk : f.kind = 0x14) (hpay : f.payload = [flags, stock, gate]) (hparses : StatusParses .camera f.payload)
  {q : Request} {z : Reserved} {i : Fin 16} {o : Order} (hheld : HoldsRequest s st m q z i o)
include h hk hpay hparses hheld

omit h hk hpay hparses in
theorem HoldsRequest.checkTaken_holds (hm : s.rolls[st].map = some m) (hc : m.closing = none) (present : Bool) :
    HoldsFrames (checkTaken st present t s) st q m := by
  refine ⟨?_, ⟨z, hheld.frames, hheld.roll⟩, ?_, hc⟩
  · rw [headOf, checkTaken_station]; exact hheld.head
  · rw [checkTaken_roll]; exact hm

omit hk hpay hparses in
/-- The state in which a held request runs again after a report that states its roll (R188). -/
theorem Checks.leaves : ∃ y, leaveSuspended st (checkTaken st true t s) = y ∧ MovesAt st s y
    ∧ OnlyChanges [.stations, .devices, .ring] s y ∧ Drives y st b q.rerun m ∧ y.stations[st] = s.stations[st].serving.leaving := by
  obtain ⟨-, -, hn, -⟩ := h.opens
  obtain ⟨hmoves, honly, hself⟩ := leaveSuspended_movesAt st (checkTaken st true t s)
  have hmovesS := (checkTaken_movesAt st true t (hn.2.1 st)).trans hmoves
  have honlyS : OnlyChanges [.stations, .devices, .ring] s (leaveSuspended st (checkTaken st true t s)) :=
    (checkTaken_present_onlyChanges st t).andThen honly
  rw [checkTaken_station] at hself
  have hhead : s.stations[st].queue.head? = some q := hheld.head
  refine ⟨_, rfl, hmovesS, honlyS, ⟨⟨?_, ⟨z, hheld.frames, hheld.roll⟩, ?_, h.open_⟩, hheld.noAbort, ?_⟩, hself⟩
  · rw [headOf, hself]
    show (s.stations[st].queue.modifyHead Request.rerun).head? = _
    rw [List.head?_modifyHead, hhead, Option.map_some]
  · rw [honlyS .rolls (by decide)]; exact h.map
  · exact h.camera.1.kept (by rw [hmovesS.bindings]) hmovesS.devices

/-- What the report of a check does for a held request (R188). -/
theorem Checks.exec_held : Machine.exec (.statusReplyReceived f.wire) s = .next (finish (endGrant (
    checkHeld st (s.stations[st].latching (cameraReport flags stock gate).shot).susp (cameraReport flags stock gate)
      (checkTaken st (flags.getLsbD 0) t s)))) := by
  rw [h.exec_serves hk hpay hparses fun hu => hheld.notUnload hu.1, if_pos hheld.held]

end

/-! ### What each phase does with a report that agrees (R188) -/

section
variable {s : State} {st : St} {q : Request} {m : RollMap} {r : CameraReport} {u : Suspension} (h : HoldsFrames s st q m)
  (ha : agrees r m = true)
include h ha

theorem checkHeld_redone (hp : u.phase ∈ [SuspendedPhase.boundary, .lampSet, .shoot]) (hn : u.notedShot = none) :
    checkHeld st u r s = boundary st (leaveSuspended st s) := by
  have ha' : (sameRoll r m && r.gate == m.gate) = true := ha
  simp only [List.mem_cons, List.mem_nil_iff, or_false] at hp
  unfold checkHeld
  rcases hp with hp | hp | hp <;> simp only [h.headRoll, h.openMap, ha', hp, hn, if_true]

theorem checkHeld_shot {lampFault : Bool} (hp : u.phase ∈ [SuspendedPhase.shoot, .shotWait]) (hn : u.notedShot = some lampFault) :
    checkHeld st u r s = takeShot st lampFault (leaveSuspended st s) := by
  have ha' : (sameRoll r m && r.gate == m.gate) = true := ha
  simp only [List.mem_cons, List.mem_nil_iff, or_false] at hp
  unfold checkHeld
  rcases hp with hp | hp <;> simp only [h.headRoll, h.openMap, ha', hp, hn, if_true]

theorem checkHeld_early {lampFault : Bool} (hp : u.phase ∈ [SuspendedPhase.boundary, .lampSet]) (hn : u.notedShot = some lampFault) :
    checkHeld st u r s = afterMark st (offerFlagged st lampFault (markGateSpoiled st .uncertain (leaveSuspended st s))) := by
  have ha' : (sameRoll r m && r.gate == m.gate) = true := ha
  simp only [List.mem_cons, List.mem_nil_iff, or_false] at hp
  unfold checkHeld
  rcases hp with hp | hp <;> simp only [h.headRoll, h.openMap, ha', hp, hn, if_true]

theorem checkHeld_unseen (hp : u.phase = .shotWait) (hn : u.notedShot = none) :
    checkHeld st u r s = afterMark st (markGateSpoiled st .uncertain (leaveSuspended st s)) := by
  have ha' : (sameRoll r m && r.gate == m.gate) = true := ha
  unfold checkHeld
  simp only [h.headRoll, h.openMap, ha', hp, hn, if_true]

theorem checkHeld_advances (hp : u.phase ∈ [SuspendedPhase.advance, .advanceWait]) :
    checkHeld st u r s = enterAdvance st (leaveSuspended st s) := by
  have ha' : (sameRoll r m && r.gate == m.gate) = true := ha
  simp only [List.mem_cons, List.mem_nil_iff, or_false] at hp
  unfold checkHeld
  rcases hp with hp | hp <;> simp only [h.headRoll, h.openMap, ha', hp, if_true]

end

section
variable {s : State} {st : St} {q : Request} {m : RollMap} {r : CameraReport} {u : Suspension} (h : HoldsFrames s st q m)
include h

theorem checkHeld_moved (hr : sameRoll r m = true) (hg : r.gate = m.gate + 1)
    (hp : u.phase ∈ [SuspendedPhase.advance, .advanceWait]) :
    checkHeld st u r s = takeAdvance st (leaveSuspended st s) := by
  have hne : (sameRoll r m && r.gate == m.gate) = false := by rw [beq_false_of_ne (by omega), Bool.and_false]
  have hmoved : (sameRoll r m && r.gate == m.gate + 1 && (u.phase == .advance || u.phase == .advanceWait)) = true := by
    simp only [Bool.and_eq_true, Bool.or_eq_true, beq_iff_eq]
    exact ⟨⟨hr, hg⟩, by simpa using hp⟩
  unfold checkHeld
  simp only [h.headRoll, h.openMap, hne, hmoved, Bool.false_eq_true, if_false, if_true]

theorem checkHeld_mismatch (ha : agrees r m = false)
    (hn : ¬ (sameRoll r m = true ∧ r.gate = m.gate + 1 ∧ u.phase ∈ [SuspendedPhase.advance, .advanceWait])) :
    checkHeld st u r s = closeMismatch st r s := by
  have ha' : (sameRoll r m && r.gate == m.gate) = false := ha
  have hn' : (sameRoll r m && r.gate == m.gate + 1 && (u.phase == .advance || u.phase == .advanceWait)) = false := by
    rw [Bool.eq_false_iff]
    intro hc
    simp only [Bool.and_eq_true, Bool.or_eq_true, beq_iff_eq] at hc
    exact hn ⟨hc.1.1, hc.1.2, by simpa using hc.2⟩
  unfold checkHeld
  simp only [h.headRoll, h.openMap, ha', hn', Bool.false_eq_true, if_false]

end

/-! ### A mark of a driven station's gate frame, and the ADVANCE that follows (R77, R188) -/

/-- A request that has counted a frame marked with a state (R77, R78). -/
def Request.counting (x : FrameState) (q : Request) : Request :=
  { q with exposed := if x = .exposed then q.exposed + 1 else q.exposed, spoiled := if x = .exposed then q.spoiled else q.spoiled + 1 }

/-- A first mark of the gate frame of a driven station: the map, the request and what the mark charges have changed (R29, R77). -/
structure GateMarked (st : St) (b : Binding) (q : Request) (m : RollMap) (x : FrameState) (s w : State) : Prop where
  moves : MovesAt st s w
  only : OnlyChanges [.stations, .rolls, .orders, .accounts, .composer] s w
  drives : Drives w st b (q.counting x) (m.marked m.gate x)

section
variable {s : State} {st : St} {b : Binding} {q : Request} {m : RollMap} (h : Drives s st b q m) {r : FrameRec}
  (hr : recordAt m m.gate = some r)
include h

/-- A change of the tables that a mark charges, and then of the head's counts, on the marked map. -/
theorem Drives.marked_of {w : State} {x : FrameState} {f : Request → Request} (hf : f q = q.counting x)
    (hw : OnlyChanges [.orders, .accounts, .composer] (modMap st (·.marked m.gate x) s) w) : GateMarked st b q m x s (Machine.modHead st f w) := by
  have hmap := modMap_onlyChanges st (·.marked m.gate x) s
  have hdev : w.devices = s.devices := (hw .devices (by decide)).trans (hmap .devices (by decide))
  have hst : w.stations = s.stations := (hw .stations (by decide)).trans (hmap .stations (by decide))
  have hrolls : w.rolls = (modMap st (·.marked m.gate x) s).rolls := hw .rolls (by decide)
  refine ⟨?_, ((hmap.widen).andThen hw).andThen (modHead_onlyChanges st f w), ?_⟩
  · exact ((modMap_movesAt st _ s).trans (movesAt_of_only hw (by decide) st)).trans (modStation_movesAt st _ w)
  · refine h.after ?_ ⟨rfl, rfl⟩ ?_ ⟨rfl, rfl⟩ ?_ ?_
    · rw [← hf]
      exact headOf_modHead ((headOf_congr (by rw [hst])).trans h.holds.head) f
    · show w.rolls[st].map = _
      rw [hrolls]
      exact modMap_map h.holds.map _
    · show w.bindings = _
      rw [hw .bindings (by decide)]; rfl
    · show DevicesKept s.devices w.devices
      rw [hdev]; exact .refl _

include hr

theorem Drives.marksExposed (hres : r.state = .reserved) :
    ∃ w, markGateExposed st s = (.marked, w) ∧ GateMarked st b q m .exposed s w :=
  ⟨_, h.holds.markGateExposed_reserved hr hres, h.marked_of (by simp [Request.counting]) ((exposeFrame_onlyChanges st m r _).widen)⟩

theorem Drives.marksSpoiled (hres : r.state = .reserved) (reason : SpoilReason) :
    ∃ w, markGateSpoiled st reason s = (.marked, w) ∧ GateMarked st b q m (.spoiled reason) s w :=
  ⟨_, h.holds.markGateSpoiled_reserved hr hres reason,
    h.marked_of (by simp [Request.counting]) ((spoilFrame_spec st reason r _).1.widen)⟩

end

/-! ### LAMP_FAIL, and the ADVANCE (R77, R188) -/

theorem stationFault_of_head {s : State} {st : St} {q : Request} {m : RollMap} (h : HoldsFrames s st q m)
    (hstate : q.state = .running ∨ q.state = .suspended) (hout : q.outcome = none) (kind : FaultKind) (a frameKind : Byte)
    (reason : Option Byte) :
    stationFault kind st a frameKind reason s = ⟨kind, a, frameKind, some st, some q.order, some m.gate, reason⟩ := by
  obtain ⟨z, hz, -⟩ := h.frames
  have hholds : headHolds s st = true := by
    rcases hstate with hs | hs <;> simp only [headHolds, h.head, hs, hz, hout] <;> rfl
  simp only [stationFault, hholds, h.gateOf, h.head, if_true, Option.map_some]

theorem captured_onlyChanges (x : FaultRecord) (p : ConsolePort) (s : State) :
    OnlyChanges [.capture, .eventQueue, .port] s (captured x p s) := by
  intro q hq
  cases q with
  | capture | eventQueue | port => exact absurd (by decide) hq
  | _ => rfl

/-- The fault that a flagged SHOT captures (R77, R188). -/
def lampFault (st : St) (b : Binding) (q : Request) (m : RollMap) : FaultRecord :=
  ⟨.lampFail, b.lamp, 0x04, some st, some q.order, some m.gate, none⟩

/-- The LAMP_FAIL of a flagged SHOT is captured with the first mark, and nothing else changes (R77). -/
theorem Drives.flagged {s : State} {st : St} {b : Binding} {q : Request} {m : RollMap} (h : Drives s st b q m)
    (hstate : q.state = .running) (hout : q.outcome = none) {flagged : Bool} (hflag : flagged = true → s.capture.record = none ∧ Room s 1) :
    ∃ w, offerFlagged st flagged (.marked, s) = (.marked, w) ∧ OnlyChanges [.capture, .eventQueue, .port] s w
      ∧ (flagged = false → w = s) ∧ (flagged = true → w.capture.record = some (lampFault st b q m)) := by
  cases flagged with
  | false => exact ⟨s, rfl, .refl _ s, fun _ => rfl, nofun⟩
  | true =>
    obtain ⟨hcap, hroom⟩ := hflag rfl
    have hfault : stationFault .lampFail st (lampOf s st) kindShoot none s = lampFault st b q m := by
      rw [h.up.lamp, stationFault_of_head h.holds (.inl hstate) hout]; rfl
    obtain ⟨p, hcaptured, -⟩ := offerFault_captured hcap hroom (lampFault st b q m)
    refine ⟨_, ?_, captured_onlyChanges (lampFault st b q m) p s, nofun, fun _ => rfl⟩
    rw [← hcaptured, ← hfault]
    rfl

theorem enterAdvance_movesAt {s : State} {st : St} {b : Binding} (hup : BoundUp s st b) : ∃ w,
    enterAdvance st s = standAsk st ⟨b.camera, 0x05, [], .advance⟩ w ∧ MovesAt st s w ∧ OnlyChanges [.stations, .devices] s w
      ∧ w.stations[st] = s.stations[st].advancing := by
  obtain ⟨v, hv, ht, -, he⟩ := enterAdvance_eq hup
  exact ⟨_, he, (modStation_movesAt st _ s).trans (devices_movesAt (s := modStation st Station.advancing s) hv ht st),
    ((modStation_onlyChanges st Station.advancing s).widen).andThen (devices_onlyChanges v _),
    modStation_self st Station.advancing s⟩

/-- A SHOT is taken from a station whose shot limit and poll timer have stopped (R77). -/
theorem shotOver_drives {s : State} {st : St} {b : Binding} {q : Request} {m : RollMap} (h : Drives s st b q m)
    (hn : s.ring.asks[st] = none) : ∃ y, dropAsk st (modStation st Station.shotOver s) = y ∧ MovesAt st s y
      ∧ OnlyChanges [.stations, .ring] s y ∧ Drives y st b q m :=
  ⟨_, rfl, (modStation_movesAt st _ s).trans (dropAsk_movesAt (s := modStation st Station.shotOver s) hn),
    ((modStation_onlyChanges st Station.shotOver s).widen).andThen (dropAsk_onlyChanges st _),
    (h.modStation (f := Station.shotOver) (by rfl)).dropAsk⟩

theorem takeShot_of_shotOver {s y : State} {st : St} {b : Binding} {q : Request} {m : RollMap}
    (hy : dropAsk st (modStation st Station.shotOver s) = y) (hd : Drives y st b q m) (flagged : Bool) : takeShot st flagged s
      = afterMark st (if flagged then offerFlagged st true (markGateSpoiled st .lamp y) else markGateExposed st y) := by
  have hy' : dropAsk st (modStation st (fun x => { x with shotLimit := none, pollTimer := false }) s) = y := hy
  unfold takeShot
  simp only [hy', hd.headAborts]
  cases flagged <;> rfl

/-! ### The check of a held request whose roll agrees (R188) -/

/-- What the report of a check marks the RESERVED gate frame with (R188). -/
inductive CheckMark (s : State) (st : St) (noted : Option Bool) : FrameState → Prop where
  | exposed (hp : s.stations[st].susp.phase ∈ [SuspendedPhase.shoot, .shotWait]) (hn : noted = some false) : CheckMark s st noted .exposed
  | lamp (hp : s.stations[st].susp.phase ∈ [SuspendedPhase.shoot, .shotWait]) (hn : noted = some true)
      (hroom : s.capture.record = none ∧ Room s 1) : CheckMark s st noted (.spoiled .lamp)
  | early (flagged : Bool) (hp : s.stations[st].susp.phase ∈ [SuspendedPhase.boundary, .lampSet]) (hn : noted = some flagged)
      (hroom : flagged = true → s.capture.record = none ∧ Room s 1) : CheckMark s st noted (.spoiled .uncertain)
  | unseen (hp : s.stations[st].susp.phase = .shotWait) (hn : noted = none) : CheckMark s st noted (.spoiled .uncertain)

theorem record_of_marked {m : RollMap} {f : Nat} (h : isMarked m f = true) : ∃ r, recordAt m f = some r ∧ r.state ≠ .reserved := by
  unfold isMarked at h
  split at h
  · next r hr => exact ⟨r, hr, bne_iff_ne.mp h⟩
  · cases h

section
variable {s : State} {t : Transaction} {st : St} {b : Binding} {d : Device} {m : RollMap} {f : LinkFrame} (h : Checks s t st b d m f)
  {q : Request} {w : State} {c : Instr}
include h

/-- The station asks for its ADVANCE when the check has ended (R188). -/
theorem Checks.exec_advances (hexec : Machine.exec c s = .next (finish (endGrant (enterAdvance st w)))) (hmoves : MovesAt st s w)
    (hup : BoundUp w st b) : Completes (Machine.exec c s) fun u => OnlyChanges [.stations, .devices, .ring] w u
      ∧ OthersSame st s.stations u.stations ∧ OthersSame st s.rolls u.rolls ∧ u.stations[st].state = .running
      ∧ u.stations[st].phase = some .advance ∧ headOf u st = headOf w st
      ∧ u.ring = { s.ring with
          lastGranted := .station st, engine := some (granted s (.station st) t.entry d .advance 0x05 []) } := by
  obtain ⟨-, hset, hn, -, hd, -⟩ := h.opens
  obtain ⟨-, -, hda, -⟩ := h.camera
  obtain ⟨y, henter, hmovesY, honlyY, hself⟩ := enterAdvance_movesAt hup
  rw [henter] at hexec
  have hmovesS := hmoves.trans hmovesY
  obtain ⟨v, -, hexec'⟩ := hmovesS.exec_granted hset hn (running_atRest (by rw [hself]; rfl)) hd hda hexec
  refine ⟨_, hexec', ?_, hmovesS.stations, hmovesS.rolls, ?_, ?_, ?_, rfl⟩
  · exact ((honlyY.widen).andThen (devices_onlyChanges v y)).andThen (ring_onlyChanges _ _)
  · show y.stations[st].state = _
    rw [hself]; rfl
  · show y.stations[st].phase = _
    rw [hself]; rfl
  · show y.stations[st].queue.head? = _
    rw [hself]; rfl

/-- A mark of the gate frame that the check finds RESERVED, and the ADVANCE that follows (R188). -/
theorem Checks.marked {z : Reserved} {i : Fin 16} {o : Order} {noted : Option Bool} (hheld : HoldsRequest s st m q z i o) {y : State} {x : FrameState} {flagged : Bool} (hmoves : MovesAt st s y)
    (honly : OnlyChanges [.stations, .devices, .ring] s y) (hmark : GateMarked st b q.rerun m x y w)
    (hflag : flagged = true → s.capture.record = none ∧ Room s 1) (hf : flagged = true ↔ noted = some true)
    (hexec : Machine.exec c s = .next (finish (endGrant (afterMark st (offerFlagged st flagged (.marked, w)))))) :
    Completes (Machine.exec c s) fun u =>
      OnlyChanges [.stations, .rolls, .orders, .accounts, .composer, .devices, .ring, .capture, .eventQueue, .port] s u
        ∧ OthersSame st s.stations u.stations ∧ OthersSame st s.rolls u.rolls ∧ u.rolls[st].map = some (m.marked m.gate x)
        ∧ headOf u st = some (q.rerun.counting x) ∧ u.stations[st].state = .running ∧ u.stations[st].phase = some .advance
        ∧ u.ring = { s.ring with
            lastGranted := .station st, engine := some (granted s (.station st) t.entry d .advance 0x05 []) }
        ∧ (noted ≠ some true → OnlyChanges [.stations, .rolls, .orders, .accounts, .composer, .devices, .ring] s u)
        ∧ (noted = some true → u.capture.record = some (lampFault st b q m)) := by
  have honlyW : OnlyChanges [.stations, .rolls, .orders, .accounts, .composer, .devices, .ring] s w := (honly.widen).andThen hmark.only
  obtain ⟨v, hflagged, honlyV, hsame, hfault⟩ := hmark.drives.flagged (flagged := flagged) rfl hheld.noOutcome fun hf => by
    obtain ⟨hcap, hroom⟩ := hflag hf
    exact ⟨by rw [honlyW .capture (by decide)]; exact hcap, hroom.congr (honlyW .eventQueue (by decide))⟩
  have hmovesV : MovesAt st w v := movesAt_of_only honlyV (by decide) st
  have hupV : BoundUp v st b := hmark.drives.up.kept (by rw [hmovesV.bindings]) hmovesV.devices
  rw [hflagged] at hexec
  obtain ⟨u, hexec', honlyU, hst, hrolls, hstate, hphase, hhead, hring⟩ :=
    h.exec_advances hexec ((hmoves.trans hmark.moves).trans hmovesV) hupV
  have hrollsU : u.rolls = w.rolls := (honlyU .rolls (by decide)).trans (honlyV .rolls (by decide))
  refine ⟨u, hexec', ((honlyW.widen).andThen honlyV).andThen honlyU, hst, hrolls, ?_, ?_, hstate, hphase, hring, fun hnot => ?_,
    fun hsome => ?_⟩
  · rw [hrollsU]; exact hmark.drives.holds.map
  · exact hhead.trans ((headOf_congr (by rw [honlyV .stations (by decide)])).trans hmark.drives.holds.head)
  · rw [hsame (Bool.eq_false_iff.mpr fun hc => hnot (hf.mp hc))] at honlyU; exact honlyW.andThen honlyU
  · rw [honlyU .capture (by decide)]; exact hfault (hf.mpr hsome)

end

theorem latched_noted (flags stock gate : Byte) (x : Station) : (x.latching (cameraReport flags stock gate).shot).susp.notedShot
    = if flags.getLsbD 1 then some (flags.getLsbD 2) else x.susp.notedShot := by
  unfold cameraReport Station.latching
  cases flags.getLsbD 1 <;> rfl

section
variable {s : State} {t : Transaction} {st : St} {b : Binding} {d : Device} {m : RollMap} {f : LinkFrame} (h : Checks s t st b d m f)
  {flags stock gate : Byte} (hk : f.kind = 0x14) (hpay : f.payload = [flags, stock, gate]) (hparses : StatusParses .camera f.payload)
  {q : Request} {z : Reserved} {i : Fin 16} {o : Order} (hheld : HoldsRequest s st m q z i o)
  {noted : Option Bool} (hnoted : noted = if flags.getLsbD 1 then some (flags.getLsbD 2) else s.stations[st].susp.notedShot)
include h hk hpay hparses hheld

/-- What the report of a check that states the map's stock does for a held request (R188). -/
theorem Checks.exec_present (hpresent : flags.getLsbD 0 = true) : Machine.exec (.statusReplyReceived f.wire) s = .next (finish (endGrant (
    checkHeld st (s.stations[st].latching (cameraReport flags stock gate).shot).susp (cameraReport flags stock gate)
      (checkTaken st true t s)))) := by
  rw [h.exec_held hk hpay hparses hheld, hpresent]

section
variable (hpresent : flags.getLsbD 0 = true) (hstock : stock.toNat = m.stock) (hgate : gate.toNat = m.gate)
include hpresent hstock hgate

section
variable (hnone : noted = none) (hp : s.stations[st].susp.phase ∈ [SuspendedPhase.boundary, .lampSet, .shoot])
include hnoted hnone hp

/-- A frame of which no SHOT is noted is redone from its boundary (R188). -/
theorem Checks.exec_redone : Machine.exec (.statusReplyReceived f.wire) s
    = .next (finish (endGrant (boundary st (leaveSuspended st (checkTaken st true t s))))) := by
  rw [h.exec_present hk hpay hparses hheld hpresent, checkHeld_redone (hheld.checkTaken_holds h.map h.open_ true)
    (agrees_iff.mpr ⟨hpresent, hstock, hgate⟩) (u := (s.stations[st].latching (cameraReport flags stock gate).shot).susp) hp
    (by rw [latched_noted, ← hnoted, hnone])]

theorem Checks.redone_held (hhold : s.pins.hold[st] = true) : Completes (Machine.exec (.statusReplyReceived f.wire) s) fun u =>
    OnlyChanges [.stations, .devices, .ring] s u ∧ u.ring = { s.ring with engine := none } ∧ OthersSame st s.stations u.stations
      ∧ u.stations[st].state = .held ∧ u.stations[st].phase = none ∧ u.stations[st].susp = ⟨.boundary, false, false, none, .awaiting⟩
      ∧ headOf u st = some q.rerun := by
  obtain ⟨-, hset, hn, -⟩ := h.opens
  have hexec := h.exec_redone hk hpay hparses hheld hnoted hpresent hstock hgate hnone hp
  obtain ⟨y, hy, hmoves, honly, hdrives, hselfY⟩ := h.leaves hheld
  obtain ⟨w, hbound, hmovesW, honlyW, hself, -⟩ := hdrives.boundary_holds (by rw [hmoves.pins]; exact hhold)
  rw [hy, hbound] at hexec
  have hmovesS := hmoves.trans hmovesW
  refine ⟨endGrant w, hmovesS.exec_idle hset hn (atRest_of_state (by rw [hself]; nofun) (by rw [hself]; nofun)) hexec,
    (honly.andThen honlyW).andThen (ring_onlyChanges _ _), hmovesS.endGrant_ring, hmovesS.stations, ?_, ?_, ?_, ?_⟩
  · show w.stations[st].state = _
    rw [hself]; rfl
  · show w.stations[st].phase = _
    rw [hself]; rfl
  · show w.stations[st].susp = _
    rw [hself]
    show y.stations[st].susp = _
    rw [hselfY]; rfl
  · show w.stations[st].queue.head? = _
    rw [hself]; exact hdrives.holds.head

theorem Checks.redone_lampSet (hhold : s.pins.hold[st] = false) {r : FrameRec} {j : Fin 16} {lamp : Device}
    (hr : recordAt m m.gate = some r) (hlamp : DeviceAt s j lamp) (hla : lamp.addr = b.lamp) :
    Completes (Machine.exec (.statusReplyReceived f.wire) s) fun u => OnlyChanges [.stations, .devices, .ring] s u
      ∧ OthersSame st s.stations u.stations ∧ u.stations[st].state = .running ∧ u.stations[st].phase = some .lampSet
      ∧ headOf u st = some q.rerun
      ∧ u.ring = { s.ring with
          lastGranted := .station st
          engine := some (granted s (.station st) j lamp .lampSet 0x03 (be16 r.times.r ++ be16 r.times.g ++ be16 r.times.b)) } := by
  obtain ⟨-, hset, hn, -⟩ := h.opens
  have hexec := h.exec_redone hk hpay hparses hheld hnoted hpresent hstock hgate hnone hp
  obtain ⟨y, hy, hmoves, honly, hdrives, -⟩ := h.leaves hheld
  obtain ⟨w, hbound, hmovesW, honlyW, hself⟩ := hdrives.boundary_begins (by rw [hmoves.pins]; exact hhold) hr
  rw [hy, hbound] at hexec
  have hmovesS := hmoves.trans hmovesW
  obtain ⟨v, -, hexec'⟩ := hmovesS.exec_granted hset hn (running_atRest (by rw [hself]; rfl)) hlamp hla hexec
  refine ⟨_, hexec', ((honly.andThen honlyW).andThen (devices_onlyChanges v _)).andThen (ring_onlyChanges _ _), hmovesS.stations,
    ?_, ?_, ?_, rfl⟩
  · show w.stations[st].state = _
    rw [hself]; rfl
  · show w.stations[st].phase = _
    rw [hself]; rfl
  · show w.stations[st].queue.head? = _
    rw [hself]; exact hdrives.holds.head

end

include hnoted in
/-- The gate frame that the check finds RESERVED is marked, and the ADVANCE follows (R188). -/
theorem Checks.marks {r : FrameRec} {x : FrameState} (hr : recordAt m m.gate = some r) (hres : r.state = .reserved)
    (hx : CheckMark s st noted x) : Completes (Machine.exec (.statusReplyReceived f.wire) s) fun u =>
      OnlyChanges [.stations, .rolls, .orders, .accounts, .composer, .devices, .ring, .capture, .eventQueue, .port] s u
        ∧ OthersSame st s.stations u.stations ∧ OthersSame st s.rolls u.rolls ∧ u.rolls[st].map = some (m.marked m.gate x)
        ∧ headOf u st = some (q.rerun.counting x) ∧ u.stations[st].state = .running ∧ u.stations[st].phase = some .advance
        ∧ u.ring = { s.ring with
            lastGranted := .station st, engine := some (granted s (.station st) t.entry d .advance 0x05 []) }
        ∧ (noted ≠ some true → OnlyChanges [.stations, .rolls, .orders, .accounts, .composer, .devices, .ring] s u)
        ∧ (noted = some true → u.capture.record = some (lampFault st b q m)) := by
  obtain ⟨-, -, hn, -⟩ := h.opens
  obtain ⟨y, hy, hmoves, honly, hdrives, -⟩ := h.leaves hheld
  obtain ⟨y', hy', hmovesO, honlyO, hdrivesO⟩ := shotOver_drives hdrives (by rw [hmoves.ring]; exact hn.2.1 st)
  have hmovesY := hmoves.trans hmovesO
  have honlyY : OnlyChanges [.stations, .devices, .ring] s y' := honly.andThen honlyO
  have hexec := h.exec_present hk hpay hparses hheld hpresent
  have hholds := hheld.checkTaken_holds (t := t) h.map h.open_ true
  have hagrees := agrees_iff.mpr ⟨hpresent, hstock, hgate⟩
  have hlatched := latched_noted flags stock gate s.stations[st]
  obtain ⟨u, hu⟩ : ∃ u, u = (s.stations[st].latching (cameraReport flags stock gate).shot).susp := ⟨_, rfl⟩
  have hphase : u.phase = s.stations[st].susp.phase := by rw [hu]; rfl
  rw [← hu] at hexec hlatched
  rw [← hnoted] at hlatched
  cases hx with
  | exposed hp hn =>
    obtain ⟨w, hw, hmark⟩ := hdrivesO.marksExposed hr hres
    rw [checkHeld_shot hholds hagrees (by rw [hphase]; exact hp) (hlatched.trans hn), hy, takeShot_of_shotOver hy' hdrivesO,
      if_neg Bool.false_ne_true, hw] at hexec
    exact h.marked hheld (flagged := false) hmovesY honlyY hmark nofun (by rw [hn]; decide) hexec
  | lamp hp hn hroom =>
    obtain ⟨w, hw, hmark⟩ := hdrivesO.marksSpoiled hr hres .lamp
    rw [checkHeld_shot hholds hagrees (by rw [hphase]; exact hp) (hlatched.trans hn), hy, takeShot_of_shotOver hy' hdrivesO,
      if_pos rfl, hw] at hexec
    exact h.marked hheld (flagged := true) hmovesY honlyY hmark (fun _ => hroom) (iff_of_true rfl hn) hexec
  | early flagged hp hn hroom =>
    obtain ⟨w, hw, hmark⟩ := hdrives.marksSpoiled hr hres .uncertain
    rw [checkHeld_early hholds hagrees (by rw [hphase]; exact hp) (hlatched.trans hn), hy, hw] at hexec
    exact h.marked hheld hmoves honly hmark hroom (by rw [hn, Option.some_inj]) hexec
  | unseen hp hn =>
    obtain ⟨w, hw, hmark⟩ := hdrives.marksSpoiled hr hres .uncertain
    rw [checkHeld_unseen hholds hagrees (by rw [hphase]; exact hp) (hlatched.trans hn), hy, hw] at hexec
    exact h.marked hheld (flagged := false) hmoves honly hmark nofun (by rw [hn]; decide) hexec

include hnoted in
/-- The advance of a frame that is marked already is sent again (R188). -/
theorem Checks.advances (hp : s.stations[st].susp.phase ∈ [SuspendedPhase.advance, .advanceWait]
      ∨ s.stations[st].susp.phase = .shotWait ∧ isMarked m m.gate = true) :
    Completes (Machine.exec (.statusReplyReceived f.wire) s) fun u => OnlyChanges [.stations, .devices, .ring] s u
      ∧ OthersSame st s.stations u.stations ∧ u.stations[st].state = .running ∧ u.stations[st].phase = some .advance
      ∧ headOf u st = some q.rerun
      ∧ u.ring = { s.ring with
          lastGranted := .station st, engine := some (granted s (.station st) t.entry d .advance 0x05 []) } := by
  obtain ⟨-, -, hn, -⟩ := h.opens
  obtain ⟨y, hy, hmoves, honly, hdrives, -⟩ := h.leaves hheld
  have hexec := h.exec_present hk hpay hparses hheld hpresent
  have hholds := hheld.checkTaken_holds (t := t) h.map h.open_ true
  have hagrees := agrees_iff.mpr ⟨hpresent, hstock, hgate⟩
  have hlatched := latched_noted flags stock gate s.stations[st]
  obtain ⟨u, hu⟩ : ∃ u, u = (s.stations[st].latching (cameraReport flags stock gate).shot).susp := ⟨_, rfl⟩
  have hphase : u.phase = s.stations[st].susp.phase := by rw [hu]; rfl
  rw [← hu] at hexec hlatched
  rw [← hnoted] at hlatched
  have hdone {w : State} (hmovesW : MovesAt st s w) (honlyW : OnlyChanges [.stations, .devices, .ring] s w) (hdrivesW : Drives w st b q.rerun m)
      (hexecW : Machine.exec (.statusReplyReceived f.wire) s = .next (finish (endGrant (enterAdvance st w)))) :
      Completes (Machine.exec (.statusReplyReceived f.wire) s) fun u => OnlyChanges [.stations, .devices, .ring] s u
        ∧ OthersSame st s.stations u.stations ∧ u.stations[st].state = .running ∧ u.stations[st].phase = some .advance
        ∧ headOf u st = some q.rerun
        ∧ u.ring = { s.ring with
            lastGranted := .station st, engine := some (granted s (.station st) t.entry d .advance 0x05 []) } := by
    obtain ⟨u, hexec', honlyU, hst, -, hstate, hphase, hhead, hring⟩ := h.exec_advances hexecW hmovesW hdrivesW.up
    exact ⟨u, hexec', honlyW.andThen honlyU, hst, hstate, hphase, hhead.trans hdrivesW.holds.head, hring⟩
  rcases hp with hp | ⟨hp, hmarked⟩
  · rw [checkHeld_advances hholds hagrees (by rw [hphase]; exact hp), hy] at hexec
    exact hdone hmoves honly hdrives hexec
  · obtain ⟨r, hr, hmark⟩ := record_of_marked hmarked
    cases hnote : noted with
    | none =>
      rw [checkHeld_unseen hholds hagrees (by rw [hphase, hp]) (hlatched.trans hnote), hy,
        hdrives.holds.markGateSpoiled_marked hr hmark] at hexec
      exact hdone hmoves honly hdrives hexec
    | some flagged =>
      obtain ⟨y', hy', hmovesO, honlyO, hdrivesO⟩ := shotOver_drives hdrives (by rw [hmoves.ring]; exact hn.2.1 st)
      rw [checkHeld_shot hholds hagrees (by rw [hphase, hp]; decide) (hlatched.trans hnote), hy, takeShot_of_shotOver hy' hdrivesO,
        hdrivesO.holds.markGateSpoiled_marked hr hmark, hdrivesO.holds.markGateExposed_marked hr hmark] at hexec
      refine hdone (hmoves.trans hmovesO) (honly.andThen honlyO) hdrivesO (hexec.trans ?_)
      cases flagged <;> rfl

end

section
variable (hpresent : flags.getLsbD 0 = true) (hstock : stock.toNat = m.stock) (hgate : gate.toNat = m.gate + 1) (hend : m.gate ≠ m.length)
  (hp : s.stations[st].susp.phase ∈ [SuspendedPhase.advance, .advanceWait])
include hpresent hstock hgate hp

/-- The film has moved while the station was SUSPENDED (R188). -/
theorem Checks.exec_moved : Machine.exec (.statusReplyReceived f.wire) s
    = .next (finish (endGrant (takeAdvance st (leaveSuspended st (checkTaken st true t s))))) := by
  rw [h.exec_present hk hpay hparses hheld hpresent, checkHeld_moved (hheld.checkTaken_holds h.map h.open_ true)
    (sameRoll_iff.mpr ⟨hpresent, by rw [cameraReport_stock hpresent]; exact hstock⟩) (by rw [cameraReport_gate hpresent]; exact hgate)
    (u := (s.stations[st].latching (cameraReport flags stock gate).shot).susp) hp]

include hend

theorem Checks.moved_held (hmore : m.gate + 1 < z.first + z.count) (hhold : s.pins.hold[st] = true) :
    Completes (Machine.exec (.statusReplyReceived f.wire) s) fun u => OnlyChanges [.stations, .rolls, .devices, .ring] s u
      ∧ u.ring = { s.ring with engine := none } ∧ OthersSame st s.stations u.stations ∧ OthersSame st s.rolls u.rolls
      ∧ u.rolls[st].map = some m.advanced ∧ u.stations[st].state = .held ∧ headOf u st = some (q.rerun.nextFrame o.terms.copies) := by
  obtain ⟨-, hset, hn, -⟩ := h.opens
  have hexec := h.exec_moved hk hpay hparses hheld hpresent hstock hgate hp
  obtain ⟨y, hy, hmoves, honly, hdrives, -⟩ := h.leaves hheld
  obtain ⟨x, hmovesX, honlyX, hdrivesX, htakes⟩ := hdrives.takes_next (by rw [hmoves.ring]; exact hn.2.1 st) hheld.frames hend hmore
    (hheld.order.congr (honly .orders (by decide))) hheld.number
  obtain ⟨w, hbound, hmovesW, honlyW, hself, -⟩ := hdrivesX.boundary_holds (by rw [hmovesX.pins, hmoves.pins]; exact hhold)
  rw [hy, htakes, hbound] at hexec
  have hmovesS := (hmoves.trans hmovesX).trans hmovesW
  have honlyY : OnlyChanges [.stations, .rolls, .devices, .ring] s y := honly.widen
  refine ⟨endGrant w, hmovesS.exec_idle hset hn (atRest_of_state (by rw [hself]; nofun) (by rw [hself]; nofun)) hexec,
    ((honlyY.andThen honlyX).andThen honlyW).andThen (ring_onlyChanges _ _), hmovesS.endGrant_ring, hmovesS.stations, hmovesS.rolls,
    ?_, ?_, ?_⟩
  · show w.rolls[st].map = _
    rw [honlyW .rolls (by decide)]; exact hdrivesX.holds.map
  · show w.stations[st].state = _
    rw [hself]; rfl
  · show w.stations[st].queue.head? = _
    rw [hself]; exact hdrivesX.holds.head

theorem Checks.moved_lampSet (hmore : m.gate + 1 < z.first + z.count) (hhold : s.pins.hold[st] = false) {r : FrameRec} {j : Fin 16}
    {lamp : Device} (hr : recordAt m (m.gate + 1) = some r) (hlamp : DeviceAt s j lamp) (hla : lamp.addr = b.lamp) :
    Completes (Machine.exec (.statusReplyReceived f.wire) s) fun u => OnlyChanges [.stations, .rolls, .devices, .ring] s u
      ∧ OthersSame st s.stations u.stations ∧ OthersSame st s.rolls u.rolls ∧ u.rolls[st].map = some m.advanced
      ∧ u.stations[st].state = .running ∧ u.stations[st].phase = some .lampSet
      ∧ headOf u st = some (q.rerun.nextFrame o.terms.copies)
      ∧ u.ring = { s.ring with
          lastGranted := .station st
          engine := some (granted s (.station st) j lamp .lampSet 0x03 (be16 r.times.r ++ be16 r.times.g ++ be16 r.times.b)) } := by
  obtain ⟨-, hset, hn, -⟩ := h.opens
  have hexec := h.exec_moved hk hpay hparses hheld hpresent hstock hgate hp
  obtain ⟨y, hy, hmoves, honly, hdrives, -⟩ := h.leaves hheld
  obtain ⟨x, hmovesX, honlyX, hdrivesX, htakes⟩ := hdrives.takes_next (by rw [hmoves.ring]; exact hn.2.1 st) hheld.frames hend hmore
    (hheld.order.congr (honly .orders (by decide))) hheld.number
  obtain ⟨w, hbound, hmovesW, honlyW, hself⟩ := hdrivesX.boundary_begins (by rw [hmovesX.pins, hmoves.pins]; exact hhold) (r := r) hr
  rw [hy, htakes, hbound] at hexec
  have hmovesS := (hmoves.trans hmovesX).trans hmovesW
  have honlyY : OnlyChanges [.stations, .rolls, .devices, .ring] s y := honly.widen
  obtain ⟨v, -, hexec'⟩ := hmovesS.exec_granted hset hn (running_atRest (by rw [hself]; rfl)) hlamp hla hexec
  refine ⟨_, hexec', (((honlyY.andThen honlyX).andThen honlyW).andThen (devices_onlyChanges v _)).andThen (ring_onlyChanges _ _),
    hmovesS.stations, hmovesS.rolls, ?_, ?_, ?_, ?_, rfl⟩
  · show w.rolls[st].map = _
    rw [honlyW .rolls (by decide)]; exact hdrivesX.holds.map
  · show w.stations[st].state = _
    rw [hself]; rfl
  · show w.stations[st].phase = _
    rw [hself]; rfl
  · show w.stations[st].queue.head? = _
    rw [hself]; exact hdrivesX.holds.head

theorem Checks.moved_ready (hlast : z.first + z.count ≤ m.gate + 1) (hroom : Room s 1) (hq : s.stations[st].queue = [q])
    (hleft : s.stations[st].leftUp = false) : Completes (Machine.exec (.statusReplyReceived f.wire) s) fun u =>
      OnlyChanges [.stations, .rolls, .orders, .devices, .ring, .eventQueue, .port] s u ∧ u.ring = { s.ring with engine := none }
        ∧ OthersSame st s.stations u.stations ∧ OthersSame st s.rolls u.rolls ∧ u.rolls[st].map = some m.advanced
        ∧ u.stations[st].state = .ready ∧ u.stations[st].queue = [] ∧ u.stations[st].susp = ⟨.boundary, false, false, none, .awaiting⟩
        ∧ Posted s u [.event q.tag (q.doneEvent .complete)] := by
  obtain ⟨-, hset, hn, -⟩ := h.opens
  have hexec := h.exec_moved hk hpay hparses hheld hpresent hstock hgate hp
  obtain ⟨y, hy, hmoves, honly, hdrives, hselfY⟩ := h.leaves hheld
  obtain ⟨w, hmovesW, honlyW, hself, hmap, -, ⟨hrecords, htransmits⟩, htakes⟩ := hdrives.takes_ends
    (by rw [hmoves.ring]; exact hn.2.1 st) hheld.frames (by rw [hselfY]; nofun) (.inr hlast) (by rw [hselfY]; exact h.noEnd)
    (hheld.order.congr (honly .orders (by decide))) hheld.number hheld.notClosing (hroom.congr (honly .eventQueue (by decide)))
    (by rw [hselfY]; exact hleft)
  have hstateY : y.stations[st].state = .running := by rw [hselfY]; rfl
  rw [dequeue_of_running hstateY, decide_eq_false hend, hselfY] at hself
  have hmovesS := hmoves.trans hmovesW
  have hready : afterRequest st false w = modStation st (fun x => { x with state := .ready }) w :=
    afterRequest_ready (by rw [hself]) hmap (by rw [hself]; nofun) ((h.camera.1.kept (by rw [hmovesS.bindings]) hmovesS.devices).2)
  obtain ⟨u, hu⟩ : ∃ u, u = modStation st (fun x => { x with state := .ready }) w := ⟨_, rfl⟩
  have hselfU : u.stations[st] = { w.stations[st] with state := .ready } := by rw [hu, modStation_self]
  have hmovesU : MovesAt st s u := by rw [hu]; exact hmovesS.trans (modStation_movesAt st _ w)
  have hempty : u.stations[st].queue = [] := by
    rw [hselfU, hself]
    show (s.stations[st].queue.modifyHead Request.rerun).tail = []
    rw [hq]; rfl
  rw [hy, htakes, hready, ← hu] at hexec
  refine ⟨endGrant u, hmovesU.exec_idle hset hn (atRest_of_empty (by rw [hselfU]; nofun) hempty) hexec, ?_, hmovesU.endGrant_ring,
    hmovesU.stations, hmovesU.rolls, ?_, ?_, hempty, ?_, ?_, ?_⟩
  · have honlyS : OnlyChanges [.stations, .rolls, .orders, .devices, .ring, .eventQueue, .port] s y := honly.widen
    rw [hu]
    exact ((honlyS.andThen honlyW).andThen (modStation_onlyChanges st _ w)).andThen (ring_onlyChanges _ _)
  · show u.rolls[st].map = _
    rw [hu]; exact hmap
  · show u.stations[st].state = _
    rw [hselfU]
  · show u.stations[st].susp = _
    rw [hselfU, hself]; rfl
  · show u.eq = _
    rw [hu, ← honly .eventQueue (by decide)]
    exact hrecords
  · unfold Transmits at htransmits ⊢
    rw [hu, ← honly .port (by decide)]
    exact htransmits

end

end

/-! ### The check without a request (R189) -/

/-- A SUSPENDED station that holds no request (R189). -/
def HoldsNone (s : State) (st : St) : Prop := s.stations[st].susp.requestHeld = false ∧ s.stations[st].queue = []

/-- A station that has left SUSPENDED for READY (R189). -/
def Station.readied (x : Station) : Station := { x.quiet with state := .ready, susp := Suspension.clear }

/-- A station that sends the ADVANCE which it owes without a request (R189). -/
def Station.settling (x : Station) : Station := { x with susp := { x.susp with step := .settlingAdvance } }

section
variable {s : State} {st : St} {m : RollMap} {r : CameraReport} {u : Suspension} (hm : s.rolls[st].map = some m)
include hm

theorem checkFree_unload (hp : u.phase = .unload) (hr : r.present = true) : checkFree st u r s = startUnload st s := by
  unfold checkFree
  simp only [hm, hp, hr, if_true]

theorem checkFree_owed (hp : u.phase ∈ [SuspendedPhase.advance, .advanceWait]) (hr : sameRoll r m = true)
    (hmarked : isMarked m m.gate = true) (hg : r.gate = m.gate) :
    checkFree st u r s = askCamera st kindAdvance .settleAdvance (modStation st Station.settling s) := by
  have ha : (sameRoll r m && isMarked m m.gate && r.gate == m.gate) = true := by rw [hr, hmarked, hg]; simp
  simp only [List.mem_cons, List.mem_nil_iff, or_false] at hp
  unfold checkFree
  rcases hp with hp | hp <;> simp only [hm, hp, ha, if_true] <;> rfl

theorem checkFree_settled (hp : u.phase ∈ [SuspendedPhase.advance, .advanceWait]) (hr : sameRoll r m = true)
    (hmarked : isMarked m m.gate = true) (hg : r.gate = m.gate + 1) : checkFree st u r s = settleDone st s := by
  have hne : (sameRoll r m && isMarked m m.gate && r.gate == m.gate) = false := by rw [beq_false_of_ne (by omega), Bool.and_false]
  have ha : (sameRoll r m && isMarked m m.gate && r.gate == m.gate + 1) = true := by rw [hr, hmarked, hg]; simp
  simp only [List.mem_cons, List.mem_nil_iff, or_false] at hp
  unfold checkFree
  rcases hp with hp | hp <;> simp only [hm, hp, hne, ha, Bool.false_eq_true, if_false, if_true]

theorem checkFree_ready (hp : u.phase = .boundary) (ha : agrees r m = true) (hr : recordAt m m.gate = none) (hn : u.notedShot = none) :
    checkFree st u r s = modStation st Station.readied s := by
  have ha' : (sameRoll r m && r.gate == m.gate && (recordAt m m.gate).isNone && u.notedShot.isNone) = true := by
    rw [show (sameRoll r m && r.gate == m.gate) = true from ha, hr, hn]; rfl
  unfold checkFree
  simp only [hm, hp, ha', if_true]
  rfl

/-- The film has moved while no request was held (R189). -/
theorem settleDone_moved (hc : m.closing = none) : settleDone st s =
    if m.gate = m.length then startUnload st (modMap st RollMap.advanced (dropAsk st s))
    else modStation st Station.readied (modMap st RollMap.advanced (dropAsk st s)) := by
  have hroll : rollOf s st = m.roll := by rw [rollOf, hm]; rfl
  have hopen : openMap (dropAsk st s) st m.roll = some m := by
    have hm' : (dropAsk st s).rolls[st].map = some m := hm
    simp only [openMap, hm', hc, and_self, if_true]
  have hadv : advanceRoll st (rollOf s st) (dropAsk st s)
      = (if m.gate + 1 = m.length + 1 then .rollEnd else .advanced, modMap st RollMap.advanced (dropAsk st s)) := by
    simp only [advanceRoll, hroll, hopen]
    rfl
  unfold settleDone
  rw [hadv]
  by_cases hend : m.gate = m.length
  · rw [if_pos hend, if_pos (by rw [hend])]
  · rw [if_neg hend, if_neg (by omega)]
    rfl

end

section
variable {s : State} {t : Transaction} {st : St} {b : Binding} {d : Device} {m : RollMap} {f : LinkFrame} (h : Checks s t st b d m f)
  {flags stock gate : Byte} (hk : f.kind = 0x14) (hpay : f.payload = [flags, stock, gate]) (hparses : StatusParses .camera f.payload)
  {noted : Option Bool} (hnoted : noted = if flags.getLsbD 1 then some (flags.getLsbD 2) else s.stations[st].susp.notedShot)
  (hfree : HoldsNone s st)
include h hk hpay hparses hfree

/-- What the report of a check that states a roll does without a request (R189). -/
theorem Checks.exec_free (hpresent : flags.getLsbD 0 = true) : Machine.exec (.statusReplyReceived f.wire) s = .next (finish (endGrant (
    checkFree st (s.stations[st].latching (cameraReport flags stock gate).shot).susp (cameraReport flags stock gate)
      (checkTaken st true t s)))) := by
  rw [h.exec_serves hk hpay hparses fun hu => (nomatch hpresent.symm.trans hu.2), if_neg (by rw [hfree.1]; exact Bool.false_ne_true),
    hpresent]

omit hk hpay hparses hfree in
/-- The state in which the report of a check that states a roll is used (R187). -/
theorem Checks.taken : ∃ y, checkTaken st true t s = y ∧ MovesAt st s y ∧ OnlyChanges [.stations, .devices, .ring] s y
    ∧ y.stations[st] = s.stations[st].serving ∧ y.rolls[st].map = some m ∧ BoundUp y st b := by
  obtain ⟨-, -, hn, -⟩ := h.opens
  have hmoves := checkTaken_movesAt st true t (hn.2.1 st)
  exact ⟨_, rfl, hmoves, checkTaken_present_onlyChanges st t, checkTaken_station st true t, (congrArg RollRec.map (checkTaken_roll st true t)).trans
    h.map, h.camera.1.kept (by rw [hmoves.bindings]) hmoves.devices⟩

omit hk hpay hparses hfree in
/-- The station starts its unload again when the check has ended (R189). -/
theorem Checks.exec_unloads {c : Instr} {y : State} (hexec : Machine.exec c s = .next (finish (endGrant (startUnload st y))))
    (hmoves : MovesAt st s y) (hup : BoundUp y st b) : Completes (Machine.exec c s) fun u => OnlyChanges [.stations, .devices, .ring] y u
      ∧ OthersSame st s.stations u.stations ∧ OthersSame st s.rolls u.rolls ∧ u.stations[st] = y.stations[st].unloads
      ∧ u.ring = { s.ring with
          lastGranted := .station st, engine := some (granted s (.station st) t.entry d .rewind 0x06 []) } := by
  obtain ⟨-, hset, hn, -, hd, -⟩ := h.opens
  obtain ⟨-, -, hda, -⟩ := h.camera
  obtain ⟨w, hmovesW, honlyW, hself, -, hstart⟩ := startUnload_movesAt hup
  rw [hstart] at hexec
  have hmovesS := hmoves.trans hmovesW
  obtain ⟨v, -, hexec'⟩ := hmovesS.exec_granted hset hn (Station.unloads_atRest (by rw [hself]; rfl)) hd hda hexec
  exact ⟨_, hexec', ((honlyW.widen).andThen (devices_onlyChanges v w)).andThen (ring_onlyChanges _ _), hmovesS.stations, hmovesS.rolls,
    hself, rfl⟩

/-- An unload is begun again (R189). -/
theorem Checks.free_unloads (hp : s.stations[st].susp.phase = .unload) (hpresent : flags.getLsbD 0 = true) :
    Completes (Machine.exec (.statusReplyReceived f.wire) s) fun u => OnlyChanges [.stations, .devices, .ring] s u
      ∧ OthersSame st s.stations u.stations ∧ u.stations[st].state = .unloading
      ∧ u.stations[st].susp = ⟨.boundary, false, false, none, .awaiting⟩
      ∧ u.ring = { s.ring with
          lastGranted := .station st, engine := some (granted s (.station st) t.entry d .rewind 0x06 []) } := by
  have hexec := h.exec_free hk hpay hparses hfree hpresent
  obtain ⟨y, hy, hmoves, honly, hself, hmap, hup⟩ := h.taken
  rw [hy, checkFree_unload hmap (u := (s.stations[st].latching (cameraReport flags stock gate).shot).susp) hp hpresent] at hexec
  obtain ⟨u, hexec', honlyU, hst, -, hselfU, hring⟩ := h.exec_unloads hexec hmoves hup
  exact ⟨u, hexec', honly.andThen honlyU, hst, by rw [hselfU]; rfl, by rw [hselfU]; rfl, hring⟩

section
variable (hp : s.stations[st].susp.phase ∈ [SuspendedPhase.advance, .advanceWait]) (hpresent : flags.getLsbD 0 = true)
  (hstock : stock.toNat = m.stock) (hmarked : isMarked m m.gate = true)
include hp hpresent hstock hmarked

/-- An ADVANCE that is owed without a request is sent (R189). -/
theorem Checks.free_owed (hgate : gate.toNat = m.gate) : Completes (Machine.exec (.statusReplyReceived f.wire) s) fun u =>
    OnlyChanges [.stations, .devices, .ring] s u ∧ OthersSame st s.stations u.stations ∧ u.stations[st].state = .suspended
      ∧ u.stations[st].susp.step = .settlingAdvance
      ∧ u.ring = { s.ring with
          lastGranted := .station st, engine := some (granted s (.station st) t.entry d .settleAdvance 0x05 []) } := by
  obtain ⟨-, hset, hn, -, hd, -⟩ := h.opens
  obtain ⟨-, -, hda, -⟩ := h.camera
  have hexec := h.exec_free hk hpay hparses hfree hpresent
  obtain ⟨y, hy, hmoves, honly, hself, hmap, hup⟩ := h.taken
  rw [hy, checkFree_owed hmap (u := (s.stations[st].latching (cameraReport flags stock gate).shot).susp) hp
    (sameRoll_iff.mpr ⟨hpresent, by rw [cameraReport_stock hpresent]; exact hstock⟩) hmarked
    (by rw [cameraReport_gate hpresent]; exact hgate),
    askCamera_standAsk (s := modStation st Station.settling y) (hup.kept rfl (.refl _))] at hexec
  obtain ⟨w, hw⟩ : ∃ w, w = modStation st Station.settling y := ⟨_, rfl⟩
  have hselfW : w.stations[st] = y.stations[st].settling := by rw [hw, modStation_self]
  have hstate : w.stations[st].state = .suspended := by
    rw [hselfW, hself]; exact h.state
  have hmovesW : MovesAt st s w := by rw [hw]; exact hmoves.trans (modStation_movesAt st _ y)
  rw [← hw] at hexec
  obtain ⟨v, -, hexec'⟩ := hmovesW.exec_granted hset hn (atRest_of_step hstate (by rw [hselfW]; nofun)) hd hda hexec
  refine ⟨_, hexec', ?_, hmovesW.stations, hstate, ?_, rfl⟩
  · rw [hw]
    exact ((honly.andThen (modStation_onlyChanges st _ y)).andThen (devices_onlyChanges v _)).andThen (ring_onlyChanges _ _)
  · show w.stations[st].susp.step = _
    rw [hselfW]; rfl

/-- The film has moved on for an ADVANCE that was owed without a request (R189). -/
theorem Checks.free_settled (hgate : gate.toNat = m.gate + 1) : Completes (Machine.exec (.statusReplyReceived f.wire) s) fun u =>
    OnlyChanges [.stations, .rolls, .devices, .ring] s u ∧ OthersSame st s.stations u.stations ∧ OthersSame st s.rolls u.rolls
      ∧ u.rolls[st].map = some m.advanced ∧ u.stations[st].susp = ⟨.boundary, false, false, none, .awaiting⟩
      ∧ (m.gate ≠ m.length → u.stations[st].state = .ready ∧ u.stations[st].rollCheck = s.stations[st].rollCheck
        ∧ u.ring = { s.ring with engine := none })
      ∧ (m.gate = m.length → u.stations[st].state = .unloading ∧ u.ring = { s.ring with
          lastGranted := .station st, engine := some (granted s (.station st) t.entry d .rewind 0x06 []) }) := by
  obtain ⟨-, hset, hn, -⟩ := h.opens
  have hexec := h.exec_free hk hpay hparses hfree hpresent
  obtain ⟨y, hy, hmoves, honly, hself, hmap, hup⟩ := h.taken
  rw [hy, checkFree_settled hmap (u := (s.stations[st].latching (cameraReport flags stock gate).shot).susp) hp
    (sameRoll_iff.mpr ⟨hpresent, by rw [cameraReport_stock hpresent]; exact hstock⟩) hmarked
    (by rw [cameraReport_gate hpresent]; exact hgate), settleDone_moved hmap h.open_] at hexec
  obtain ⟨x, hx⟩ : ∃ x, x = modMap st RollMap.advanced (dropAsk st y) := ⟨_, rfl⟩
  rw [← hx] at hexec
  have hmovesX : MovesAt st s x := by
    rw [hx]
    exact (hmoves.trans (dropAsk_movesAt (by rw [hmoves.ring]; exact hn.2.1 st))).trans (modMap_movesAt st _ _)
  have honlyY : OnlyChanges [.stations, .rolls, .devices, .ring] s y := honly.widen
  have honlyX : OnlyChanges [.stations, .rolls, .devices, .ring] s x := by
    rw [hx]
    exact (honlyY.andThen (dropAsk_onlyChanges st y)).andThen (modMap_onlyChanges st _ _)
  have hmapX : x.rolls[st].map = some m.advanced := by rw [hx]; exact modMap_map (s := dropAsk st y) hmap _
  have hselfX : x.stations[st] = s.stations[st].serving := by rw [hx]; exact hself
  by_cases hend : m.gate = m.length
  · rw [if_pos hend] at hexec
    obtain ⟨u, hexec', honlyU, hst, hrolls, hselfU, hring⟩ := h.exec_unloads hexec hmovesX
      (h.camera.1.kept (by rw [hmovesX.bindings]) hmovesX.devices)
    refine ⟨u, hexec', honlyX.andThen honlyU, hst, hrolls, ?_, by rw [hselfU]; rfl, fun hne => absurd hend hne, fun _ => ⟨?_, hring⟩⟩
    · rw [honlyU .rolls (by decide)]; exact hmapX
    · rw [hselfU]; rfl
  · rw [if_neg hend] at hexec
    obtain ⟨w, hw⟩ : ∃ w, w = modStation st Station.readied x := ⟨_, rfl⟩
    have hselfW : w.stations[st] = s.stations[st].serving.readied := by rw [hw, modStation_self, hselfX]
    have hmovesW : MovesAt st s w := by rw [hw]; exact hmovesX.trans (modStation_movesAt st _ x)
    rw [← hw] at hexec
    refine ⟨endGrant w, hmovesW.exec_idle hset hn (atRest_of_empty (by rw [hselfW]; nofun) (by rw [hselfW]; exact hfree.2)) hexec, ?_,
      hmovesW.stations, hmovesW.rolls, ?_, ?_, fun _ => ⟨?_, ?_, hmovesW.endGrant_ring⟩, fun he => absurd he hend⟩
    · rw [hw]
      exact (honlyX.andThen (modStation_onlyChanges st _ x)).andThen (ring_onlyChanges _ _)
    · show w.rolls[st].map = _
      rw [hw]; exact hmapX
    · show w.stations[st].susp = _
      rw [hselfW]; rfl
    · show w.stations[st].state = _
      rw [hselfW]; rfl
    · show w.stations[st].rollCheck = _
      rw [hselfW]; rfl

end

include hnoted in
/-- A roll that agrees leaves READY (R189). -/
theorem Checks.free_ready (hp : s.stations[st].susp.phase = .boundary) (hpresent : flags.getLsbD 0 = true)
    (hstock : stock.toNat = m.stock) (hgate : gate.toNat = m.gate) (hr : recordAt m m.gate = none) (hnone : noted = none) :
    Completes (Machine.exec (.statusReplyReceived f.wire) s) fun u => OnlyChanges [.stations, .devices, .ring] s u
      ∧ OthersSame st s.stations u.stations ∧ u.stations[st].state = .ready
      ∧ u.stations[st].susp = ⟨.boundary, false, false, none, .awaiting⟩ ∧ u.ring = { s.ring with engine := none } := by
  obtain ⟨-, hset, hn, -⟩ := h.opens
  have hexec := h.exec_free hk hpay hparses hfree hpresent
  obtain ⟨y, hy, hmoves, honly, hself, hmap, hup⟩ := h.taken
  rw [hy, checkFree_ready hmap (u := (s.stations[st].latching (cameraReport flags stock gate).shot).susp) hp
    (agrees_iff.mpr ⟨hpresent, hstock, hgate⟩) hr (by rw [latched_noted, ← hnoted, hnone])] at hexec
  obtain ⟨w, hw⟩ : ∃ w, w = modStation st Station.readied y := ⟨_, rfl⟩
  have hselfW : w.stations[st] = s.stations[st].serving.readied := by rw [hw, modStation_self, hself]
  have hmovesW : MovesAt st s w := by rw [hw]; exact hmoves.trans (modStation_movesAt st _ y)
  rw [← hw] at hexec
  refine ⟨endGrant w, hmovesW.exec_idle hset hn (atRest_of_empty (by rw [hselfW]; nofun) (by rw [hselfW]; exact hfree.2)) hexec, ?_,
    hmovesW.stations, ?_, ?_, hmovesW.endGrant_ring⟩
  · rw [hw]
    exact (honly.andThen (modStation_onlyChanges st _ y)).andThen (ring_onlyChanges _ _)
  · show w.stations[st].state = _
    rw [hselfW]; rfl
  · show w.stations[st].susp = _
    rw [hselfW]; rfl

end

end Sys2Proof.Machine
end

section
/-! PROOFS. The other endings of a resume's check (R183, R190): the NAK and the WAIT, and the closes of a roll that the report does not
find as its map says. -/

namespace Sys2Proof.Machine

/-! ### A step of the resume fails, or waits (R73, R183) -/

section
variable {s : State} {t : Transaction} {st : St} {b : Binding} {d : Device} {m : RollMap} {f : LinkFrame} (h : Checks s t st b d m f)
include h

theorem Checks.ending (e : Ending) : stationEnding st t.purpose e (replyTaken t s) = resumeEnding st .resumeCheck .checking e (replyTaken t s) := by
  rw [h.purpose]
  exact (stationEnding_of_noPost (s := replyTaken t s) h.noPost e).2.2.2.1

theorem Checks.notElsewhere : ¬ ((replyTaken t s).stations[st].state ≠ .suspended ∨ (replyTaken t s).stations[st].susp.step ≠ .checking) := by
  rw [not_or, Decidable.not_not, Decidable.not_not]
  exact ⟨h.state, h.step⟩

/-- A NAK, or the 200th WAIT, fails the check: the fault is captured, and the release is owed (R183). -/
theorem Checks.fails {c : Instr} {x : FaultRecord} (hcap : s.capture.record = none) (hroom : Room s 1)
    (hexec : Machine.exec c s = .next (finish (failStep st true (offerFault x (replyTaken t s))))) :
    Completes (Machine.exec c s) fun u => OnlyChanges [.devices, .ring, .stations, .capture, .eventQueue, .port] s u
      ∧ u.ring = { s.ring with engine := none } ∧ OthersSame st s.stations u.stations
      ∧ u.stations[st].state = .suspended ∧ u.stations[st].waits = 0
      ∧ u.stations[st].susp = { s.stations[st].susp with step := .awaiting, releaseOwed := true }
      ∧ u.capture.record = some x := by
  obtain ⟨-, hset, hn, -⟩ := h.opens
  obtain ⟨p, hcaptured, -⟩ := offerFault_captured (s := replyTaken t s) hcap hroom x
  have hasks := set_none_of_none hn.2.1 st
  obtain ⟨u, hu⟩ : ∃ u, u = stepFailed st true (captured x p (replyTaken t s)) := ⟨_, rfl⟩
  have hself : u.stations[st] = s.stations[st].stepFailed true := by rw [hu]; exact upd_self _ _ _
  have hring : u.ring = { s.ring with engine := none } := by
    rw [hu]
    show { s.ring with asks := s.ring.asks.set st.val none st.isLt, engine := none } = _
    rw [hasks]
  have hsusp : u.stations[st].susp = { s.stations[st].susp with step := .awaiting, releaseOwed := true } := by
    have hfailed : s.stations[st].susp.failedPhase = s.stations[st].susp.phase := by rw [Suspension.failedPhase, h.step]
    rw [hself]
    show { s.stations[st].susp with
      step := .awaiting, phase := s.stations[st].susp.failedPhase, releaseOwed := s.stations[st].susp.releaseOwed || true } = _
    rw [hfailed, Bool.or_true]
  have hstate : u.stations[st].state = .suspended := by rw [hself]; exact h.state
  have hends : EndsAt st s u := by
    refine ⟨?_, ?_, ?_, ?_, atRest_of_owed hstate (by rw [hsusp])⟩
    · rw [hu]; exact othersSame_upd _ _ _
    · rw [hu]; exact othersSame_refl _ _
    · rw [hu]; rfl
    · rw [hu]; exact replyTaken_devices t s
  have hfin : finish u = u := hends.finish_idle hset hn (by rw [hu]; rfl) (by rw [hring]; exact hn.2.1) (by rw [hring]; exact hn.2.2.1)
  have hchanges : OnlyChanges [.stations, .ring] (captured x p (replyTaken t s)) u := by
    rw [hu]
    intro q hq
    cases q with
    | stations | ring => exact absurd (by decide) hq
    | _ => rfl
  have honly : OnlyChanges [.devices, .ring, .stations, .capture, .eventQueue, .port] s (captured x p (replyTaken t s)) :=
    ((replyTaken_onlyChanges t s).widen).andThen (captured_onlyChanges x p _)
  refine ⟨u, by rw [hexec, hcaptured, failStep_eq, ← hu, hfin], honly.andThen hchanges, hring, hends.stations, hstate, ?_, hsusp, ?_⟩
  · rw [hself]; rfl
  · rw [hu]; rfl

/-- The fault of a check's own transaction (R197). -/
theorem Checks.fault (kind : FaultKind) (reason : Option Byte) : ∃ x,
    transactionFault kind st .resumeCheck reason (replyTaken t s) = x ∧ x.kind = kind ∧ x.address = b.camera ∧ x.frameKind = 0x02
      ∧ x.station = some st ∧ x.nakReason = reason := by
  have hup : BoundUp (replyTaken t s) st b := h.camera.1.kept rfl (replyTaken_devices t s)
  refine ⟨_, rfl, rfl, ?_, rfl, rfl, rfl⟩
  exact hup.camera

theorem Checks.nak (hk : f.kind = 0x13) (hcap : s.capture.record = none) (hroom : Room s 1) :
    Completes (Machine.exec (.nakReceived f.wire) s) fun u =>
      OnlyChanges [.devices, .ring, .stations, .capture, .eventQueue, .port] s u
        ∧ u.ring = { s.ring with engine := none } ∧ OthersSame st s.stations u.stations
        ∧ u.stations[st].state = .suspended ∧ u.stations[st].waits = 0
        ∧ u.stations[st].susp = { s.stations[st].susp with step := .awaiting, releaseOwed := true }
        ∧ ∃ x, u.capture.record = some x ∧ x.kind = .deviceNak ∧ x.address = b.camera ∧ x.frameKind = 0x02
          ∧ x.station = some st ∧ x.nakReason = some (f.payload.headD 0) := by
  have hexec := exec_station_nak h.opens h.requester (by rw [h.purpose]; decide) (by rw [h.purpose]; decide) hk (reason := f.payload.headD 0) rfl
  have hend : resumeEnding st .resumeCheck .checking (.nak (f.payload.headD 0)) (replyTaken t s)
      = failStep st true (offerFault (transactionFault .deviceNak st .resumeCheck (some (f.payload.headD 0)) (replyTaken t s)) (replyTaken t s)) := by
    unfold resumeEnding
    simp only [if_neg h.notElsewhere, nakFault]
    rfl
  obtain ⟨x, hx, hspec⟩ := h.fault .deviceNak (some (f.payload.headD 0))
  rw [h.ending, hend, hx] at hexec
  obtain ⟨u, hexec', honly, hring, hst, hstate, hwaits, hsusp, hrec⟩ := h.fails hcap hroom hexec
  exact ⟨u, hexec', honly, hring, hst, hstate, hwaits, hsusp, x, hrec, hspec⟩

theorem Checks.ending_wait : resumeEnding st .resumeCheck .checking .wait (replyTaken t s) = if waitsOut (replyTaken t s) st then
      failStep st true (offerFault (transactionFault .waitLimit st .resumeCheck none (replyTaken t s)) (replyTaken t s))
    else startGap st .resumeCheck (replyTaken t s) := by
  unfold resumeEnding
  simp only [if_neg h.notElsewhere]

theorem Checks.waitLimit (hk : f.kind = 0x12) (hwaits : 199 ≤ s.stations[st].waits) (hcap : s.capture.record = none) (hroom : Room s 1) :
    Completes (Machine.exec (.waitReceived f.wire) s) fun u =>
      OnlyChanges [.devices, .ring, .stations, .capture, .eventQueue, .port] s u
        ∧ u.ring = { s.ring with engine := none } ∧ OthersSame st s.stations u.stations
        ∧ u.stations[st].state = .suspended ∧ u.stations[st].waits = 0
        ∧ u.stations[st].susp = { s.stations[st].susp with step := .awaiting, releaseOwed := true }
        ∧ ∃ x, u.capture.record = some x ∧ x.kind = .waitLimit ∧ x.address = b.camera ∧ x.frameKind = 0x02
          ∧ x.station = some st ∧ x.nakReason = none := by
  have hexec := exec_station_wait h.opens h.requester (by rw [h.purpose]; decide) (by rw [h.purpose]; decide) hk
  have hout : waitsOut (replyTaken t s) st = true := waitsOut_iff.mpr hwaits
  obtain ⟨x, hx, hspec⟩ := h.fault .waitLimit none
  rw [h.ending, h.ending_wait, hout, if_pos rfl, hx] at hexec
  obtain ⟨u, hexec', honly, hring, hst, hstate, hwaits, hsusp, hrec⟩ := h.fails hcap hroom hexec
  exact ⟨u, hexec', honly, hring, hst, hstate, hwaits, hsusp, x, hrec, hspec⟩

theorem Checks.waits (hk : f.kind = 0x12) (hwaits : s.stations[st].waits < 199) :
    Completes (Machine.exec (.waitReceived f.wire) s) fun u => OnlyChanges [.devices, .ring, .stations] s u
      ∧ u.ring = { s.ring with engine := none } ∧ OthersSame st s.stations u.stations
      ∧ u.stations[st] = { s.stations[st] with waits := s.stations[st].waits + 1, gap := some .resumeCheck } := by
  obtain ⟨-, hset, hn, -⟩ := h.opens
  have hexec := exec_station_wait h.opens h.requester (by rw [h.purpose]; decide) (by rw [h.purpose]; decide) hk
  have hout : waitsOut (replyTaken t s) st = false := waitsOut_eq_false hwaits
  rw [h.ending, h.ending_wait, hout, if_neg Bool.false_ne_true, startGap, finish_replyTaken_mod hset hn st rfl rfl rfl rfl rfl] at hexec
  exact ⟨_, hexec, ((replyTaken_modStation_onlyChanges t st _ s).widen), rfl, othersSame_upd _ _ _, modStation_self _ _ _⟩

end

/-! ### A roll is closed without a request (R189, R190) -/

section
variable {s : State} {st : St} {m : RollMap} {r : CameraReport} {u : Suspension} (hm : s.rolls[st].map = some m)
include hm

/-- A report that is none of those that the check without a request expects (R189). -/
theorem checkFree_mismatch (hp : u.phase ≠ .unload) (hbad : sameRoll r m = false
      ∨ u.phase = .boundary ∧ (r.gate ≠ m.gate ∨ (recordAt m m.gate).isSome = true ∨ u.notedShot.isSome = true)
      ∨ u.phase ∈ [SuspendedPhase.advance, .advanceWait] ∧ (isMarked m m.gate = false ∨ r.gate ≠ m.gate ∧ r.gate ≠ m.gate + 1)) :
    checkFree st u r s = closeMismatch st r s := by
  have hboundary (h : u.phase = .boundary) :
      (sameRoll r m && r.gate == m.gate && (recordAt m m.gate).isNone && u.notedShot.isNone) = false := by
    rcases hbad with h1 | ⟨-, h1 | h1 | h1⟩ | ⟨h1, -⟩
    · rw [h1]; simp
    · rw [beq_false_of_ne h1]; simp
    · rw [Option.isNone_eq_false_iff.mpr h1]; simp
    · rw [Option.isNone_eq_false_iff.mpr h1]; simp
    · rw [h] at h1; simp at h1
  have hadvance (h : u.phase ∈ [SuspendedPhase.advance, .advanceWait]) :
      (sameRoll r m && isMarked m m.gate && r.gate == m.gate) = false
        ∧ (sameRoll r m && isMarked m m.gate && r.gate == m.gate + 1) = false := by
    rcases hbad with h1 | ⟨h1, -⟩ | ⟨-, h1 | ⟨h1, h2⟩⟩
    · rw [h1]; simp
    · rw [h1] at h; simp at h
    · rw [h1]; simp
    · rw [beq_false_of_ne h1, beq_false_of_ne h2]; simp
  unfold checkFree
  simp only [hm]
  split
  · next h => exact absurd h hp
  · next h =>
    obtain ⟨h1, h2⟩ := hadvance (by rw [h]; decide)
    rw [h1, h2, if_neg Bool.false_ne_true, if_neg Bool.false_ne_true]
  · next h =>
    obtain ⟨h1, h2⟩ := hadvance (by rw [h]; decide)
    rw [h1, h2, if_neg Bool.false_ne_true, if_neg Bool.false_ne_true]
  · next h => rw [hboundary h, if_neg Bool.false_ne_true]
  all_goals rfl

end

section
variable {s : State} {t : Transaction} {st : St} {b : Binding} {d : Device} {m : RollMap} {f : LinkFrame} (h : Checks s t st b d m f)
  {flags stock gate : Byte} (hk : f.kind = 0x14) (hpay : f.payload = [flags, stock, gate]) (hparses : StatusParses .camera f.payload)
  (hfree : HoldsNone s st) {slot : Fin 320} (hh : m.header = some slot) (hreq : s.rolls[st].headerRequest = false)
  (hno : ∀ r ∈ m.frames, r.state ≠ .reserved) (hstrips : s.composer.strips ≠ []) (hroom : Room s 2)
include h hk hpay hparses hfree hh hreq hno hstrips hroom

theorem Checks.closes_mismatch (hcap : s.capture.record = none) {shot : Option Bool}
    (hshot : shot = if flags.getLsbD 1 then some (flags.getLsbD 2) else s.stations[st].susp.notedShot)
    (hp : s.stations[st].susp.phase ≠ .unload) (hbad : flags.getLsbD 0 = false ∨ stock.toNat ≠ m.stock
      ∨ s.stations[st].susp.phase = .boundary ∧ (gate.toNat ≠ m.gate ∨ (recordAt m m.gate).isSome = true ∨ shot.isSome = true)
      ∨ s.stations[st].susp.phase ∈ [SuspendedPhase.advance, .advanceWait]
        ∧ (isMarked m m.gate = false ∨ gate.toNat ≠ m.gate ∧ gate.toNat ≠ m.gate + 1)) :
    Completes (Machine.exec (.statusReplyReceived f.wire) s) fun u =>
      OnlyChanges [.devices, .ring, .rolls, .composer, .stations, .capture, .eventQueue, .port] s u
        ∧ u.ring = { s.ring with engine := none } ∧ OthersSame st s.rolls u.rolls
        ∧ OthersSame st s.stations u.stations ∧ RollLess s.stations[st] u.stations[st]
        ∧ u.rolls[st] = ⟨none, s.rolls[st].counter, flags.getLsbD 0, flags.getLsbD 0 && s.rolls[st].insertionReported, false,
            some .mismatch⟩
        ∧ StripReleased s u st m slot .mismatch ∧ u.capture.record = some (mismatchFault st b.camera)
        ∧ Posted s u [.event 0 (.faultNotice (mismatchFault st b.camera)), closeReport st m .mismatch] := by
  obtain ⟨-, -, hn, -⟩ := h.opens
  obtain ⟨hst, hmap⟩ := h.noteRollStatus_facts (flags.getLsbD 0)
  have hmapT : (checkTaken st (flags.getLsbD 0) t s).rolls[st].map = some m := (congrArg RollRec.map (checkTaken_roll st _ t)).trans h.map
  have hself := checkTaken_station st (flags.getLsbD 0) t (s := s)
  have hmoves := checkTaken_movesAt st (flags.getLsbD 0) t (hn.2.1 st)
  have hexpects : sameRoll (cameraReport flags stock gate) m = false
      ∨ s.stations[st].susp.phase = .boundary
        ∧ ((cameraReport flags stock gate).gate ≠ m.gate ∨ (recordAt m m.gate).isSome = true ∨ shot.isSome = true)
      ∨ s.stations[st].susp.phase ∈ [SuspendedPhase.advance, .advanceWait]
        ∧ (isMarked m m.gate = false ∨ (cameraReport flags stock gate).gate ≠ m.gate ∧ (cameraReport flags stock gate).gate ≠ m.gate + 1) := by
    by_cases hpresent : flags.getLsbD 0 = true
    · rw [cameraReport_gate hpresent]
      rcases hbad with hb | hb | hb
      · exact nomatch hpresent.symm.trans hb
      · refine .inl (Bool.eq_false_iff.mpr fun hc => hb ?_)
        rw [← cameraReport_stock hpresent stock gate]
        exact (sameRoll_iff.mp hc).2
      · exact .inr hb
    · exact .inl (Bool.eq_false_iff.mpr fun hc => hpresent (sameRoll_iff.mp hc).1)
  have hreport : stationReport st (cameraReport flags stock gate) (noted t s)
      = closeMismatch st (cameraReport flags stock gate) (checkTaken st (flags.getLsbD 0) t s) := by
    rw [stationReport_suspended (s := noted t s) h.noPost h.state, cameraReport_present,
      suspendedReport_serves hmap h.open_ (by rw [hst]; exact h.step) (fun hu => hp (by rw [← hst]; exact hu.1)), serveCheck_latched, hst,
      if_neg (by rw [hfree.1]; exact Bool.false_ne_true)]
    refine checkFree_mismatch hmapT hp ?_
    rw [latched_noted, ← hshot]
    exact hexpects
  refine mismatch_closes h.opens (h.exec hk hpay hparses) ⟨(checkTaken_onlyChanges st _ t).widen, hmoves.stations, hmoves.rolls, hmoves.ring, ?_⟩
    h.camera.1 hreport ?_ hmapT h.open_ hno (by rw [hself]; exact h.noPost) ?_ (by rw [hself]; rfl)
    (by rw [checkTaken_roll]) (by rw [checkTaken_roll]; rfl) hreq hh hstrips hcap hroom
  · exact noteRollStatus_onlyChanges st (flags.getLsbD 0) (noted t s) .devices (by decide)
  · have hempty : (checkTaken st (flags.getLsbD 0) t s).stations[st].queue = [] := by rw [hself]; exact hfree.2
    simp only [headHolds, headOf_of_empty hempty]
  · rintro ⟨-, hheld⟩
    rw [hself] at hheld
    exact nomatch hheld.symm.trans hfree.1

/-- The state in which a report of no roll ends the unload of a SUSPENDED station (R185). -/
def unloadEnded (st : St) (r : CameraReport) (t : Transaction) (s : State) : State :=
  modStation st (fun x => { x with susp := { x.susp with step := .awaiting } })
    (modStation st (Station.latching r.shot) (noteRollStatus st false (noted t s)))

theorem Checks.closes_unloaded (hp : s.stations[st].susp.phase = .unload) (habsent : flags.getLsbD 0 = false) :
    Completes (Machine.exec (.statusReplyReceived f.wire) s) fun u =>
      OnlyChanges [.devices, .ring, .rolls, .composer, .stations, .capture, .eventQueue, .port] s u
        ∧ u.ring = { s.ring with engine := none } ∧ OthersSame st s.rolls u.rolls
        ∧ OthersSame st s.stations u.stations ∧ RollLess s.stations[st] u.stations[st]
        ∧ u.rolls[st] = ⟨none, s.rolls[st].counter, false, false, false, some .unloaded⟩
        ∧ StripReleased s u st m slot .unloaded ∧ u.capture = s.capture ∧ Posted s u [closeReport st m .unloaded] := by
  obtain ⟨r, hr⟩ : ∃ r, r = cameraReport flags stock gate := ⟨_, rfl⟩
  have hexec := h.exec hk hpay hparses
  rw [← hr] at hexec
  have hpresent : r.present = false := by rw [hr]; exact habsent
  obtain ⟨hst, hmap⟩ := h.noteRollStatus_facts false
  have hreport : stationReport st r (noted t s) = closeRoll st .unloaded (unloadEnded st r t s) := by
    rw [stationReport_suspended (s := noted t s) h.noPost h.state, hpresent,
      suspendedReport_unloaded hmap h.open_ ⟨by rw [hst]; exact hp, hpresent⟩]
    rfl
  obtain ⟨y, hy⟩ : ∃ y, y = unloadEnded st r t s := ⟨_, rfl⟩
  have honly : OnlyChanges [.devices, .rolls, .stations] s y := by
    rw [hy]
    exact ((((noted_onlyChanges t s).widen).andThen (noteRollStatus_onlyChanges st false _)).andThen
      (modStation_onlyChanges st _ _)).andThen (modStation_onlyChanges st _ _)
  have hstations : y.stations = upd (upd s.stations st (Station.latching r.shot)) st
      (fun x => { x with susp := { x.susp with step := .awaiting } }) := by
    rw [hy, unloadEnded, modStation_stations, modStation_stations, hst]
  have hself : y.stations[st].rollLess = s.stations[st].rollLess := by rw [hstations, upd_self, upd_self]; rfl
  have hrolls : y.rolls = (noteRollStatus st false (noted t s)).rolls := by rw [hy]; rfl
  have hroll : y.rolls[st] = { s.rolls[st] with removalRequired := false, insertionReported := false } := by
    rw [hrolls, noteRollStatus_roll]; rfl
  have hdev : y.devices = (noted t s).devices := by rw [hy]; rfl
  have hup : BoundUp y st b := h.camera.1.kept (by rw [honly .bindings (by decide)]) (by rw [hdev]; exact noted_devices t s)
  have hcomposer : y.composer = s.composer := honly .composer (by decide)
  have hport : y.port = s.port := honly .port (by decide)
  obtain ⟨p, w, v, htransmits, hv, hw, hclose⟩ := closeRoll_header (s := y) (reason := .unloaded) (by rw [hrolls]; exact hmap) h.open_ hno
    (by rw [hstations, upd_self, upd_self]; exact h.noPost)
    (by
      rw [hstations, upd_self, upd_self]
      exact fun hc => nomatch hc.2.symm.trans hfree.1)
    hup.2 ((hroom.mono (by decide)).congr (honly .eventQueue (by decide))) (by rw [hroll]; exact hreq) hh (by rw [hcomposer]; exact hstrips)
  rw [← hy, hclose] at hreport
  obtain ⟨hexec', hring⟩ := exec_rollGone h.opens hexec hreport
    (fun st' hne => by rw [hstations]; exact (upd_ne _ _ _ _ hne).trans (upd_ne _ _ _ _ hne))
    (fun st' hne => by rw [hrolls]; exact noteRollStatus_othersSame st false (noted t s) st' hne)
    (honly .bindings (by decide)) (honly .slot (by decide)) (honly .ring (by decide)) (by rw [← hdev]; exact hv)
  rw [hcomposer] at hw
  refine ⟨_, hexec', ?_, hring, ?_, ?_, rollLess_of_gone hself, roll_of_gone (by rw [hroll]; rfl), ⟨by rw [← hcomposer]; rfl, hw⟩, ?_, ?_, ?_⟩
  · exact ((honly.widen).andThen (rollGone_onlyChanges st _ _ _ _ _ y)).andThen (ring_onlyChanges _ _)
  · intro st' hne
    refine (othersSame_upd _ _ _ st' hne).trans ?_
    rw [hrolls]; exact noteRollStatus_othersSame st false (noted t s) st' hne
  · intro st' hne
    refine (othersSame_upd _ _ _ st' hne).trans ?_
    rw [hstations]; exact (upd_ne _ _ _ _ hne).trans (upd_ne _ _ _ _ hne)
  · show y.capture = _
    exact honly .capture (by decide)
  · show { y.eq with records := y.eq.records ++ [closeReport st m .unloaded] } = _
    rw [honly .eventQueue (by decide)]
  · unfold Transmits at htransmits ⊢
    rw [hport] at htransmits
    exact htransmits

end

/-! ### A close that releases the frames of a held request (R36, R40) -/

/-- The map of a close that begins: the frames from the first RESERVED one up have left it (R36, R40). -/
def RollMap.closed (m : RollMap) (reason : CloseReason) (first : Nat) : RollMap :=
  { m with closing := some reason, frames := m.frames.filter (fun r => decide (r.number < first)), next := first }

/-- The number of a map's first RESERVED frame; the next frame to reserve when it holds none (R40). -/
def RollMap.firstReserved (m : RollMap) : Nat := ((m.frames.find? fun r => r.state == .reserved).map (·.number)).getD m.next

/-- The marked frames of a map are those below its first RESERVED one (R31, R36). -/
def RollMap.MarkedBelow (m : RollMap) : Prop := ∀ r ∈ m.frames, r.state ≠ .reserved ↔ r.number < m.firstReserved

theorem modMap_roll {s : State} {st : St} {m : RollMap} (h : s.rolls[st].map = some m) (f : RollMap → RollMap) :
    (modMap st f s).rolls[st] = { s.rolls[st] with map := some (f m) } := by
  rw [modMap_rolls, upd_self, h]; rfl

/-- A release leaves the strip list as it is (R36). -/
theorem releaseRecords_strips (l : List FrameRec) {s : State} (h : NoLabelWait s) :
    (l.foldl (fun s r => releaseRecord r s) s).composer.strips = s.composer.strips := by
  induction l generalizing s with
  | nil => rfl
  | cons r l ih =>
    have hhold := releaseHold_onlyChanges r s
    have hstrips : (releaseRecord r s).composer.strips = s.composer.strips := by
      rw [releaseRecord_eq, freeSlot_of_noWait (h.congr (hhold .composer (by decide)))]
      show (releaseHold r s).composer.strips = _
      rw [hhold .composer (by decide)]
    exact (ih (releaseRecord_spec h r).2).trans hstrips

theorem releaseRun_strips {s : State} (h : NoLabelWait s) (st : St) (m : RollMap) (f : Nat) :
    (releaseRun st m f s).composer.strips = s.composer.strips := by
  rw [releaseRun]
  split
  · rfl
  · next r rest _ =>
    have hmap : OnlyChanges [.rolls] s (modMap st (fun m' =>
      { m' with frames := m'.frames.filter fun r => decide (r.number < releaseStart m f), next := releaseStart m f }) s) :=
      modMap_onlyChanges st _ s
    dsimp only
    rw [reportOrder_onlyChanges _ _ _ .composer (by decide), releaseRecords_strips _ (h.congr (hmap .composer (by decide))),
      hmap .composer (by decide)]

section
variable {s : State} {st : St} {m : RollMap} (hm : s.rolls[st].map = some m) (hl : NoLabelWait s)
  (hreq : s.rolls[st].headerRequest = false) (hmarked : m.MarkedBelow) (hasks : s.ring.asks[st] = none)
include hm hl hreq hmarked hasks

/-- The close of a roll has begun: its RESERVED frames are released, and the map is closing (R40, step 1). -/
theorem beginClose_released (reason : CloseReason) : ∃ u, beginClose st reason (stopped st s) = u ∧ MovesAt st s u
    ∧ OnlyChanges [.stations, .ring, .rolls, .orders, .accounts, .composer] s u ∧ OrdersKept s u
    ∧ u.stations[st] = s.stations[st].quiet ∧ u.composer.strips = s.composer.strips
    ∧ u.rolls[st] = { s.rolls[st] with map := some (m.closed reason m.firstReserved) } := by
  have hbegun : MovesAt st s (closeBegun st reason s) :=
    ((modStation_movesAt st Station.quiet s).trans (dropAsk_movesAt (s := modStation st Station.quiet s) hasks)).trans
      (modMap_movesAt st _ _)
  have honly := closeBegun_onlyChanges st reason s
  have hroll : (closeBegun st reason s).rolls[st] = { s.rolls[st] with map := some { m with closing := some reason } } :=
    modMap_roll (s := stopped st s) hm _
  cases hlow : m.frames.find? (fun r => r.state == .reserved) with
  | none =>
    have hfirst : m.firstReserved = m.next := by rw [RollMap.firstReserved, hlow]; rfl
    have hno : ∀ r ∈ m.frames, r.state ≠ .reserved := fun r hr => by simpa using List.find?_eq_none.mp hlow r hr
    have hclosed : m.closed reason m.firstReserved = { m with closing := some reason } := by
      have hfilter : m.frames.filter (fun r => decide (r.number < m.firstReserved)) = m.frames :=
        List.filter_eq_self.mpr fun r hr => decide_eq_true ((hmarked r hr).mp (hno r hr))
      rw [RollMap.closed, hfilter, hfirst]
    refine ⟨_, beginClose_stopped hm hno hreq, hbegun, honly.widen, .of_same (honly .orders (by decide)), closeBegun_station st reason s,
      by rw [honly .composer (by decide)], ?_⟩
    rw [hroll, hclosed]
  | some r =>
    have hlowest : lowestReserved m = some r.number := by rw [lowestReserved, hlow]; rfl
    have hfirst : m.firstReserved = r.number := by rw [RollMap.firstReserved, hlow]; rfl
    have hmem : r ∈ m.frames := List.mem_of_find?_eq_some hlow
    have hstart : releaseStart { m with closing := some reason } r.number = r.number := by
      refine if_neg fun hc => ?_
      obtain ⟨x, hx, hxs⟩ := record_of_marked hc
      have hlt := (hmarked x (List.mem_of_find?_eq_some hx)).mp hxs
      have hnum : x.number = r.number := by simpa using List.find?_some hx
      rw [hfirst, hnum] at hlt
      exact absurd hlt (Nat.lt_irrefl _)
    have hany : m.frames.any (fun x => decide (r.number ≤ x.number)) = true :=
      List.any_eq_true.mpr ⟨r, hmem, decide_eq_true (Nat.le_refl _)⟩
    have hlC : NoLabelWait (closeBegun st reason s) := hl.congr (honly .composer (by decide))
    obtain ⟨konly, -, korders, krolls⟩ := releaseRun_released (m := { m with closing := some reason }) (by rw [hroll]) hlC r.number
    have hbegin : beginClose st reason (stopped st s) = releaseRun st { m with closing := some reason } r.number (closeBegun st reason s) := by
      have hmS : (stopped st s).rolls[st].map = some m := hm
      have hrun : (releaseRun st m r.number (closeBegun st reason s)).rolls[st].headerRequest = false := by
        show (releaseRun st { m with closing := some reason } r.number (closeBegun st reason s)).rolls[st].headerRequest = false
        rw [krolls, upd_self, hroll]
        exact hreq
      unfold beginClose
      simp only [hmS, hlowest]
      rw [show (modMap st (fun m => { m with closing := some reason }) (stopped st s)) = closeBegun st reason s from rfl, hrun,
        if_neg Bool.false_ne_true]
      rfl
    obtain ⟨u, hu⟩ : ∃ u, u = releaseRun st { m with closing := some reason } r.number (closeBegun st reason s) := ⟨_, rfl⟩
    have hstrips := releaseRun_strips hlC st { m with closing := some reason } r.number
    rw [← hu] at hbegin konly korders krolls hstrips
    refine ⟨u, hbegin, ?_, (honly.widen).andThen konly, (OrdersKept.of_same (honly .orders (by decide))).trans korders, ?_, ?_, ?_⟩
    · have hdev : u.devices = (closeBegun st reason s).devices := konly .devices (by decide)
      refine hbegun.trans ⟨by rw [konly .stations (by decide)]; exact othersSame_refl _ _, by rw [krolls]; exact othersSame_upd _ _ _,
        konly .bindings (by decide), by rw [hdev]; exact .refl _, by rw [hdev]; exact .refl _, konly .ring (by decide),
        konly .slot (by decide), konly .pins (by decide)⟩
    · rw [konly .stations (by decide)]; exact closeBegun_station st reason s
    · rw [hstrips, honly .composer (by decide)]
    · rw [krolls, upd_self, hroll, hstart, hfirst]
      simp only [RollMap.released, RollMap.closed, hany, if_true]

end

/-- The ROLL_REPORT of a map whose RESERVED frames have been released (R40, step 2). -/
theorem closed_report (st : St) {m : RollMap} (hmarked : m.MarkedBelow) (reason : CloseReason) :
    Record.event 0 (rollReportEvent st (m.closed reason m.firstReserved) reason)
      = .event 0 (.rollReport st m.roll m.stock reason (m.firstReserved - 1) (m.frames.countP fun r => r.state == .exposed)
          ((m.frames.countP fun r => r.state != .reserved) - m.frames.countP fun r => r.state == .exposed) m.header.isSome) := by
  have hbelow (r : FrameRec) (hr : r ∈ m.frames) : decide (r.number < m.firstReserved) = (r.state != .reserved) := by
    rw [Bool.eq_iff_iff, decide_eq_true_iff, bne_iff_ne]
    exact (hmarked r hr).symm
  have hfilter : m.frames.filter (fun r => decide (r.number < m.firstReserved)) = m.frames.filter (fun r => r.state != .reserved) :=
    List.filter_congr hbelow
  have hno : ∀ r ∈ (m.closed reason m.firstReserved).frames, r.state ≠ .reserved := by
    intro r hr
    have hr' : r ∈ m.frames.filter (fun r => decide (r.number < m.firstReserved)) := hr
    rw [hfilter] at hr'
    exact bne_iff_ne.mp (List.mem_filter.mp hr').2
  have hexposed : (m.frames.filter fun r => r.state != .reserved).countP (fun r => r.state == .exposed)
      = m.frames.countP fun r => r.state == .exposed := by
    rw [List.countP_filter]
    refine List.countP_congr fun r _ => ?_
    cases r.state <;> simp
  have hspoiled : (m.frames.filter fun r => r.state != .reserved).countP (fun r => r.state != .exposed)
      = (m.frames.countP fun r => r.state != .reserved) - m.frames.countP fun r => r.state == .exposed := by
    have hall := List.length_eq_countP_add_countP (fun r : FrameRec => r.state == .exposed)
      (l := m.frames.filter fun r => r.state != .reserved)
    rw [hexposed, ← List.countP_eq_length_filter] at hall
    have hsame : (m.frames.filter fun r => r.state != .reserved).countP (fun r => decide ¬(r.state == .exposed) = true)
        = (m.frames.filter fun r => r.state != .reserved).countP (fun r => r.state != .exposed) :=
      List.countP_congr fun r _ => by simp
    omega
  rw [rollReportEvent_eq st hno, closeReport]
  show Record.event 0 (.rollReport st m.roll m.stock reason (m.firstReserved - 1)
    ((m.frames.filter fun r => decide (r.number < m.firstReserved)).countP fun r => r.state == .exposed)
    ((m.frames.filter fun r => decide (r.number < m.firstReserved)).countP fun r => r.state != .exposed) m.header.isSome) = _
  rw [hfilter, hexposed, hspoiled]

/-- A close whose ROLL_REPORT finds room ends the request that its SUSPENDED station holds (R40, R190). -/
theorem closeRoll_held {s : State} {st : St} {m : RollMap} {slot : Fin 320} (hm : s.rolls[st].map = some m) (hc : m.closing = none)
    (hl : NoLabelWait s) (hreq : s.rolls[st].headerRequest = false) (hmarked : m.MarkedBelow) (hasks : s.ring.asks[st] = none)
    (hh : m.header = some slot) (hstrips : s.composer.strips ≠ []) (hpost : s.stations[st].pendingPost = none)
    (hheld : s.stations[st].state = .suspended ∧ s.stations[st].susp.requestHeld = true) (hroom : Room s 1) (reason : CloseReason) :
    ∃ z, closeRoll st reason s = endRequest st .mismatch z ∧ MovesAt st s z
      ∧ OnlyChanges [.stations, .ring, .rolls, .orders, .accounts, .composer, .eventQueue, .port] s z ∧ OrdersKept s z
      ∧ z.stations[st] = s.stations[st].quiet ∧ z.rolls[st] = s.rolls[st].discarded reason
      ∧ Posted s z [.event 0 (rollReportEvent st (m.closed reason m.firstReserved) reason)] := by
  obtain ⟨u, hbegin, hmoves, honly, horders, hself, hstripsU, hroll⟩ := beginClose_released hm hl hreq hmarked hasks reason
  obtain ⟨r, hr⟩ : ∃ r, r = Record.event 0 (rollReportEvent st (m.closed reason m.firstReserved) reason) := ⟨_, rfl⟩
  have hclose := closeRoll_of_begun hm hc hbegin (m' := m.closed reason m.firstReserved) (by rw [hroll])
  have hroomU : Room u 1 := hroom.congr (honly .eventQueue (by decide))
  rw [if_pos (canPost_of_room hroomU), ← hr] at hclose
  obtain ⟨p, hjoin, htransmits⟩ := joinTail_eq r u
  obtain ⟨y, hy⟩ : ∃ y : State, y = { u with port := p, eq := { u.eq with records := u.eq.records ++ [r] } } := ⟨_, rfl⟩
  have honlyY : OnlyChanges [.eventQueue, .port] u y := by
    rw [hy]
    intro q hq
    cases q with
    | eventQueue | port => exact absurd (by decide) hq
    | _ => rfl
  rw [← hy] at hjoin
  obtain ⟨w, hdiscard, -⟩ := discardMap_header (s := y) (st := st) (m := m.closed reason m.firstReserved) (reason := reason)
    (by rw [honlyY .rolls (by decide), hroll]) rfl hh (by rw [honlyY .composer (by decide), hstripsU]; exact hstrips)
  obtain ⟨z, hz⟩ : ∃ z, z = discardMap st y := ⟨_, rfl⟩
  have honlyZ : OnlyChanges [.rolls, .composer] y z := by
    rw [hz, hdiscard]
    exact ((modComposer_onlyChanges _ y).widen).andThen (modRoll_onlyChanges st _ _)
  have hselfZ : z.stations[st] = s.stations[st].quiet := by
    rw [honlyZ .stations (by decide), honlyY .stations (by decide), hself]
  have hended : rollClosed st z = endRequest st .mismatch z := by
    unfold rollClosed
    dsimp only
    rw [hselfZ, if_neg (by show ¬ s.stations[st].pendingPost.isSome = true; rw [hpost]; exact Bool.false_ne_true)]
    exact if_pos hheld
  have hrollsZ : z.rolls = upd y.rolls st (RollRec.discarded reason) := by rw [hz, hdiscard]; rfl
  have hdevZ : z.devices = y.devices := honlyZ .devices (by decide)
  refine ⟨z, by rw [hclose, hjoin, ← hz, hended], ?_, ((honly.widen).andThen honlyY).andThen honlyZ,
    horders.trans (.of_same ((honlyZ .orders (by decide)).trans (honlyY .orders (by decide)))), hselfZ, ?_, ?_, ?_⟩
  · refine (hmoves.trans (movesAt_of_only honlyY (by decide) st)).trans ⟨?_, ?_, honlyZ .bindings (by decide), ?_, ?_,
      honlyZ .ring (by decide), honlyZ .slot (by decide), honlyZ .pins (by decide)⟩
    · rw [honlyZ .stations (by decide)]; exact othersSame_refl _ _
    · rw [hrollsZ]; exact othersSame_upd _ _ _
    · rw [hdevZ]; exact .refl _
    · rw [hdevZ]; exact .refl _
  · rw [hrollsZ, upd_self, honlyY .rolls (by decide), hroll]; rfl
  · rw [honlyZ .eventQueue (by decide), hy, ← honly .eventQueue (by decide), hr]
  · unfold Transmits at htransmits ⊢
    rw [honly .port (by decide)] at htransmits
    rw [honlyZ .port (by decide), hy]
    exact htransmits

/-- A station without a roll and without requests drives nothing any more when its request has ended (R64, R83). -/
theorem afterRequest_rollLess {s : State} {st : St} (hend : s.stations[st].rollEnd = false) (hm : s.rolls[st].map = none)
    (hq : s.stations[st].queue = []) (hup : bothUp s st = true) (leftUp : Bool) : ∃ v, DevicesKept s.devices v
      ∧ afterRequest st leftUp s = rollLess st v s := by
  obtain ⟨v, hv, he⟩ := enterRollLess_rollLess hup
  rw [modHead_of_empty hq] at he
  refine ⟨v, hv, ?_⟩
  simp only [afterRequest, hend, hm, Bool.false_eq_true, if_false]
  exact he

/-! ### A report closes the roll of a held request (R190) -/

theorem Room.posted {s t : State} {n : Nat} {r : Record} (h : Room s (n + 1)) (ht : t.eq = { s.eq with records := s.eq.records ++ [r] }) :
    Room t n := by
  obtain ⟨hgiven, hplaces⟩ := h
  refine ⟨by rw [ht]; exact hgiven, ?_⟩
  rw [ht, List.length_append, List.length_singleton]
  show s.eq.records.length + 1 + s.eq.reserved + n ≤ _
  omega

/-- Records posted one act after another (R177). -/
theorem Posted.trans {s t u : State} {l k : List Record} (h : Posted s t l) (h' : Posted t u k) : Posted s u (l ++ k) := by
  obtain ⟨hs, ht⟩ := h
  obtain ⟨hs', ht'⟩ := h'
  exact ⟨by rw [hs', hs, List.append_assoc], ht.trans ht'⟩

theorem Posted.congr {s s' t t' : State} {l : List Record} (h : Posted s t l) (hs : s'.eq = s.eq ∧ s'.port = s.port)
    (ht : t'.eq = t.eq ∧ t'.port = t.port) : Posted s' t' l := by
  unfold Posted Transmits at h ⊢
  rw [hs.1, hs.2, ht.1, ht.2]
  exact h

/-- The fault of a report that closes the roll of a held request (R190). -/
def heldMismatch (st : St) (b : Binding) (q : Request) (m : RollMap) : FaultRecord :=
  ⟨.gateMismatch, b.camera, 0x02, some st, some q.order, some m.gate, none⟩

section
variable {s : State} {t : Transaction} {st : St} {b : Binding} {d : Device} {m : RollMap} {f : LinkFrame} (h : Checks s t st b d m f)
  {flags stock gate : Byte} (hk : f.kind = 0x14) (hpay : f.payload = [flags, stock, gate]) (hparses : StatusParses .camera f.payload)
  {q : Request} {z : Reserved} {i : Fin 16} {o : Order} (hheld : HoldsRequest s st m q z i o)
include h hk hpay hparses hheld

/-- A report that the check of a held request does not expect closes the roll (R190). -/
theorem Checks.exec_mismatch (hbad : flags.getLsbD 0 = false ∨ stock.toNat ≠ m.stock ∨ gate.toNat ≠ m.gate
      ∧ (gate.toNat ≠ m.gate + 1 ∨ s.stations[st].susp.phase ∉ [SuspendedPhase.advance, .advanceWait])) :
    Machine.exec (.statusReplyReceived f.wire) s = .next (finish (endGrant (
      closeMismatch st (cameraReport flags stock gate) (checkTaken st (flags.getLsbD 0) t s)))) := by
  have hno (hc : flags.getLsbD 0 = true ∧ stock.toNat = m.stock) (hg : gate.toNat = m.gate ∨ gate.toNat = m.gate + 1
      ∧ s.stations[st].susp.phase ∈ [SuspendedPhase.advance, .advanceWait]) : False := by
    rcases hbad with hb | hb | ⟨hb, hb'⟩
    · exact nomatch hc.1.symm.trans hb
    · exact hb hc.2
    · exact hg.elim hb fun hg => hb'.elim (fun hn => hn hg.1) fun hn => hn hg.2
  rw [h.exec_held hk hpay hparses hheld, checkHeld_mismatch (hheld.checkTaken_holds h.map h.open_ _)
    (Bool.eq_false_iff.mpr fun hc => hno ⟨(agrees_iff.mp hc).1, (agrees_iff.mp hc).2.1⟩ (.inl (agrees_iff.mp hc).2.2))]
  rintro ⟨hroll, hg, hp⟩
  have hpresent : flags.getLsbD 0 = true := (sameRoll_iff.mp hroll).1
  have hst := (sameRoll_iff.mp hroll).2
  rw [cameraReport_stock hpresent] at hst
  rw [cameraReport_gate hpresent] at hg
  exact hno ⟨hpresent, hst⟩ (.inr ⟨hg, hp⟩)

/-- What is left when the roll of a held request has closed for MISMATCH: the fault, the ROLL_REPORT and the REQUEST_DONE are posted, and
the station drives nothing any more (R190). -/
theorem Checks.held_mismatch {slot : Fin 320} (hbad : flags.getLsbD 0 = false ∨ stock.toNat ≠ m.stock ∨ gate.toNat ≠ m.gate
      ∧ (gate.toNat ≠ m.gate + 1 ∨ s.stations[st].susp.phase ∉ [SuspendedPhase.advance, .advanceWait]))
    (hh : m.header = some slot) (hreq : s.rolls[st].headerRequest = false) (hl : NoLabelWait s) (hstrips : s.composer.strips ≠ [])
    (hcap : s.capture.record = none) (hroom : Room s 3) (hq : s.stations[st].queue = [q]) (hmarked : m.MarkedBelow) :
    Completes (Machine.exec (.statusReplyReceived f.wire) s) fun u =>
      OthersSame st s.stations u.stations ∧ OthersSame st s.rolls u.rolls ∧ u.ring.engine = none
        ∧ u.rolls[st] = ⟨none, s.rolls[st].counter, flags.getLsbD 0, flags.getLsbD 0 && s.rolls[st].insertionReported, false,
            some .mismatch⟩
        ∧ u.stations[st].state = .noRoll ∧ u.stations[st].queue = [] ∧ u.stations[st].susp = ⟨.boundary, false, false, none, .awaiting⟩
        ∧ u.capture.record = some (heldMismatch st b q m)
        ∧ Posted s u [.event 0 (.faultNotice (heldMismatch st b q m)),
            .event 0 (rollReportEvent st (m.closed .mismatch m.firstReserved) .mismatch), .event q.tag (q.doneEvent .mismatch)] := by
  obtain ⟨-, hset, hn, -⟩ := h.opens
  have hexec := h.exec_mismatch hk hpay hparses hheld hbad
  obtain ⟨x, hx⟩ : ∃ x, x = checkTaken st (flags.getLsbD 0) t s := ⟨_, rfl⟩
  have hmovesX : MovesAt st s x := by rw [hx]; exact checkTaken_movesAt st _ t (hn.2.1 st)
  have honlyX : OnlyChanges [.stations, .rolls, .devices, .ring] s x := by rw [hx]; exact checkTaken_onlyChanges st _ t
  have hselfX : x.stations[st] = s.stations[st].serving := by rw [hx]; exact checkTaken_station st _ t
  have hrollX : x.rolls[st] = { s.rolls[st] with
      removalRequired := flags.getLsbD 0 && s.rolls[st].removalRequired
      insertionReported := flags.getLsbD 0 && s.rolls[st].insertionReported } := by rw [hx]; exact checkTaken_roll st _ t
  have hholdsX : HoldsFrames x st q m := by rw [hx]; exact hheld.checkTaken_holds h.map h.open_ _
  have hupX : BoundUp x st b := h.camera.1.kept (by rw [hmovesX.bindings]) hmovesX.devices
  have hroomX : Room x 3 := hroom.congr (honlyX .eventQueue (by decide))
  obtain ⟨p, htransmits, hclose⟩ := closeMismatch_eq hupX (x := heldMismatch st b q m)
    (stationFault_of_head hholdsX (.inr hheld.suspended) hheld.noOutcome .gateMismatch b.camera kindStatus none)
    (by rw [honlyX .capture (by decide)]; exact hcap) (hroomX.mono (by decide)) (cameraReport flags stock gate)
  rw [← hx, hclose, cameraReport_present] at hexec
  obtain ⟨y, hy⟩ : ∃ y, y = mismatched st (flags.getLsbD 0) (heldMismatch st b q m) p x := ⟨_, rfl⟩
  have honlyY : OnlyChanges [.rolls, .capture, .eventQueue, .port] x y := by
    rw [hy]
    exact ((captured_onlyChanges (heldMismatch st b q m) p x).widen).andThen (modRoll_onlyChanges st _ _)
  have hrollY : y.rolls[st] = x.rolls[st].removing (flags.getLsbD 0) := by rw [hy]; exact upd_self _ _ _
  have hdevY : y.devices = x.devices := honlyY .devices (by decide)
  have hmovesY : MovesAt st x y := by
    refine ⟨by rw [honlyY .stations (by decide)]; exact othersSame_refl _ _, by rw [hy]; exact othersSame_upd _ _ _,
      honlyY .bindings (by decide), by rw [hdevY]; exact .refl _, by rw [hdevY]; exact .refl _, honlyY .ring (by decide),
      honlyY .slot (by decide), honlyY .pins (by decide)⟩
  have hpostedY : Posted x y [.event 0 (.faultNotice (heldMismatch st b q m))] := by rw [hy]; exact ⟨rfl, htransmits⟩
  have hselfY : y.stations[st] = s.stations[st].serving := by rw [honlyY .stations (by decide), hselfX]
  have hcomposerY : y.composer = s.composer := (honlyY .composer (by decide)).trans (honlyX .composer (by decide))
  have hmovesSY := hmovesX.trans hmovesY
  have hroomY : Room y 2 := hroomX.posted hpostedY.1
  obtain ⟨v, hclosed, hmovesV, honlyV, hordersV, hselfV, hrollV, hpostedV⟩ := closeRoll_held (s := y) (by rw [hrollY, hrollX]; exact h.map) h.open_
    (hl.congr hcomposerY) (by rw [hrollY, hrollX]; exact hreq) hmarked (by rw [hmovesSY.ring]; exact hn.2.1 st) hh
    (by rw [hcomposerY]; exact hstrips) (by rw [hselfY]; exact h.noPost) (by rw [hselfY]; exact ⟨h.state, hheld.held⟩)
    (hroomY.mono (by decide)) .mismatch
  rw [← hy, hclosed] at hexec
  have hqueueV : v.stations[st].queue = [q] := by rw [hselfV, hselfY]; exact hq
  obtain ⟨o', ho', hterms, hclosing⟩ := hordersV i o
    (hheld.order.congr ((honlyY .orders (by decide)).trans (honlyX .orders (by decide))))
  obtain ⟨w, hmovesW, honlyW, hselfW, hrollsW, -, hpostedW, hended⟩ := endRequest_movesAt (s := v) (by rw [headOf, hqueueV]; rfl) ho'
    (by rw [hterms]; exact hheld.number) (hclosing.trans hheld.notClosing) (hroomY.posted hpostedV.1) .mismatch
  have hstateV : v.stations[st].state = .suspended := by rw [hselfV, hselfY]; exact h.state
  rw [dequeue_of_suspended hstateV] at hselfW
  have hqueueW : w.stations[st].queue = [] := by rw [hselfW]; show v.stations[st].queue.tail = []; rw [hqueueV]; rfl
  have hmovesSW := (hmovesSY.trans hmovesV).trans hmovesW
  have hrollW : w.rolls[st] = (y.rolls[st]).discarded .mismatch := by rw [hrollsW, hrollV]
  obtain ⟨v', hv', hafter⟩ := afterRequest_rollLess (s := w) (by rw [hselfW, hselfV, hselfY]; exact h.noEnd) (by rw [hrollW]; rfl) hqueueW
    ((h.camera.1.kept (by rw [hmovesSW.bindings]) hmovesSW.devices).2) v.stations[st].leftUp
  rw [hended, hafter] at hexec
  obtain ⟨u, hu⟩ : ∃ u, u = rollLess st v' w := ⟨_, rfl⟩
  rw [← hu] at hexec
  have hselfU : u.stations[st] = w.stations[st].rollLess := by rw [hu]; exact upd_self _ _ _
  have honlyU : OnlyChanges [.stations, .devices, .ring] w u := by
    rw [hu]
    intro q' hq'
    cases q' with
    | stations | devices | ring => exact absurd (by decide) hq'
    | _ => rfl
  have hstateU : u.stations[st].state = .noRoll := by
    rw [hselfU]
    unfold Station.rollLess
    rw [hqueueW]
    rfl
  have hends : EndsAt st s u := by
    refine ⟨?_, ?_, (honlyU .bindings (by decide)).trans hmovesSW.bindings, ?_,
      atRest_of_state (by rw [hstateU]; nofun) (by rw [hstateU]; nofun)⟩
    · intro j hj
      rw [hu]
      exact (othersSame_upd _ _ _ j hj).trans (hmovesSW.stations j hj)
    · rw [honlyU .rolls (by decide)]; exact hmovesSW.rolls
    · rw [hu]; exact hmovesSW.devices.trans hv'
  have hring : u.ring.asks = s.ring.asks ∧ u.ring.composerAsk = s.ring.composerAsk := by
    have hasks := set_none_of_none (v := w.ring.asks) (by rw [hmovesSW.ring]; exact hn.2.1) st
    rw [hu, ← hmovesSW.ring]
    exact ⟨hasks, rfl⟩
  have hfin := hends.finish_endGrant hset hn ((honlyU .slot (by decide)).trans hmovesSW.slot) (by rw [hring.1]; exact hn.2.1)
    (by rw [hring.2]; exact hn.2.2.1)
  refine ⟨endGrant u, next_of_finish hexec hfin, hends.stations, hends.rolls, rfl, ?_, hstateU, ?_, ?_, ?_, ?_⟩
  · show u.rolls[st] = _
    rw [honlyU .rolls (by decide), hrollW, hrollY, hrollX]
    rfl
  · show u.stations[st].queue = _
    rw [hselfU]
    show w.stations[st].queue.modifyHead _ = _
    rw [hqueueW]; rfl
  · show u.stations[st].susp = _
    rw [hselfU]; rfl
  · show u.capture.record = _
    rw [honlyU .capture (by decide), honlyW .capture (by decide), honlyV .capture (by decide), hy]
    rfl
  · exact ((hpostedY.trans hpostedV).trans hpostedW).congr (s := x)
      ⟨(honlyX .eventQueue (by decide)).symm, (honlyX .port (by decide)).symm⟩
      ⟨honlyU .eventQueue (by decide), honlyU .port (by decide)⟩

end

/-- Settles O42. -/
theorem resumeChecksDecide : Obligations.ResumeChecksDecide := by
  intro s t st b d m f ho hreq hp hkind hcam _ hstate hstep hpost hend hmap hopen
  have h : Checks s t st b d m f := ⟨ho, hreq, hp, hkind, hcam, hstate, hstep, hpost, hend, hmap, hopen⟩
  refine ⟨fun flags stock gate shot hk hpay hparses hshot => ?_, ?_, fun hk hw => h.waits hk hw⟩
  · refine ⟨fun q z i o hheldS hunl hq hqs hqa hqo hz hroll horder hnum hoc => ?_, fun hfree hempty => ?_⟩
    · have hheld : HoldsRequest s st m q z i o := ⟨hheldS, hunl, hq, hqs, hqa, hqo, hz, hroll, horder, hnum, hoc⟩
      refine ⟨fun hpresent hstock hgate => ⟨fun hnone hphase => ⟨fun hhold => ?_, fun hhold r j lamp hr hl hla => ?_⟩, ?_, fun hphase => ?_⟩,
        fun hpresent hstock hgate hlen hphase => ⟨fun hmore hhold => ?_, fun hmore hhold r j lamp hr hl hla => ?_,
          fun hlast hroom hqueue hleft => ?_⟩, ?_⟩
      · exact h.redone_held hk hpay hparses hheld hshot hpresent hstock hgate hnone hphase hhold
      · exact h.redone_lampSet hk hpay hparses hheld hshot hpresent hstock hgate hnone hphase hhold hr hl hla
      · intro r x hr hres hx
        have hmark : CheckMark s st shot x := by
          rcases hx with ⟨hp, hn, rfl⟩ | ⟨hp, hn, rfl, hroom⟩ | ⟨hp, hn, rfl⟩ | ⟨hp, hn, rfl, hroom⟩ | ⟨hp, hn, rfl⟩
          · exact .exposed hp hn
          · exact .lamp hp hn hroom
          · exact .early false hp hn nofun
          · exact .early true hp hn fun _ => hroom
          · exact .unseen hp hn
        obtain ⟨u, hexec, honly, hst, hrolls, hmapU, hhead, hstateU, hphase, hring, hquiet, hfault⟩ :=
          h.marks hk hpay hparses hheld hshot hpresent hstock hgate hr hres hmark
        exact ⟨u, hexec, honly, hst, hrolls, hmapU, hhead, hstateU, hphase, hring, hquiet, hfault⟩
      · exact h.advances hk hpay hparses hheld hshot hpresent hstock hgate hphase
      · obtain ⟨u, hexec, honly, hring, hst, hrolls, hmapU, hstateU, hhead⟩ :=
          h.moved_held hk hpay hparses hheld hpresent hstock hgate hlen hphase hmore hhold
        exact ⟨u, hexec, honly, hring, hst, hrolls, hmapU, hstateU, hhead⟩
      · obtain ⟨u, hexec, honly, hst, hrolls, hmapU, hstateU, hphaseU, hhead, hring⟩ :=
          h.moved_lampSet hk hpay hparses hheld hpresent hstock hgate hlen hphase hmore hhold hr hl hla
        exact ⟨u, hexec, honly, hst, hrolls, hmapU, hstateU, hphaseU, hhead, hring⟩
      · have hdone : Event.requestDone q.order q.original z.first z.count q.exposed q.spoiled .complete = q.doneEvent .complete := by
          simp only [Request.doneEvent, hz, Option.map_some, Option.getD_some]
        rw [hdone]
        exact h.moved_ready hk hpay hparses hheld hpresent hstock hgate hlen hphase hlast hroom hqueue hleft
      · intro n first slot hbad hh hreqS hheaders hwaiters hstrips hcap hroom hqueue hfirst hmarked hn
        have hdone : Event.requestDone q.order q.original z.first z.count q.exposed q.spoiled .mismatch = q.doneEvent .mismatch := by
          simp only [Request.doneEvent, hz, Option.map_some, Option.getD_some]
        have hfirst' : first = m.firstReserved := hfirst
        subst hfirst' hn
        have hreport := closed_report st hmarked .mismatch
        rw [hh] at hreport
        rw [hdone]
        obtain ⟨u, hexec, hst, hrolls, hengine, hrollU, hstateU, hqueueU, hsusp, hrec, hposted⟩ :=
          h.held_mismatch hk hpay hparses hheld hbad hh hreqS ⟨hheaders, hwaiters⟩ hstrips hcap hroom hqueue hmarked
        rw [hreport] at hposted
        exact ⟨u, hexec, hst, hrolls, hengine, hrollU, hstateU, hqueueU, hsusp, hrec, hposted⟩
    · have hnone : HoldsNone s st := ⟨hfree, hempty⟩
      refine ⟨fun hphase hpresent => ?_, fun hphase hpresent hstock hmarked => ⟨fun hgate => ?_, fun hgate => ?_⟩,
        fun hphase hpresent hstock hgate hrec hshotNone => ?_, ?_⟩
      · exact h.free_unloads hk hpay hparses hnone hphase hpresent
      · exact h.free_owed hk hpay hparses hnone hphase hpresent hstock hmarked hgate
      · exact h.free_settled hk hpay hparses hnone hphase hpresent hstock hmarked hgate
      · exact h.free_ready hk hpay hparses hshot hnone hphase hpresent hstock hgate hrec hshotNone
      · intro slot hbad hh hreqS hno hstrips hcap hroom reason hreason
        rcases hbad with ⟨hphase, habsent⟩ | ⟨hphase, hbad⟩
        · rw [if_pos hphase] at hreason
          subst hreason
          obtain ⟨u, hexec, honly, hring, hrolls, hst, hless, hrollU, hstrip, hcapU, hposted⟩ :=
            h.closes_unloaded hk hpay hparses hnone hh hreqS hno hstrips hroom hphase habsent
          rw [habsent]
          exact ⟨u, hexec, honly, hring, hrolls, hst, hless, hrollU, hstrip, fun _ => ⟨hcapU, hposted⟩, nofun⟩
        · rw [if_neg hphase] at hreason
          subst hreason
          obtain ⟨u, hexec, honly, hring, hrolls, hst, hless, hrollU, hstrip, hrec, hposted⟩ :=
            h.closes_mismatch hk hpay hparses hnone hh hreqS hno hstrips hroom hcap hshot hphase hbad
          exact ⟨u, hexec, honly, hring, hrolls, hst, hless, hrollU, hstrip, nofun, fun _ => ⟨hrec, hposted⟩⟩
  · intro kind reason c hcap hroom hc
    rcases hc with ⟨rfl, hk, rfl, rfl⟩ | ⟨rfl, hk, rfl, rfl, hw⟩
    · exact h.nak hk hcap hroom
    · exact h.waitLimit hk hw hcap hroom

end Sys2Proof.Machine
end

section
/-! PROOFS. The forward slot (R156, R168, R169, R207): the frame that enters it, its grant, its reply, its silence. -/

namespace Sys2Proof.Machine

/-! ### The answer to the frame in the slot (R169) -/

theorem answerForward_eq (r : Record) (s : State) : ∃ p, answerForward r s = { s with
    slot := .empty, port := p
    eq := { s.eq with reserved := s.eq.reserved - 1, records := s.eq.records ++ [r] } }
      ∧ Transmits s { s with port := p } := by
  obtain ⟨p, hp, hsends⟩ := joinTail_eq r { s with slot := .empty, eq := { s.eq with reserved := s.eq.reserved - 1 } }
  exact ⟨p, hp, hsends⟩

theorem answerForward_settled {s : State} (h : Settled s) (r : Record) : Settled (answerForward r s) := by
  obtain ⟨p, hp, -⟩ := answerForward_eq r s
  exact settled_of_same h (by rw [hp]) (by rw [hp]) (by rw [hp]) (by rw [hp]; exact .refl _)

/-- The slot is EMPTY once it is answered, and so it does not ask (R169). -/
theorem answerForward_noAsk {s : State} (hasks : ∀ st : St, s.ring.asks[st] = none) (hcomposer : s.ring.composerAsk = none)
    (hdue : ∀ (i : Fin 16) d, s.devices[i] = some d → d.dueWake = false ∧ d.duePoll = false) (r : Record) :
    NoAsk (answerForward r s) := by
  obtain ⟨p, hp, -⟩ := answerForward_eq r s
  rw [hp]
  exact ⟨nofun, hasks, hcomposer, hdue⟩

theorem finish_answerForward {s : State} (hs : Settled s) (hn : NoAsk s) (r : Record) :
    finish (answerForward r s) = answerForward r s :=
  finish_of_noAsk (answerForward_settled hs r) (answerForward_noAsk hn.2.1 hn.2.2.1 hn.2.2.2 r)

/-- A frame in hand that the slot's answer refuses: nothing else changes, the slot having been EMPTY (R169). -/
theorem answerForward_answered {s : State} (hslot : s.slot = .empty) (f : LinkFrame) (code : Result) :
    Refused s (answerForward (.result f.tag code []) { s with inHand := none }) f code := by
  obtain ⟨p, hp, hsends⟩ := answerForward_eq (.result f.tag code []) { s with inHand := none }
  rw [hp]
  refine ⟨fun q hq => ?_, rfl, hsends, rfl⟩
  cases q with
  | port | inHand | eventQueue => exact absurd (by decide) hq
  | slot => exact hslot.symm
  | _ => rfl

/-! ### Into the slot (R168) -/

theorem exec_forward (s : State) : exec .forward s = live s (forwardHand s) := rfl

theorem exec_forwardSlotEmptied (s : State) : exec .forwardSlotEmptied s = live s (forwardHeld s) := rfl

theorem enterSlot_up {s : State} {f : LinkFrame} (h : isUp s f.dst = true) : enterSlot f s = { s with slot := .asking f } :=
  if_pos h

theorem enterSlot_down {s : State} {f : LinkFrame} (h : isUp s f.dst = false) :
    enterSlot f s = answerForward (.result f.tag .deviceDown []) s := if_neg (by rw [h]; nofun)

section
variable {s : State} {f : LinkFrame} {c : Instr} {p : Path} (hl : Live s)
  (hc : c = .forward ∧ p = .forward ∨ c = .forwardSlotEmptied ∧ p = .held) (hi : InHandIs s f p)
include hl hc hi

/-- Either row hands its frame to the EMPTY slot. -/
theorem exec_enters (he : s.slot = .empty) : exec c s = .next (finish (enterSlot f { s with inHand := none })) := by
  rcases hc with ⟨rfl, rfl⟩ | ⟨rfl, rfl⟩
  · rw [exec_forward, live_of_live hl, forwardHand, hi]
    dsimp only
    rw [if_pos he]
  · rw [exec_forwardSlotEmptied, live_of_live hl, forwardHeld, hi]
    dsimp only
    rw [if_pos he]

/-- With the slot in use the frame is held, or stays held. -/
theorem exec_holds (he : s.slot ≠ .empty) : exec c s = .next { s with inHand := some ⟨f, .held⟩ } := by
  rcases hc with ⟨rfl, rfl⟩ | ⟨rfl, rfl⟩
  · rw [exec_forward, live_of_live hl, forwardHand, hi]
    dsimp only
    rw [if_neg he]
  · have hsame : ({ s with inHand := some ⟨f, .held⟩ } : State) = s := by rw [← show s.inHand = some ⟨f, .held⟩ from hi]
    rw [exec_forwardSlotEmptied, live_of_live hl, forwardHeld, hi, hsame]
    dsimp only
    rw [if_neg he]

end

/-! ### The slot's grant (R149, R167, R168) -/

section
variable {s : State} {f : LinkFrame} {i : Fin 16} {d : Device} (hn : NoAsk s) (he : s.ring.engine = none)
include hn he

omit he in
/-- The slot alone asks, and is granted. -/
theorem nextGranted_slot (f : LinkFrame) : nextGranted { s with slot := .asking f } = some .forward := by
  refine nextGranted_of_only rfl fun r hr => ?_
  cases r with
  | forward => exact absurd rfl hr
  | station st => exact hn.hasAsk (.station st)
  | composer => exact hn.hasAsk .composer
  | idlePoller => exact hn.hasAsk .idlePoller

theorem arbitrate_slot_sent (hp : ¬ ControllerOnly s f) (hd : DeviceAt s i d) (hda : d.addr = f.dst) :
    arbitrate { s with slot := .asking f } = { s with
      slot := .running f
      ring := { s.ring with
        lastGranted := .forward
        engine := some ⟨.forward, i, d.cls, .forwarded, f, 1, false, false, false, 0⟩ } } := by
  have hto := grantTo_forward (s := { s with slot := .asking f }) rfl hp hd hda
  rw [arbitrate_of_granted (s := { s with slot := .asking f }) he (nextGranted_slot hn f) (by rw [hto]; rfl), hto]

theorem arbitrate_slot_protected (hp : ControllerOnly s f) :
    arbitrate { s with slot := .asking f } = answerForward (.result f.tag .protectedDevice [])
      { s with slot := .asking f, ring := { s.ring with lastGranted := .forward } } := by
  have hto := grantTo_forward_protected (s := { s with slot := .asking f }) rfl hp
  refine (arbitrate_of_answered (s := { s with slot := .asking f }) he (nextGranted_slot hn f) ?_).trans hto
  rw [hto]
  exact nextGranted_eq_none (answerForward_noAsk (s := { s with
    slot := .asking f, ring := { s.ring with lastGranted := .forward } }) hn.2.1 hn.2.2.1 hn.2.2.2 _).hasAsk

end

/-! ### The end of the slot's transaction (R156, R169) -/

theorem kindAccepted_forwarded {t : Transaction} (h : t.purpose = .forwarded) (f : LinkFrame) : kindAccepted t f = true :=
  if_pos h

theorem items_of_parse {c : DevClass} (hc : c = .lamp ∨ c = .other) {payload : List Byte} {x : Status}
    (h : parseStatus c payload = some x) : ∃ condition items, x = .items condition items := by
  have hitems : parseItemStatus payload = some x := by rcases hc with rfl | rfl <;> exact h
  unfold parseItemStatus at hitems
  split at hitems
  · split at hitems
    · exact ⟨_, _, (Option.some.inj hitems).symm⟩
    · cases hitems
  · cases hitems

/-- A lamp head's or another device's report to a forwarded STATUS is handed to no one (R156). -/
theorem routeReply_items {t : Transaction} (hc : t.cls = .lamp ∨ t.cls = .other) (f : LinkFrame) (s : State) :
    routeReply t f routeForwarded s = s := by
  by_cases hk : f.kind = kindStatusReply
  · unfold routeReply
    rw [if_pos hk]
    split
    · next d x hx =>
      obtain ⟨condition, items, rfl⟩ := items_of_parse hc hx
      rfl
    · rfl
  · exact routeReply_of_other hk t _ s

theorem routeReply_forwarded {t : Transaction} {f : LinkFrame} {d : Device} {x : Status} {s : State}
    (hd : s.devices[t.entry] = some d) (hk : f.kind = kindStatusReply) (hx : parseStatus t.cls f.payload = some x) :
    routeReply t f routeForwarded s = routeForwarded d x s := by
  unfold routeReply
  rw [if_pos hk, hx, hd]

theorem takeForwarded_notRouted {t : Transaction} {f : LinkFrame} {s : State}
    (h : t.request.kind ≠ 0x02 ∨ f.kind ≠ 0x14 ∨ t.cls = .lamp ∨ t.cls = .other) :
    takeForwarded t f s = answerForward (forwardReply t (.replied f)) (endGrant s) := by
  have hroute : t.request.kind = kindStatus → routeReply t f routeForwarded s = s := fun hk => by
    rcases h with h | h | h
    · exact absurd hk h
    · exact routeReply_of_other h t _ s
    · exact routeReply_items h f s
  unfold takeForwarded
  by_cases hk : t.request.kind = kindStatus
  · rw [if_pos hk, hroute hk]
  · rw [if_neg hk]

theorem takeForwarded_status {t : Transaction} {f : LinkFrame} {d : Device} {x : Status} {s : State}
    (hreq : t.request.kind = 0x02) (hd : s.devices[t.entry] = some d) (hk : f.kind = 0x14)
    (hx : parseStatus t.cls f.payload = some x) :
    takeForwarded t f s = answerForward (forwardReply t (.replied f)) (endGrant (routeForwarded d x s)) := by
  have hkind : t.request.kind = kindStatus := hreq
  unfold takeForwarded
  rw [if_pos hkind, routeReply_forwarded hd hk hx]

theorem replied_eq (d : Device) : d.replied = if d.link = .up ∧ d.busy = false then { d with idleTimer := true } else d := by
  unfold Device.replied
  cases d.link <;> cases d.busy <;> rfl

/-- The grant of an answered transaction ends: nothing is left to be done (R147). -/
theorem endGrant_replied_rests {s : State} (hs : Settled s) (hn : NoAsk s) (i : Fin 16) :
    Settled (endGrant (modDevice i Device.replied s)) ∧ NoAsk (endGrant (modDevice i Device.replied s)) := by
  obtain ⟨v, hv, he⟩ := modDevice_change replied_kept i s
  rw [he]
  exact ⟨settled_of_same hs rfl rfl rfl hv, hn.kept rfl hn.2.1 hn.2.2.1 hv⟩

section
variable {s : State} {t : Transaction} (hl : Live s) (hs : Settled s) (hn : NoAsk s) (hr : Runs s t)
  (hreq : t.requester = .forward) (hp : t.purpose = .forwarded)
include hl hs hn hr hreq hp

section
variable {f : LinkFrame} {c : Instr} (hb : Brings c f) (ha : Answers t f)
include hb ha

/-- A reply that is handed to no one else goes upstream alone. -/
theorem exec_forwarded_reply (h : t.request.kind ≠ 0x02 ∨ f.kind ≠ 0x14 ∨ t.cls = .lamp ∨ t.cls = .other) :
    exec c s = .next (answerForward (forwardReply t (.replied f)) (endGrant (modDevice t.entry Device.replied s))) := by
  obtain ⟨hs', hn'⟩ := endGrant_replied_rests hs hn t.entry
  rw [exec_of_reply hl hr ha (kindAccepted_forwarded hp f) hb, takeReply_forward hr hreq, takeForwarded_notRouted h,
    finish_answerForward hs' hn']

/-- A printer's report is taken by the idle Label Composer before it goes upstream (R125, R156). -/
theorem exec_forwarded_printer {d : Device} {r : PrinterReport} (hd : s.devices[t.entry] = some d) (hreqk : t.request.kind = 0x02)
    (hk : f.kind = 0x14) (hx : parseStatus t.cls f.payload = some (.printer r)) (hjam : r.condition ≠ .jam)
    (hidle : s.composer.print = .idle) : ∃ u, exec c s = .next (answerForward (forwardReply t (.replied f)) u)
      ∧ OnlyChanges [.devices, .ring, .composer] s u ∧ u.eq = s.eq
      ∧ u.composer = { s.composer with condition := some r.condition, attention := r.condition.pause.isSome } := by
  obtain ⟨hsu, hnu⟩ := endGrant_replied_rests hs hn t.entry
  rw [exec_of_reply hl hr ha (kindAccepted_forwarded hp f) hb, takeReply_forward hr hreq]
  have hdev : (modDevice t.entry Device.replied s).devices[t.entry] = some d.replied := by
    rw [modDevice_devices, upd_self, hd, Option.map_some]
  have honly := modDevice_onlyChanges t.entry Device.replied s
  have hcomposer : (modDevice t.entry Device.replied s).composer = s.composer := rfl
  have heq : (modDevice t.entry Device.replied s).eq = s.eq := rfl
  obtain ⟨u, hu⟩ : ∃ u, u = modDevice t.entry Device.replied s := ⟨_, rfl⟩
  rw [← hu] at hsu hnu hdev honly hcomposer heq ⊢
  have hprint : u.composer.print = .idle := by rw [hcomposer]; exact hidle
  have hroute : routeForwarded d.replied (.printer r) u = modComposer (fun c => { c with
    condition := some r.condition, attention := r.condition.pause.isSome }) u := printerReport_idle hjam hprint
  rw [takeForwarded_status hreqk hdev hk hx, hroute]
  obtain ⟨v, hv⟩ : ∃ v, v = endGrant (modComposer (fun c => { c with
    condition := some r.condition, attention := r.condition.pause.isSome }) u) := ⟨_, rfl⟩
  have hsv : Settled v := by rw [hv]; exact settled_of_same hsu rfl rfl rfl (.refl _)
  have hnv : NoAsk v := by rw [hv]; exact hnu.kept rfl hnu.2.1 hnu.2.2.1 (.refl _)
  rw [← hv, finish_answerForward hsv hnv]
  refine ⟨v, rfl, ?_, by rw [hv, ← heq]; rfl, by rw [hv, ← hcomposer]; rfl⟩
  rw [hv]
  exact ((honly.widen).andThen (modComposer_onlyChanges _ u)).andThen (ring_onlyChanges _ _)

end

/-- After the third silent attempt the FORWARD_REPLY stands behind the notice of the loss (R146, R157, R169). -/
theorem exec_forwarded_silent {d : Device} (hd : DeviceAt s t.entry d) (hge : 3 ≤ t.attempt) (hcls : d.cls ≠ .printer)
    (hunbound : Unbound s d.addr) (hc : s.capture.record = none) (hroom : Room s 1) : ∃ p, exec .replyWindowExpired s
      = .next (answerForward (forwardReply t .noReply) (endGrant
        (captured ⟨.noReply, d.addr, t.request.kind, none, none, none, none⟩ p (modDevice t.entry Device.toLost s))))
      ∧ Transmits s { s with port := p } := by
  have hp' : t.purpose ≠ .wake := by rw [hp]; decide
  have hless := lostDevice_less hd
  obtain ⟨u, hu⟩ : ∃ u, u = modDevice t.entry Device.toLost s := ⟨_, rfl⟩
  have htold : tellStationDown d.addr (modDevice t.entry Device.toLost s) = u :=
    hu ▸ tellStationDown_unbound (s := modDevice t.entry Device.toLost s) hunbound
  rw [← hu] at hless ⊢
  have hsame : u.ring = s.ring ∧ u.slot = s.slot ∧ u.capture = s.capture ∧ u.eq = s.eq ∧ u.port = s.port := by
    rw [hu]; exact ⟨rfl, rfl, rfl, rfl, rfl⟩
  have hrest : u.stations = s.stations ∧ u.rolls = s.rolls ∧ u.bindings = s.bindings := by rw [hu]; exact ⟨rfl, rfl, rfl⟩
  obtain ⟨hring, hslot, hcapture, heq, hport⟩ := hsame
  obtain ⟨hstations, hrolls, hbindings⟩ := hrest
  have hnu : NoAsk u := hn.less hslot (by rw [hring]; exact hn.2.1) (by rw [hring]; exact hn.2.2.1) hless
  have hsu : Settled u := settled_of_fewer hs hstations hrolls fun st => bothUp_less (by rw [hbindings]) hless
  obtain ⟨p, hcap, hsends⟩ := offerFault_captured (s := u) (by rw [hcapture]; exact hc)
    (hroom.congr heq) ⟨.noReply, d.addr, t.request.kind, none, none, none, none⟩
  have hlose : loseDevice t.entry t.request.kind s
      = captured ⟨.noReply, d.addr, t.request.kind, none, none, none, none⟩ p u := by
    rw [loseDevice_of_noAsk hd.1 htold hnu hcls, (boundStation_congr hbindings _).trans hunbound, hcap]
  refine ⟨p, ?_, by unfold Transmits at hsends ⊢; rw [hport] at hsends; exact hsends⟩
  obtain ⟨-, hvoid, horphan, -⟩ := id hr
  have hend : silentEnd t s = answerForward (forwardReply t .noReply)
      (endGrant (captured ⟨.noReply, d.addr, t.request.kind, none, none, none, none⟩ p u)) := by
    simp only [silentEnd, hvoid, horphan, hp', Bool.false_eq_true, if_false, forwardNoReply, hreq, hlose]
  rw [exec_replyWindowExpired, live_of_live hl, windowCloses_last hr (by rw [attempts_of_other hp']; exact hge), hend]
  obtain ⟨v, hv⟩ : ∃ v, v = endGrant (captured ⟨.noReply, d.addr, t.request.kind, none, none, none, none⟩ p u) := ⟨_, rfl⟩
  have hsv : Settled v := by rw [hv]; exact settled_of_same hsu rfl rfl rfl (.refl _)
  have hnv : NoAsk v := by rw [hv]; exact hnu.kept rfl hnu.2.1 hnu.2.2.1 (.refl _)
  rw [← hv, finish_answerForward hsv hnv]

end

theorem forwardReply_payload (f : LinkFrame) : Event.payload (.forwardReply (.replied f))
    = [0x06, if f.payload.length ≤ 50 then 0x00 else 0x02, f.dst, f.src, f.kind, f.tag] ++ f.payload.take 50 := by
  show [0x06, if 50 < f.payload.length then 0x02 else 0x00, f.dst, f.src, f.kind, f.tag] ++ f.payload.take 50 = _
  by_cases h : f.payload.length ≤ 50
  · rw [if_pos h, if_neg (Nat.not_lt.mpr h)]
  · rw [if_neg h, if_pos (Nat.lt_of_not_le h)]

/-- What an answer to the slot leaves unchanged, of a state reached by operations on further parts. -/
theorem answerForward_outcome {s u : State} {ps : List Part} (r : Record) (h : OnlyChanges ps s u)
    (hsub : ∀ p ∈ [Part.port, .eventQueue, .slot], p ∈ ps := by decide) : OnlyChanges ps s (answerForward r u) :=
  h.andThen (answerForward_onlyChanges r u) hsub

/-- Settles O14. -/
theorem forwardSlotTakesFrame : Obligations.ForwardSlotTakesFrame := by
  refine ⟨fun s f c p hsteady hc hi => ?_, fun s f i d c p hl hs hn he hslot hc hi hd hda hup => ?_,
    fun s t g f d hl hs hn hr hreq hp hslot hd => ⟨fun c hb ha => ⟨fun h => ?_, fun hreqk hk hcls hpay hidle => ?_⟩,
      fun hge hcls hunbound hcap hroom => ?_⟩, forwardReply_payload, rfl⟩
  · obtain ⟨hl, hs, hbusy⟩ := hsteady
    refine ⟨fun hslot hup => ?_, fun hslot hdown => ?_, exec_holds hl hc hi⟩
    · rw [exec_enters hl hc hi hslot, enterSlot_up (s := { s with inHand := none }) hup]
      exact congrArg Host.Outcome.next (finish_of_busy (settled_of_same hs rfl rfl rfl (.refl _)) hbusy)
    · refine ⟨_, exec_enters hl hc hi hslot, ?_⟩
      rw [enterSlot_down (s := { s with inHand := none }) hdown]
      obtain ⟨p, hp, -⟩ := answerForward_eq (.result f.tag .deviceDown []) { s with inHand := none }
      have hsettled : Settled (answerForward (.result f.tag .deviceDown []) { s with inHand := none }) :=
        answerForward_settled (s := { s with inHand := none }) (settled_of_same hs rfl rfl rfl (.refl _)) _
      rw [finish_of_busy hsettled (by rw [hp]; exact hbusy)]
      exact answerForward_answered hslot f .deviceDown
  · have hup' : isUp s f.dst = true := by rw [← hda, isUp_of_deviceAt hd, hup]; rfl
    have hs' : Settled { s with inHand := none, slot := .asking f } := settled_of_same hs rfl rfl rfl (.refl _)
    have hexec : exec c s = .next (arbitrate { s with inHand := none, slot := .asking f }) := by
      rw [exec_enters hl hc hi hslot, enterSlot_up (s := { s with inHand := none }) hup', finish, settle_of_settled hs']
    have hn' : NoAsk { s with inHand := none } := hn.kept rfl hn.2.1 hn.2.2.1 (.refl _)
    refine ⟨fun hfree => ?_, fun hprot => ⟨_, hexec, ?_⟩⟩
    · rw [hexec]
      exact congrArg Host.Outcome.next (arbitrate_slot_sent (s := { s with inHand := none }) hn' he hfree hd hda)
    · have hgrant := arbitrate_slot_protected (s := { s with inHand := none }) hn' he hprot
      obtain ⟨q, hq, hsends⟩ := answerForward_eq (.result f.tag .protectedDevice []) { s with
        inHand := none, slot := .asking f, ring := { s.ring with lastGranted := .forward } }
      rw [hgrant.trans hq]
      refine ⟨fun x hx => ?_, ⟨rfl, hsends, rfl⟩, rfl⟩
      cases x with
      | port | inHand | eventQueue | ring => exact absurd (by decide) hx
      | slot => exact hslot.symm
      | _ => rfl
  · refine ⟨_, exec_forwarded_reply hl hs hn hr hreq hp hb ha h, ?_⟩
    obtain ⟨q, hq, hsends⟩ := answerForward_eq (forwardReply t (.replied f)) (endGrant (modDevice t.entry Device.replied s))
    refine ⟨answerForward_outcome _ (((modDevice_onlyChanges t.entry Device.replied s).widen).andThen (ring_onlyChanges _ _)), ?_⟩
    rw [hq]
    refine ⟨rfl, rfl, hsends, rfl, ?_⟩
    rw [← replied_eq]
    exact congrArg State.devices (modDevice_set hd.1 Device.replied)
  · have hx : parseStatus t.cls f.payload = some (.printer ⟨.outOfStock, false⟩) := by rw [hcls, hpay]; rfl
    obtain ⟨u, hexec, honly, heq, hcomposer⟩ := exec_forwarded_printer hl hs hn hr hreq hp hb ha hd.1 hreqk hk hx
      (by decide) hidle
    obtain ⟨q, hq, -⟩ := answerForward_eq (forwardReply t (.replied f)) u
    refine ⟨_, hexec, answerForward_outcome _ honly.widen, ?_⟩
    rw [hq]
    exact ⟨rfl, hcomposer, by rw [← heq]; rfl⟩
  · have hcls' : d.cls ≠ .printer := by rcases hcls with h | h <;> rw [h] <;> decide
    obtain ⟨q, hexec, hsends⟩ := exec_forwarded_silent hl hs hn hr hreq hp hd hge hcls' hunbound hcap hroom
    refine ⟨_, hexec, ?_⟩
    obtain ⟨u, hu⟩ : ∃ u, u = modDevice t.entry Device.toLost s := ⟨_, rfl⟩
    have honly : OnlyChanges [.devices, .ring, .slot, .capture, .eventQueue, .port] s u := by
      rw [hu]; exact (modDevice_onlyChanges t.entry Device.toLost s).widen
    have hsame : u.ring = s.ring ∧ u.eq = s.eq := by rw [hu]; exact ⟨rfl, rfl⟩
    have hdevices : u.devices = s.devices.set t.entry.val (some d.toLost) t.entry.isLt := by
      rw [hu]; exact congrArg State.devices (modDevice_set hd.1 _)
    rw [← hu]
    obtain ⟨q', hq', -⟩ := answerForward_eq (forwardReply t .noReply)
      (endGrant (captured ⟨.noReply, d.addr, t.request.kind, none, none, none, none⟩ q u))
    refine ⟨answerForward_outcome _ (honly.andThen (endGrant_captured_onlyChanges _ q u)), ?_⟩
    rw [hq', ← hsame.1, ← hsame.2]
    exact ⟨rfl, rfl, hdevices, congrArg (fun l => { u.eq with reserved := u.eq.reserved - 1, records := l })
      (List.append_assoc u.eq.records [_] [_])⟩

end Sys2Proof.Machine
end

section
/-! PROOFS. The statement about printing fails at its first clause (O53): it does not say that the transaction of purpose PRINT has
sent a PRINT. Where its request is a STATUS, R145 takes no ACK for its reply, and the window runs on. -/

namespace Sys2Proof.Machine

/-- The UP printer, busy with the label that the Composer sends. -/
def sendingPrinter : Device := ⟨0x30, .printer, .up, 0, 6, true, false, false, false, false, false⟩

/-- A transaction of purpose PRINT whose frame is a STATUS. -/
def statusPrint : Transaction := ⟨.composer, 2, .printer, .print, ⟨0x30, 0x70, 0x02, 6, []⟩, 1, false, false, false, 1⟩

/-- An ACK with the transaction's source, destination and tag. -/
def ackOfStatus : LinkFrame := ⟨0x70, 0x30, 0x11, 6, []⟩

/-- The strip that is being printed: one label, in slot 0. -/
def oneLabel : Strip := ⟨0, 1, .unloaded, [0], 0, 0⟩

/-- The Composer is SENDING, and the transaction's window is open. -/
def statusSent : State :=
  { State.reset with
      devices := State.reset.devices.set 2 (some sendingPrinter)
      composer := { Composer.reset with print := .sending, strips := [oneLabel] }
      ring := { Ring.reset with engine := some statusPrint } }

theorem statusSent_answersOpen : AnswersOpen statusSent statusPrint sendingPrinter ackOfStatus := by
  have hdue : ∀ i : Fin 16, (statusSent.devices[i].all fun d => !d.dueWake && !d.duePoll) = true := by decide
  refine ⟨rfl, by unfold Settled; decide, ⟨nofun, by decide, rfl, fun i d hd => ?_⟩, ⟨rfl, rfl, rfl, rfl, by decide⟩,
    ⟨rfl, by decide⟩, rfl, rfl, rfl, rfl, by decide⟩
  have := hdue i
  rw [hd] at this
  simpa using this

/-- An ACK is no reply to a STATUS (R145). -/
theorem exec_ack_of_status {s : State} {t : Transaction} {f : LinkFrame} (he : s.ring.engine = some t) (hp : t.purpose = .print)
    (hreq : t.request.kind = 0x02) (hk : f.kind = 0x11) (hlen : f.payload.length ≤ 56) :
    exec (.ackReceived f.wire) s = .next s := by
  have hno : kindAccepted t f = false := not_kindAccepted (by rw [hp]; decide) (by rw [hp]; decide) (by rw [hk]; decide)
    (.inl ⟨hreq, by rw [hk]; decide⟩)
  refine exec_reply_none (reply?_eq_none fun t' f' he' hf' => ?_) (.inr (.inl rfl))
  obtain rfl := Option.some.inj (he.symm.trans he')
  have hwire := receive_wire hlen []
  rw [List.append_nil] at hwire
  obtain rfl := Except.ok.inj (hwire.symm.trans hf')
  rw [Bool.eq_false_iff, ne_eq, replyAccepted_iff, hno]
  exact fun h => Bool.false_ne_true h.2.2.2.2

/-- Refutes O53: its clause on the ACK to a PRINT names the transaction's purpose and not the kind of its request, and an ACK to a
request of kind STATUS leaves the state as it is, the transaction in progress. -/
theorem not_labelsComposedAndPrinted : ¬ Obligations.LabelsComposedAndPrinted := by
  intro h
  have hprinting := h.2 statusSent statusPrint sendingPrinter ackOfStatus oneLabel [] 0 statusSent_answersOpen rfl rfl (by decide) rfl
    rfl
  obtain ⟨u, hu, -, hring, -⟩ := (hprinting.1 rfl rfl rfl rfl).1 rfl
  rw [exec_ack_of_status rfl rfl rfl rfl (by decide)] at hu
  have hsame : statusSent = u := by injection hu
  rw [← hsame] at hring
  exact absurd (congrArg Ring.engine hring) (by decide)

end Sys2Proof.Machine
end

section
/-! PROOFS. The reservation (R32 to R35, R121): the records of a bracket set, the slots they take, and what stands. -/

namespace Sys2Proof.Machine

/-! ### The records of a bracket set (R33, R99) -/

/-- The record of one copy of a step, its slot not yet given. -/
def bracketFrame (stock : Stock) (o : Order) (q : Request) (t : Tariff) (first x : Nat) (p : PlanStep) (y : Nat) : FrameRec :=
  { number := first + x * o.terms.copies + y, state := .reserved, order := q.order, original := q.original
    step := x + 1, copy := y + 1, nominal := p.isNominal
    times := (stepTimes stock o.terms.trim q.index q.marks p).1
    marks := (stepTimes stock o.terms.trim q.index q.marks p).2
    hold := frameHold t p.isNominal, slot := 0 }

/-- The records of the steps from the `k`th on. -/
def bracketFrom (stock : Stock) (o : Order) (q : Request) (t : Tariff) (first k : Nat) (steps : List PlanStep) : List FrameRec :=
  (steps.zipIdx k).flatMap fun p => (List.range o.terms.copies).map (bracketFrame stock o q t first p.2 p.1)

theorem bracketSet_eq (stock : Stock) (o : Order) (q : Request) (steps : List PlanStep) (t : Tariff) (first : Nat) :
    bracketSet stock o q steps t first = bracketFrom stock o q t first 0 steps := rfl

section
variable (stock : Stock) (o : Order) (q : Request) (t : Tariff) (first : Nat)

theorem bracketFrom_cons (k : Nat) (p : PlanStep) (steps : List PlanStep) : bracketFrom stock o q t first k (p :: steps)
    = (List.range o.terms.copies).map (bracketFrame stock o q t first k p) ++ bracketFrom stock o q t first (k + 1) steps := by
  rw [bracketFrom, List.zipIdx_cons, List.flatMap_cons]
  rfl

theorem bracketFrom_length (k : Nat) (steps : List PlanStep) :
    (bracketFrom stock o q t first k steps).length = steps.length * o.terms.copies := by
  induction steps generalizing k with
  | nil => exact (Nat.zero_mul _).symm
  | cons p steps ih =>
    rw [bracketFrom_cons, List.length_append, List.length_map, List.length_range, ih, List.length_cons, Nat.succ_mul, Nat.add_comm]

/-- The frames are consecutive, from the first on. -/
theorem bracketFrom_numbers (k : Nat) (steps : List PlanStep) : (bracketFrom stock o q t first k steps).map (·.number)
    = List.range' (first + k * o.terms.copies) (steps.length * o.terms.copies) := by
  induction steps generalizing k with
  | nil => rw [List.length_nil, Nat.zero_mul]; rfl
  | cons p steps ih =>
    have hstep : ((List.range o.terms.copies).map (bracketFrame stock o q t first k p)).map (·.number)
        = List.range' (first + k * o.terms.copies) o.terms.copies := by
      rw [List.map_map, List.range'_eq_map_range]
      rfl
    have hnext : first + (k + 1) * o.terms.copies = first + k * o.terms.copies + o.terms.copies := by
      rw [Nat.succ_mul, Nat.add_assoc]
    rw [bracketFrom_cons, List.map_append, hstep, ih, hnext, List.length_cons, Nat.succ_mul, Nat.add_comm (steps.length * _),
      ← List.range'_append_1]

theorem bracketFrom_holds (k : Nat) (steps : List PlanStep) : ((bracketFrom stock o q t first k steps).map (·.hold)).sum
    = (steps.map fun p => o.terms.copies * frameHold t p.isNominal).sum := by
  induction steps generalizing k with
  | nil => rfl
  | cons p steps ih =>
    have hstep : ((List.range o.terms.copies).map (bracketFrame stock o q t first k p)).map (·.hold)
        = List.replicate o.terms.copies (frameHold t p.isNominal) := by
      rw [List.map_map, List.eq_replicate_iff]
      refine ⟨by rw [List.length_map, List.length_range], fun b hb => ?_⟩
      obtain ⟨y, -, rfl⟩ := List.mem_map.mp hb
      rfl
    rw [bracketFrom_cons, List.map_append, List.sum_append, hstep, List.sum_replicate_nat, ih, List.map_cons, List.sum_cons]

theorem bracketFrom_get (k : Nat) {steps : List PlanStep} {x y : Nat} {p : PlanStep} (hx : steps[x]? = some p)
    (hy : y < o.terms.copies) :
    (bracketFrom stock o q t first k steps)[x * o.terms.copies + y]? = some (bracketFrame stock o q t first (k + x) p y) := by
  induction steps generalizing k x with
  | nil => cases hx
  | cons p' steps ih =>
    have hlen : ((List.range o.terms.copies).map (bracketFrame stock o q t first k p')).length = o.terms.copies := by
      rw [List.length_map, List.length_range]
    rw [bracketFrom_cons]
    cases x with
    | zero =>
      obtain rfl := Option.some.inj hx
      rw [Nat.zero_mul, Nat.zero_add, List.getElem?_append_left (by rw [hlen]; exact hy), List.getElem?_map,
        List.getElem?_range hy]
      rfl
    | succ x =>
      rw [List.getElem?_append_right (by rw [hlen, Nat.succ_mul]; omega), hlen,
        show (x + 1) * o.terms.copies + y - o.terms.copies = x * o.terms.copies + y by rw [Nat.succ_mul]; omega,
        ih (k + 1) hx, show k + 1 + x = k + (x + 1) by omega]

theorem mem_bracketFrom {k : Nat} {steps : List PlanStep} {r : FrameRec} (h : r ∈ bracketFrom stock o q t first k steps) :
    ∃ x p y, r = bracketFrame stock o q t first x p y := by
  obtain ⟨⟨p, x⟩, -, hr⟩ := List.mem_flatMap.mp h
  obtain ⟨y, -, rfl⟩ := List.mem_map.mp hr
  exact ⟨x, p, y, rfl⟩

end

/-! ### The slots of a reservation (R120, R121) -/

theorem freeSlots_nodup (c : Composer) : (freeSlots c).Nodup := (List.nodup_finRange 320).filter _

theorem take_freeSlots_length {c : Composer} {n : Nat} (h : n ≤ freeCount c) : ((freeSlots c).take n).length = n :=
  List.length_take.trans (Nat.min_eq_left h)

/-- The slots are tied to their frames, and no other slot changes. -/
theorem reserveSlots_slots (st : St) (l : List (Fin 320 × Nat)) (s : State) : ∃ v,
    reserveSlots st l s = modComposer (fun c => { c with slots := v }) s
      ∧ (∀ k, k ∉ l.map Prod.fst → v[k] = s.composer.slots[k])
      ∧ ((l.map Prod.fst).Nodup → ∀ p ∈ l, v[p.1] = .reserved (.frame st p.2)) := by
  induction l generalizing s with
  | nil => exact ⟨s.composer.slots, rfl, fun _ _ => rfl, fun _ _ h => nomatch h⟩
  | cons p l ih =>
    obtain ⟨v, hv, hother, hself⟩ := ih (setSlot p.1 (.reserved (.frame st p.2)) s)
    refine ⟨v, hv, fun k hk => ?_, fun hnodup p' hp' => ?_⟩
    · rw [List.map_cons, List.mem_cons, not_or] at hk
      rw [hother k hk.2]
      exact set_ne _ _ _ _ hk.1
    · rw [List.map_cons, List.nodup_cons] at hnodup
      rcases List.mem_cons.mp hp' with rfl | hmem
      · rw [hother _ hnodup.1]
        exact set_self _ _ _
      · exact hself hnodup.2 p' hmem

theorem filter_notMem_take {α : Type} [DecidableEq α] {l : List α} (h : l.Nodup) (n : Nat) :
    l.filter (fun a => decide (a ∉ l.take n)) = l.drop n := by
  have hsplit := List.take_append_drop n l
  generalize l.take n = a, l.drop n = b at hsplit ⊢
  subst hsplit
  have hleft : a.filter (fun x => decide (x ∉ a)) = [] := List.filter_eq_nil_iff.mpr fun x hx => by simpa using hx
  have hright : b.filter (fun x => decide (x ∉ a)) = b := List.filter_eq_self.mpr fun x hx =>
    decide_eq_true fun hxa => (List.nodup_append.mp h).2.2 x hxa x hx rfl
  rw [List.filter_append, hleft, hright, List.nil_append]

/-- The free count falls by the slots that are taken, the lowest ones (R120, R121). -/
theorem freeCount_of_taken {c c' : Composer} {n : Nat} (hn : n ≤ freeCount c)
    (htaken : ∀ k ∈ (freeSlots c).take n, c'.slots[k] ≠ .free) (hother : ∀ k, k ∉ (freeSlots c).take n → c'.slots[k] = c.slots[k]) :
    freeCount c' + n = freeCount c := by
  have hfree : freeSlots c' = (freeSlots c).filter fun k => decide (k ∉ (freeSlots c).take n) := by
    rw [freeSlots, freeSlots, List.filter_filter]
    refine List.filter_congr fun k _ => ?_
    by_cases hk : k ∈ (freeSlots c).take n
    · have hne := beq_eq_false_iff_ne.mpr (htaken k hk)
      rw [hne]
      exact (Bool.and_eq_false_imp.mpr fun h => absurd hk (of_decide_eq_true h)).symm
    · rw [hother k hk]
      exact ((congrArg (· && (c.slots[k] == .free)) (decide_eq_true hk)).trans (Bool.true_and _)).symm
  rw [freeCount, hfree, filter_notMem_take (freeSlots_nodup c), List.length_drop]
  unfold freeCount at hn ⊢
  omega

/-! ### The records with their slots (R35) -/

/-- The records, each with the slot it is given. -/
def placed (recs : List FrameRec) (slots : List (Fin 320)) : List FrameRec :=
  List.zipWith (fun r i => { r with slot := i }) recs slots

theorem placed_numbers (recs : List FrameRec) {slots : List (Fin 320)} (h : recs.length = slots.length) :
    (placed recs slots).map (·.number) = recs.map (·.number) := by
  induction recs generalizing slots with
  | nil => rfl
  | cons r recs ih =>
    cases slots with
    | nil => cases h
    | cons i slots => exact congrArg (r.number :: ·) (ih (Nat.succ.inj h))

theorem placed_slots (recs : List FrameRec) {slots : List (Fin 320)} (h : recs.length = slots.length) :
    (placed recs slots).map (·.slot) = slots := by
  induction recs generalizing slots with
  | nil => exact (List.eq_nil_of_length_eq_zero h.symm).symm
  | cons r recs ih =>
    cases slots with
    | nil => cases h
    | cons i slots => exact congrArg (i :: ·) (ih (Nat.succ.inj h))

theorem mem_placed {recs : List FrameRec} {slots : List (Fin 320)} {r' : FrameRec} (h : r' ∈ placed recs slots) :
    ∃ r ∈ recs, ∃ i, r' = { r with slot := i } := by
  induction recs generalizing slots with
  | nil => cases h
  | cons r recs ih =>
    cases slots with
    | nil => cases h
    | cons i slots =>
      rcases List.mem_cons.mp h with rfl | hmem
      · exact ⟨r, List.mem_cons_self, i, rfl⟩
      · obtain ⟨r₀, hr₀, i₀, rfl⟩ := ih hmem
        exact ⟨r₀, List.mem_cons_of_mem _ hr₀, i₀, rfl⟩

theorem placed_get {recs : List FrameRec} {slots : List (Fin 320)} (h : recs.length = slots.length) {k : Nat} {r : FrameRec}
    (hr : recs[k]? = some r) : ∃ i, (placed recs slots)[k]? = some { r with slot := i } := by
  obtain ⟨hk, -⟩ := List.getElem?_eq_some_iff.mp hr
  refine ⟨slots[k]'(h ▸ hk), ?_⟩
  rw [placed, List.getElem?_zipWith, hr, List.getElem?_eq_getElem (h ▸ hk)]

/-! ### The reservation (R32 to R35) -/

theorem openMap_of_open {s : State} {st : St} {m : RollMap} (h : s.rolls[st].map = some m) (hopen : m.closing = none) :
    openMap s st m.roll = some m := by
  rw [openMap, h]
  exact if_pos ⟨rfl, hopen⟩

/-- Without an open map of the roll number a reservation is MAP_CLOSED (R31). -/
theorem reserve_mapClosed {s : State} {st : St} {roll : Nat} (q : Request)
    (h : ∀ m, s.rolls[st].map = some m → m.roll ≠ roll ∨ m.closing.isSome = true) : reserve st roll q s = (.mapClosed, s) := by
  have hnone : openMap s st roll = none := by
    unfold openMap
    split
    · next m hm =>
      rw [if_neg]
      rintro ⟨hroll, hopen⟩
      rcases h m hm with hne | hclosing
      · exact hne hroll
      · rw [hopen] at hclosing; cases hclosing
    · rfl
  unfold reserve
  rw [hnone]

/-- What a reservation for a request's order finds: the open map, the order's plan, the stock, the tariff and the account. -/
structure Reservable (s : State) (st : St) (m : RollMap) (q : Request) (i : Fin 16) (o : Order) (steps : List PlanStep) (stock : Stock)
    (t : Tariff) (j : Fin 32) (a : Account) : Prop where
  map : s.rolls[st].map = some m
  isOpen : m.closing = none
  order : OrderAt s i o
  number : o.terms.number = q.order
  copies : 1 ≤ o.terms.copies ∧ o.terms.copies ≤ 4
  plan : s.plans[o.terms.plan] = some steps
  planLegal : PlanLegal steps
  stock : stockOf s m.stock = some stock
  tariff : s.tariffs[o.cls] = some t
  tariffLegal : TariffLegal t
  account : AccountAt s j a
  accountNumber : a.number = o.terms.account

/-- The sum H of a request's hold amounts (R99). -/
def holdOf (o : Order) (steps : List PlanStep) (t : Tariff) : Nat := (steps.map fun p => o.terms.copies * frameHold t p.isNominal).sum

/-- A reservation that stands (R35): the records from N on, with their slots, and what it has changed. -/
structure Stands (s u : State) (st : St) (m : RollMap) (q : Request) (i : Fin 16) (o : Order) (steps : List PlanStep) (stock : Stock)
    (t : Tariff) (j : Fin 32) (a : Account) (recs : List FrameRec) : Prop where
  only : OnlyChanges [.rolls, .orders, .accounts, .composer] s u
  others : OthersSame st s.rolls u.rolls
  map : u.rolls[st].map = some { m with frames := m.frames ++ recs, next := m.next + setSize steps o }
  numbers : recs.map (·.number) = List.range' m.next (setSize steps o)
  slots : recs.map (·.slot) = (freeSlots s.composer).take (setSize steps o)
  all : ∀ r ∈ recs, r.state = .reserved ∧ r.order = q.order ∧ r.original = q.original
  get : ∀ (x y : Nat) (p : PlanStep), steps[x]? = some p → y < o.terms.copies →
    ∃ k, recs[x * o.terms.copies + y]? = some { bracketFrame stock o q t m.next x p y with slot := k }
  tied : ∀ r ∈ recs, u.composer.slots[r.slot] = .reserved (.frame st r.number)
  untied : ∀ k : Fin 320, k ∉ (freeSlots s.composer).take (setSize steps o) → u.composer.slots[k] = s.composer.slots[k]
  accounts : u.accounts = s.accounts.set j.val (some { a with held := a.held + holdOf o steps t }) j.isLt
  orders : u.orders = s.orders.set i.val (some { o with reserved := min (o.reserved + setSize steps o) 4294967295 }) i.isLt
  count : freeCount u.composer + setSize steps o = freeCount s.composer

section
variable {s : State} {st : St} {m : RollMap} {q : Request} {i : Fin 16} {o : Order} {steps : List PlanStep} {stock : Stock}
  {t : Tariff} {j : Fin 32} {a : Account} (h : Reservable s st m q i o steps stock t j a)
include h

theorem Reservable.reserve_eq : reserve st m.roll q s =
    (if m.length < setSize steps o then (.tooManyFrames, s)
      else if m.length + 1 - m.next < setSize steps o then (.noRoom, s)
      else if m.header = none then (.labels, s)
      else reserveSet st m o (bracketSet stock o q steps t m.next) s) := by
  unfold reserve
  rw [openMap_of_open h.map h.isOpen, orderOf_of_at h.order h.number]
  dsimp only
  rw [h.plan, h.stock, h.tariff]

theorem Reservable.reserve_tooManyFrames (hlong : m.length < setSize steps o) : reserve st m.roll q s = (.tooManyFrames, s) := by
  rw [h.reserve_eq, if_pos hlong]

theorem Reservable.reserve_noRoom (hlen : setSize steps o ≤ m.length) (hfew : m.length + 1 - m.next < setSize steps o) :
    reserve st m.roll q s = (.noRoom, s) := by
  rw [h.reserve_eq, if_neg (Nat.not_lt.mpr hlen), if_pos hfew]

theorem Reservable.holdSum_eq (first : Nat) : holdSum (bracketSet stock o q steps t first) = holdOf o steps t := by
  obtain ⟨-, hseven, -, -⟩ := h.planLegal
  have hlen : (bracketSet stock o q steps t first).length ≤ 28 := by
    rw [bracketSet_eq, bracketFrom_length]
    calc steps.length * o.terms.copies ≤ 7 * 4 := Nat.mul_le_mul hseven h.copies.2
      _ = 28 := rfl
  have hhold : ∀ r ∈ bracketSet stock o q steps t first, r.hold ≤ 131070 := fun r hr => by
    obtain ⟨x, p, y, rfl⟩ := mem_bracketFrom stock o q t first hr
    exact frameHold_le h.tariffLegal _
  rw [(holdAmountsAndFitTest.2.1 _ hlen hhold).1, bracketSet_eq, bracketFrom_holds, holdOf]

/-- The state that a reservation leaves, with the slots as they then stand (R35). -/
def reservedState (s : State) (st : St) (i : Fin 16) (o : Order) (j : Fin 32) (a : Account) (recs : List FrameRec) (hold : Nat)
    (v : Vector Slot 320) : State :=
  { s with
      accounts := s.accounts.set j.val (some { a with held := a.held + hold }) j.isLt
      composer := { s.composer with slots := v }
      rolls := upd s.rolls st fun r => { r with map := r.map.map fun m =>
        { m with frames := m.frames ++ recs, next := m.next + recs.length } }
      orders := s.orders.set i.val (some { o with reserved := satAdd o.reserved recs.length }) i.isLt }

omit h in
theorem reservedState_onlyChanges (recs : List FrameRec) (hold : Nat) (v : Vector Slot 320) :
    OnlyChanges [.rolls, .orders, .accounts, .composer] s (reservedState s st i o j a recs hold v) := by
  intro p hp
  cases p with
  | rolls | orders | accounts | composer => exact absurd (by decide) hp
  | _ => rfl

theorem Reservable.standReservation_eq (recs : List FrameRec) (hsize : recs.length ≤ freeCount s.composer) : ∃ v,
    standReservation st o recs s = reservedState s st i o j a (placed recs ((freeSlots s.composer).take recs.length)) (holdSum recs) v
      ∧ (∀ k, k ∉ (freeSlots s.composer).take recs.length → v[k] = s.composer.slots[k])
      ∧ ∀ r ∈ placed recs ((freeSlots s.composer).take recs.length), v[r.slot] = .reserved (.frame st r.number) := by
  have htake : recs.length = ((freeSlots s.composer).take recs.length).length := (take_freeSlots_length hsize).symm
  have hplaced : recs.length = (placed recs ((freeSlots s.composer).take recs.length)).length := by
    have := congrArg List.length (placed_numbers recs htake)
    rw [List.length_map, List.length_map] at this
    exact this.symm
  have hkeys : ((placed recs ((freeSlots s.composer).take recs.length)).map fun r => (r.slot, r.number)).map Prod.fst
      = (freeSlots s.composer).take recs.length := by
    rw [List.map_map]; exact placed_slots recs htake
  have haccount := h.account
  have horder := h.order
  obtain ⟨v, hv, hother, hself⟩ := reserveSlots_slots st
    ((placed recs ((freeSlots s.composer).take recs.length)).map fun r => (r.slot, r.number))
    (modAccount j (fun a => { a with held := a.held + holdSum recs }) s)
  rw [hkeys] at hother hself
  refine ⟨v, ?_, hother, fun r hr => hself ((freeSlots_nodup _).sublist (List.take_sublist _ _)) _ (List.mem_map.mpr ⟨r, hr, rfl⟩)⟩
  have hheld : addHeld o.terms.account (holdSum recs) s = modAccount j (fun a => { a with held := a.held + holdSum recs }) s := by
    rw [addHeld, accountIdx_of_at haccount h.accountNumber]
  unfold standReservation
  dsimp only
  rw [hheld]
  generalize hrecs : placed recs ((freeSlots s.composer).take recs.length) = recs' at hv hplaced ⊢
  have hzip : List.zipWith (fun r i => ({ r with slot := i } : FrameRec)) recs ((freeSlots s.composer).take recs.length) = recs' := hrecs
  rw [hzip, hv, reportOrder_of_at (by exact horder) rfl, hplaced]
  have hacc : upd s.accounts j (Option.map fun a => { a with held := a.held + holdSum recs })
      = s.accounts.set j.val (some { a with held := a.held + holdSum recs }) j.isLt := by
    rw [upd, haccount.1]; rfl
  have hord : upd s.orders i (Option.map fun o => { o with reserved := satAdd o.reserved recs'.length })
      = s.orders.set i.val (some { o with reserved := satAdd o.reserved recs'.length }) i.isLt := by
    rw [upd, horder.1]; rfl
  rw [reservedState, ← hacc, ← hord]
  rfl

theorem Reservable.stands (hslots : setSize steps o ≤ freeCount s.composer) : Stands s
    (standReservation st o (bracketSet stock o q steps t m.next) s) st m q i o steps stock t j a
    (placed (bracketSet stock o q steps t m.next) ((freeSlots s.composer).take (setSize steps o))) := by
  have hsize : (bracketSet stock o q steps t m.next).length = setSize steps o := by
    rw [bracketSet_eq, bracketFrom_length, setSize]
  obtain ⟨v, heq, hother, hself⟩ := h.standReservation_eq (bracketSet stock o q steps t m.next) (by rw [hsize]; exact hslots)
  rw [hsize] at heq hother hself
  have htake : (bracketSet stock o q steps t m.next).length = ((freeSlots s.composer).take (setSize steps o)).length :=
    hsize.trans (take_freeSlots_length hslots).symm
  have hnumbers := placed_numbers _ htake
  have hplaced : (placed (bracketSet stock o q steps t m.next) ((freeSlots s.composer).take (setSize steps o))).length
      = setSize steps o := by
    have := congrArg List.length hnumbers
    rw [List.length_map, List.length_map] at this
    exact this.trans hsize
  have hplacedSlots := placed_slots _ htake
  rw [heq, h.holdSum_eq]
  refine {
    only := reservedState_onlyChanges _ _ v, others := othersSame_upd _ _ _, map := ?_, numbers := ?_, slots := hplacedSlots
    all := fun r hr => ?_, get := fun x y p hx hy => placed_get htake ?_, tied := hself, untied := hother, accounts := rfl
    orders := ?_, count := freeCount_of_taken hslots (fun k hk => ?_) hother }
  · have hupd : (reservedState s st i o j a (placed (bracketSet stock o q steps t m.next)
        ((freeSlots s.composer).take (setSize steps o))) (holdOf o steps t) v).rolls[st] = _ := upd_self _ _ _
    rw [hupd, h.map, Option.map_some, hplaced]
  · rw [hnumbers, bracketSet_eq, bracketFrom_numbers, Nat.zero_mul, Nat.add_zero, setSize]
  · obtain ⟨r₀, hr₀, k, rfl⟩ := mem_placed hr
    obtain ⟨x, p, y, rfl⟩ := mem_bracketFrom stock o q t m.next hr₀
    exact ⟨rfl, rfl, rfl⟩
  · rw [bracketSet_eq, bracketFrom_get stock o q t m.next 0 hx hy, Nat.zero_add]
  · rw [reservedState, hplaced]; rfl
  · rw [← hplacedSlots] at hk
    obtain ⟨r, hr, rfl⟩ := List.mem_map.mp hk
    rw [show (reservedState s st i o j a _ _ v).composer.slots[r.slot] = v[r.slot] from rfl, hself r hr]
    nofun

section
variable (hlen : setSize steps o ≤ m.length) (hroom : setSize steps o ≤ m.length + 1 - m.next)
include hlen hroom

theorem Reservable.reserve_noHeader (hheader : m.header = none) : reserve st m.roll q s = (.labels, s) := by
  rw [h.reserve_eq, if_neg (Nat.not_lt.mpr hlen), if_neg (Nat.not_lt.mpr hroom), if_pos hheader]

variable (hheader : m.header.isSome = true)
include hheader

theorem Reservable.reserve_set : reserve st m.roll q s =
    (if fits a (holdOf o steps t) then
      if setSize steps o ≤ freeCount s.composer then
        (.reserved m.next (setSize steps o), standReservation st o (bracketSet stock o q steps t m.next) s)
      else (.labels, addLabelWaiter st (setSize steps o) s)
    else (.budget, s)) := by
  have hsize : (bracketSet stock o q steps t m.next).length = setSize steps o := by
    rw [bracketSet_eq, bracketFrom_length, setSize]
  rw [h.reserve_eq, if_neg (Nat.not_lt.mpr hlen), if_neg (Nat.not_lt.mpr hroom), if_neg (Option.isSome_iff_ne_none.mp hheader),
    reserveSet, accountOf_of_at h.account h.accountNumber]
  dsimp only
  rw [h.holdSum_eq, hsize]

theorem Reservable.reserve_budget {c : Nat} (hc : a.ceiling = some c) (hlegal : c ≤ 4294967294)
    (hover : c < a.spent + a.held + holdOf o steps t) : reserve st m.roll q s = (.budget, s) := by
  rw [h.reserve_set hlen hroom hheader, if_neg]
  rw [fits_of_ceiling _ hc hlegal]
  omega

variable (hfits : ∀ c, a.ceiling = some c → c ≤ 4294967294 ∧ a.spent + a.held + holdOf o steps t ≤ c)
include hfits

theorem Reservable.reserve_fewSlots (hfew : freeCount s.composer < setSize steps o) :
    reserve st m.roll q s = (.labels, addLabelWaiter st (setSize steps o) s) := by
  rw [h.reserve_set hlen hroom hheader, if_pos (fits_of_legal hfits), if_neg (Nat.not_le.mpr hfew)]

theorem Reservable.reserve_stands (hslots : setSize steps o ≤ freeCount s.composer) : ∃ u recs,
    reserve st m.roll q s = (.reserved m.next (setSize steps o), u) ∧ Stands s u st m q i o steps stock t j a recs := by
  rw [h.reserve_set hlen hroom hheader, if_pos (fits_of_legal hfits), if_pos hslots]
  exact ⟨_, _, rfl, h.stands hslots⟩

end

end

end Sys2Proof.Machine
end

section
/-! PROOFS. An EXPOSE to a READY station with an empty queue (R69, R70): it is admitted, and its reservation is made at once. -/

namespace Sys2Proof.Machine

/-- A request that has just been admitted is being tried: nothing of it has been exposed (R68, R69). -/
def FreshRequest (q : Request) : Prop :=
  q.state = .running ∧ q.frames = none ∧ q.exposed = 0 ∧ q.spoiled = 0 ∧ q.abort = false ∧ q.outcome = none

/-- The state in which the station of an admitted EXPOSE makes its reservation: the frame has been answered, the order counts the
request, which stands alone in the queue; and where the reservation's answer leads, the command ends (R17, R69). -/
structure Tries (s v : State) (f : LinkFrame) (st : St) (m : RollMap) (i : Fin 16) (o : Order) (q : Request) : Prop where
  only : OnlyChanges [.port, .inHand, .eventQueue, .stations, .orders] s v
  answered : Answered s v f .done [] []
  orders : v.orders = s.orders.set i.val (some { o with outstanding := o.outstanding + 1 }) i.isLt
  order : OrderAt v i { o with outstanding := o.outstanding + 1 }
  others : OthersSame st s.stations v.stations
  station : v.stations[st] = { s.stations[st] with queue := [q] }
  fresh : FreshRequest q
  room : Room s 1 → Room v 1
  exec : ∀ u, takeReservation st m.roll (reserve st m.roll q v) = u → Settled u → EngineBusy u → exec .expose s = .next u

theorem Tries.head {s v : State} {f : LinkFrame} {st : St} {m : RollMap} {i : Fin 16} {o : Order} {q : Request}
    (h : Tries s v f st m i o q) : headOf v st = some q := by rw [headOf, h.station]; rfl

theorem tryHead_eq {s : State} {st : St} {m : RollMap} {q : Request} (hq : headOf s st = some q) (hm : s.rolls[st].map = some m) :
    tryHead st s = takeReservation st m.roll (reserve st m.roll { q with state := .running }
      (modHead st (fun q => { q with state := .running }) s)) := by
  have hhead := headOf_modHead hq fun q => { q with state := .running }
  have hroll : rollOf (modHead st (fun q => { q with state := .running }) s) st = m.roll := by
    rw [rollOf, modHead_rolls, hm]; rfl
  unfold tryHead
  dsimp only
  rw [hhead]
  dsimp only
  rw [hroll]

/-- The request has joined the empty queue, and its order counts it (R17). -/
def requestJoined (st : St) (i : Fin 16) (q : Request) (s : State) : State :=
  modOrder i (fun o => { o with outstanding := o.outstanding + 1 }) (modStation st (fun x => { x with queue := x.queue ++ [q] }) s)

theorem requestJoined_onlyChanges (st : St) (i : Fin 16) (q : Request) (s : State) :
    OnlyChanges [.stations, .orders] s (requestJoined st i q s) :=
  ((modStation_onlyChanges st _ s).widen).andThen (modOrder_onlyChanges i _ _)

theorem requestJoined_station {s : State} {st : St} (h : s.stations[st].queue = []) (i : Fin 16) (q : Request) :
    (requestJoined st i q s).stations[st] = { s.stations[st] with queue := [q] } := by
  refine (modStation_self st _ s).trans ?_
  rw [h]
  rfl

theorem requestJoined_order {s : State} {i : Fin 16} {o : Order} (ho : OrderAt s i o) (st : St) (q : Request) :
    requestJoined st i q s = setOrder i { o with outstanding := o.outstanding + 1 }
      (modStation st (fun x => { x with queue := x.queue ++ [q] }) s) :=
  modOrder_eq_setOrder (s := modStation st (fun x => { x with queue := x.queue ++ [q] }) s) ho.1 _

/-- A READY station without a request, on an open roll (R69). -/
structure ReadyToTry (s : State) (st : St) (m : RollMap) : Prop where
  state : s.stations[st].state = .ready
  noCheck : s.stations[st].rollCheck = false
  noPost : s.stations[st].pendingPost = none
  empty : s.stations[st].queue = []
  map : s.rolls[st].map = some m
  isOpen : m.closing = none

/-- The station tries the request that joins it, and no other station has anything to do (R69). -/
theorem settle_requestJoined {s u : State} {st : St} {m : RollMap} {i : Fin 16} {q : Request} (hs : Settled s)
    (h : ReadyToTry s st m) (hu : tryHead st (requestJoined st i q s) = u) (hsettled : Settled u) :
    settle (requestJoined st i q s) = u := by
  have honly := requestJoined_onlyChanges st i q s
  have hself := requestJoined_station (q := q) h.empty i
  have hothers : OthersSame st s.stations (requestJoined st i q s).stations := othersSame_upd _ _ _
  have hrolls : (requestJoined st i q s).rolls = s.rolls := honly .rolls (by decide)
  have hbindings : (requestJoined st i q s).bindings = s.bindings := honly .bindings (by decide)
  have hdevices : (requestJoined st i q s).devices = s.devices := honly .devices (by decide)
  have hlength : (requestJoined st i q s).stations[st].queue.length = 1 := by rw [hself]; rfl
  refine settle_of_one (st := st) (fun st' hne => ?_) ?_ hsettled
  · exact atRest_congr (hothers st' hne) (by rw [hrolls]) (bothUp_kept (by rw [hbindings]) (by rw [hdevices]; exact .refl _)) (hs st')
  · have hnot : resumable (requestJoined st i q s) st = false := by
      rw [Bool.eq_false_iff, ne_eq, resumable_iff, hself, h.state]
      exact fun hr => nomatch hr.1
    have htry : tryable (requestJoined st i q s) st = true := by
      have hclose : closeUnderWay (requestJoined st i q s) st = false := by
        rw [closeUnderWay, hrolls, h.map, Option.map_some, h.isOpen]; rfl
      rw [tryable_iff, hself, hrolls, h.map]
      exact ⟨h.state, h.noCheck, h.noPost, rfl, hclose, List.cons_ne_nil _ _⟩
    rw [hlength, settleStation_tries 1 hnot htry (by rw [hu]; exact hsettled st), hu]

/-- An EXPOSE that passes R15 to R17, to a READY station with an empty queue. -/
theorem expose_tries {s : State} {f : LinkFrame} {x : ExposeFields} {st : St} {m : RollMap} {i : Fin 16} {o : Order}
    (hl : Live s) (hs : Settled s) (hi : InHandIs s f .intercept) (hx : parseExpose f.payload = some x)
    (hfields : ¬ (x.order = 0 ∨ x.original = 0 ∨ 9999 < x.original)) (hst : exposeStation s f.dst = some st) (ho : OrderAt s i o)
    (hn : o.terms.number = x.order) (hc : o.closing = false) (hterm : o.terms.station = st) (hres : 1 ≤ s.eq.reserved)
    (h : ReadyToTry s st m) : ∃ v q, Tries s v f st m i o q ∧ q.order = x.order ∧ q.original = x.original ∧ q.tag = f.tag := by
  have hcheck := checkExpose_of_order hx hfields hst ho hn
  rw [if_neg (by rw [hc]; nofun), if_neg (not_not_intro hterm), if_neg (by rw [h.state]; nofun),
    if_neg (by rw [h.empty]; decide)] at hcheck
  have hkept := answerHand_onlyChanges f .done [] s
  obtain ⟨w, hw⟩ : ∃ w, w = answerHand f .done [] s := ⟨_, rfl⟩
  have hanswered : Answered s w f .done [] [] := hw ▸ answerHand_answered f .done [] s
  have hsw : Settled w := hw ▸ answerHand_settled hs f .done []
  have hroom : Room s 1 → Room w 1 := fun hr => hw ▸ answerHand_room hr hres f .done []
  have hexec : exec .expose s = .next (finish (requestJoined st i (x.request f.tag) w)) := by
    rw [exec_expose, live_of_live hl, exposeHand_of_hand hi, hcheck, answered, admitRequest, ← hw, requestJoined]
  rw [← hw] at hkept
  have hwstations : w.stations = s.stations := hkept .stations (by decide)
  have hwrolls : w.rolls = s.rolls := hkept .rolls (by decide)
  have hworders : w.orders = s.orders := hkept .orders (by decide)
  have hready : ReadyToTry w st m := by
    obtain ⟨h1, h2, h3, h4, h5, h6⟩ := h
    rw [← hwstations] at h1 h2 h3 h4
    rw [← hwrolls] at h5
    exact ⟨h1, h2, h3, h4, h5, h6⟩
  have how : OrderAt w i o := ho.congr hworders
  obtain ⟨z, hz⟩ : ∃ z, z = requestJoined st i (x.request f.tag) w := ⟨_, rfl⟩
  have hzself : z.stations[st] = { w.stations[st] with queue := [x.request f.tag] } := hz ▸ requestJoined_station hready.empty i _
  have hzonly : OnlyChanges [.stations, .orders] w z := hz ▸ requestJoined_onlyChanges st i _ w
  have hzothers : OthersSame st w.stations z.stations := by rw [hz]; exact othersSame_upd _ _ _
  have hzorder : z = setOrder i { o with outstanding := o.outstanding + 1 }
      (modStation st (fun y => { y with queue := y.queue ++ [x.request f.tag] }) w) := hz.trans (requestJoined_order how st _)
  have hzhead : headOf z st = some (x.request f.tag) := by rw [headOf, hzself]; rfl
  have hzmap : z.rolls[st].map = some m := by rw [hzonly .rolls (by decide)]; exact hready.map
  have htry := tryHead_eq hzhead hzmap
  obtain ⟨v, hv⟩ : ∃ v, v = modHead st (fun q => { q with state := .running }) z := ⟨_, rfl⟩
  have hvonly : OnlyChanges [.stations] z v := hv ▸ modHead_onlyChanges st _ z
  have hvorders : v.orders = z.orders := hvonly .orders (by decide)
  rw [← hv] at htry
  refine ⟨v, { x.request f.tag with state := .running }, ?_, rfl, rfl, rfl⟩
  refine {
    only := ((hkept.widen).andThen hzonly).andThen hvonly, answered := ?_, orders := ?_, order := ?_
    others := ?_, station := ?_, fresh := ⟨rfl, rfl, rfl, rfl, rfl, rfl⟩, room := fun hr => ?_, exec := fun u hu hsu hbu => ?_ }
  · exact hanswered.of_same ((hvonly .port (by decide)).trans (hzonly .port (by decide)))
      ((hvonly .inHand (by decide)).trans (hzonly .inHand (by decide)))
      ((hvonly .eventQueue (by decide)).trans (hzonly .eventQueue (by decide)))
  · rw [hvorders, hzorder, ← hworders]; rfl
  · refine OrderAt.congr ?_ hvorders
    rw [hzorder]
    exact OrderAt.set (s := modStation st (fun y => { y with queue := y.queue ++ [x.request f.tag] }) w) (how.congr rfl) rfl
  · rw [← hwstations, hv]
    exact hzothers.trans (othersSame_upd _ _ _)
  · rw [hv, modHead_stations, upd_self, hzself, hwstations]
    rfl
  · exact (hroom hr).congr ((hvonly .eventQueue (by decide)).trans (hzonly .eventQueue (by decide)))
  · have hsettle := settle_requestJoined (i := i) (q := x.request f.tag) hsw hready (by rw [← hz, htry, hu]) hsu
    rw [hexec, finish, hsettle, arbitrate_of_busy hbu]

end Sys2Proof.Machine
end

section
/-! PROOFS. What the answer to the reservation of an admitted EXPOSE leads to (R70): the request ends, the roll is unloaded, the
station waits for labels, or the first frame's boundary is taken; and the reservation rule whole (R31 to R35, R69, R70, R121). -/

namespace Sys2Proof.Machine

section
variable {s v : State} {f : LinkFrame} {st : St} {b : Binding} {m : RollMap} {i : Fin 16} {o : Order} {q : Request}
  (h : Tries s v f st m i o q) (hs : Settled s) (hbusy : EngineBusy s) (hready : ReadyToTry s st m) (hup : BoundUp s st b)
include h hs hbusy hready hup

omit hs hbusy hready hup in
/-- Nothing but the station, its order and the answer has moved while the station tries its head. -/
theorem Tries.same : v.rolls = s.rolls ∧ v.bindings = s.bindings ∧ v.devices = s.devices ∧ v.ring = s.ring ∧ v.composer = s.composer
    ∧ v.pins = s.pins ∧ v.accounts = s.accounts :=
  ⟨h.only .rolls (by decide), h.only .bindings (by decide), h.only .devices (by decide), h.only .ring (by decide),
    h.only .composer (by decide), h.only .pins (by decide), h.only .accounts (by decide)⟩

/-! ### The request ends (R70, R83) -/

theorem expose_ends (hend : s.stations[st].rollEnd = false) (hleft : s.stations[st].leftUp = false) (hn : o.terms.number = q.order)
    (hc : o.closing = false) (ho : s.orders[i] = some o) (hroom : Room s 1) {x : RequestOutcome}
    (hx : takeReservation st m.roll (reserve st m.roll q v) = endRequest st x v) : Completes (exec .expose s) fun u =>
      OnlyChanges [.port, .inHand, .eventQueue, .stations, .orders, .devices] s u
        ∧ Answered s u f .done [] [.event q.tag (.requestDone q.order q.original 0 0 0 0 x)]
        ∧ OthersSame st s.stations u.stations ∧ u.stations[st].state = .ready ∧ u.stations[st].queue = []
        ∧ u.orders = s.orders := by
  obtain ⟨hrolls, hbindings, hdevices, hring, -⟩ := h.same
  obtain ⟨-, hframes, hexposed, hspoiled, -, -⟩ := h.fresh
  have hdone : q.doneEvent x = .requestDone q.order q.original 0 0 0 0 x := by
    rw [Request.doneEvent, hframes, hexposed, hspoiled]; rfl
  obtain ⟨p, d, hsends, hkept, -, he⟩ := endRequest_gone h.head h.order hn hc (h.room hroom) x
  rw [hdone] at he
  obtain ⟨w, hw⟩ : ∃ w : State, w = { v with
    port := p, eq := { v.eq with records := v.eq.records ++ [.event q.tag (.requestDone q.order q.original 0 0 0 0 x)] } } := ⟨_, rfl⟩
  have hwonly : OnlyChanges [.port, .eventQueue] v w := by
    rw [hw]
    intro y hy
    cases y with
    | port | eventQueue => exact absurd (by decide) hy
    | _ => rfl
  have hwstations : w.stations = v.stations := hwonly .stations (by decide)
  have hanswered : Answered s w f .done [] [.event q.tag (.requestDone q.order q.original 0 0 0 0 x)] := by
    obtain ⟨hnone, htransmits, hqueue⟩ := h.answered
    rw [hw]
    refine ⟨hnone, htransmits.trans hsends, ?_⟩
    show ({ v.eq with records := v.eq.records ++ [_] } : EventQueue) = _
    rw [hqueue, List.append_assoc]
    rfl
  rw [← hw] at he
  obtain ⟨t, ht⟩ : ∃ t, t = requestGone st i { o with outstanding := o.outstanding + 1 } d w := ⟨_, rfl⟩
  have htonly : OnlyChanges [.stations, .orders, .devices] w t := ht ▸ requestGone_onlyChanges st i _ d w
  have htself : t.stations[st] = { s.stations[st].quiet with queue := [], pendingPost := none, leftUp := false } := by
    rw [ht, requestGone_station, hwstations, h.station, Station.dequeue, if_neg]
    · rfl
    · show s.stations[st].state ≠ .suspended
      rw [hready.state]; nofun
  have htothers : OthersSame st v.stations t.stations := by
    rw [ht, ← hwstations]; exact othersSame_upd _ _ _
  have htorders : t.orders = s.orders := by
    rw [ht]
    show w.orders.set i.val (some o) i.isLt = s.orders
    rw [hwonly .orders (by decide), h.orders, Vector.set_set, ← ho]
    exact Vector.set_getElem_self _
  have htdevices : DevicesKept s.devices t.devices := by rw [ht, ← hdevices]; exact hkept
  have htmap : t.rolls[st].map = some m := by
    rw [htonly .rolls (by decide), hwonly .rolls (by decide), hrolls]; exact hready.map
  have htbindings : t.bindings = s.bindings :=
    ((htonly .bindings (by decide)).trans (hwonly .bindings (by decide))).trans hbindings
  have htring : t.ring = s.ring := ((htonly .ring (by decide)).trans (hwonly .ring (by decide))).trans hring
  have htrolls : t.rolls = s.rolls := ((htonly .rolls (by decide)).trans (hwonly .rolls (by decide))).trans hrolls
  have hgoes : takeReservation st m.roll (reserve st m.roll q v) = modStation st (fun x => { x with state := .ready }) t := by
    rw [hx, he, ← ht, h.station, hleft]
    refine afterRequest_ready (by rw [htself]; exact hend) htmap ?_ ((hup.kept (by rw [htbindings]) htdevices).2)
    rw [htself]
    exact fun hsusp => nomatch hready.state.symm.trans hsusp
  have hself : (modStation st (fun x => { x with state := .ready }) t).stations[st]
      = { s.stations[st].quiet with state := .ready, queue := [], pendingPost := none, leftUp := false } := by
    rw [modStation_self, htself]
  have hothers : OthersSame st s.stations (modStation st (fun x => { x with state := .ready }) t).stations :=
    (h.others.trans htothers).trans (othersSame_upd _ _ _)
  have hmod := modStation_onlyChanges st (fun x => { x with state := .ready }) t
  refine ⟨_, h.exec _ hgoes ?_ ?_, ?_, ?_, hothers, by rw [hself], by rw [hself], htorders⟩
  · refine settled_of_others hs hothers (by rw [modStation_rolls, htrolls]; exact othersSame_refl _ _) htbindings htdevices ?_
    exact atRest_of_empty (by rw [hself]; nofun) (by rw [hself])
  · show t.ring.engine.isSome = true
    rw [htring]; exact hbusy
  · exact (((h.only.widen).andThen hwonly).andThen htonly).andThen hmod
  · exact hanswered.of_same ((hmod .port (by decide)).trans (htonly .port (by decide)))
      ((hmod .inHand (by decide)).trans (htonly .inHand (by decide)))
      ((hmod .eventQueue (by decide)).trans (htonly .eventQueue (by decide)))

/-! ### The roll has no room (R70, R38) -/

omit hready in
theorem expose_unloads (hx : reserve st m.roll q v = (.noRoom, v)) : Completes (exec .expose s) fun u =>
    OnlyChanges [.port, .inHand, .eventQueue, .stations, .orders, .devices, .ring] s u ∧ Answered s u f .done [] []
      ∧ OthersSame st s.stations u.stations ∧ u.stations[st].state = .unloading
      ∧ headOf u st = some { q with state := .waitingFilm } ∧ u.orders = v.orders
      ∧ u.ring.asks[st] = some ⟨b.camera, 0x06, [], .rewind⟩ := by
  obtain ⟨hrolls, hbindings, hdevices, hring, -⟩ := h.same
  have hhead := headOf_modHead h.head fun q => { q with state := .waitingFilm }
  obtain ⟨w, hw⟩ : ∃ w, w = modHead st (fun q => { q with state := .waitingFilm }) v := ⟨_, rfl⟩
  have hwonly : OnlyChanges [.stations] v w := hw ▸ modHead_onlyChanges st _ v
  have hwothers : OthersSame st v.stations w.stations := by rw [hw]; exact othersSame_upd _ _ _
  have hgoes : takeReservation st m.roll (reserve st m.roll q v) = startUnload st w := by rw [hx, hw]; rfl
  rw [← hw] at hhead
  have hupw : BoundUp w st b := hup.kept (by rw [hwonly .bindings (by decide), hbindings])
    (by rw [hwonly .devices (by decide), hdevices]; exact .refl _)
  obtain ⟨d, hd, -, hstart⟩ := startUnload_standAsk hupw
  obtain ⟨u, hu⟩ : ∃ u, u = standAsk st ⟨b.camera, 0x06, [], .rewind⟩ { modStation st Station.unloads w with devices := d } := ⟨_, rfl⟩
  rw [← hu] at hstart
  have honly : OnlyChanges [.stations, .devices, .ring] w u := by
    rw [hu]
    exact (((modStation_onlyChanges st Station.unloads w).widen).andThen (devices_onlyChanges d _)).andThen (ring_onlyChanges _ _)
  have huself : u.stations[st] = w.stations[st].unloads := by rw [hu]; exact modStation_self st _ w
  have huothers : OthersSame st w.stations u.stations := by rw [hu]; exact othersSame_upd _ _ _
  have hudevices : DevicesKept w.devices u.devices := by rw [hu]; exact hd
  have huengine : u.ring.engine = w.ring.engine := by rw [hu]; rfl
  have huask : u.ring.asks[st] = some ⟨b.camera, 0x06, [], .rewind⟩ := by rw [hu]; exact set_self _ _ _
  have hall := ((h.only.widen (ps := [.port, .inHand, .eventQueue, .stations, .orders, .devices, .ring])).andThen hwonly).andThen honly
  have hothers := (h.others.trans hwothers).trans huothers
  have hstate : u.stations[st].state = .unloading := by rw [huself]; rfl
  refine ⟨_, h.exec _ (hgoes.trans hstart) ?_ ?_, hall, ?_, hothers, hstate, ?_, ?_, huask⟩
  · refine settled_of_others hs hothers (by rw [hall .rolls (by decide)]; exact othersSame_refl _ _) (hall .bindings (by decide)) ?_
      (Station.unloads_atRest hstate)
    rw [← hdevices, ← hwonly .devices (by decide)]; exact hudevices
  · show u.ring.engine.isSome = true
    rw [huengine, hwonly .ring (by decide), hring]; exact hbusy
  · exact h.answered.of_same ((honly .port (by decide)).trans (hwonly .port (by decide)))
      ((honly .inHand (by decide)).trans (hwonly .inHand (by decide)))
      ((honly .eventQueue (by decide)).trans (hwonly .eventQueue (by decide)))
  · rw [headOf, huself]
    exact hhead
  · rw [honly .orders (by decide), hwonly .orders (by decide)]

/-! ### The station waits for labels (R70, R121) -/

omit hready hup in
theorem expose_waits {w : State} (hx : reserve st m.roll q v = (.labels, w)) (hw : OnlyChanges [.composer] v w) :
    Completes (exec .expose s) fun u =>
      OnlyChanges [.port, .inHand, .eventQueue, .stations, .orders, .composer] s u ∧ Answered s u f .done [] []
        ∧ OthersSame st s.stations u.stations ∧ u.stations[st].state = .waitingLabels
        ∧ headOf u st = some { q with state := .waitingLabels } ∧ u.composer = w.composer ∧ u.orders = v.orders := by
  obtain ⟨hrolls, hbindings, hdevices, hring, -⟩ := h.same
  have hwstations : w.stations = v.stations := hw .stations (by decide)
  have hhead := headOf_modHead ((headOf_congr (by rw [hwstations])).trans h.head) fun q => { q with state := .waitingLabels }
  obtain ⟨t, ht⟩ : ∃ t, t = modHead st (fun q => { q with state := .waitingLabels }) w := ⟨_, rfl⟩
  have htonly : OnlyChanges [.stations] w t := ht ▸ modHead_onlyChanges st _ w
  have htothers : OthersSame st w.stations t.stations := by rw [ht]; exact othersSame_upd _ _ _
  have hgoes : takeReservation st m.roll (reserve st m.roll q v) = modStation st (fun x => { x with state := .waitingLabels }) t := by
    rw [hx, ht]; rfl
  rw [← ht] at hhead
  obtain ⟨u, hu⟩ : ∃ u, u = modStation st (fun x => { x with state := .waitingLabels }) t := ⟨_, rfl⟩
  have honly : OnlyChanges [.stations] t u := hu ▸ modStation_onlyChanges st _ t
  have huself : u.stations[st] = { t.stations[st] with state := .waitingLabels } := hu ▸ modStation_self st _ t
  have huothers : OthersSame st t.stations u.stations := by rw [hu]; exact othersSame_upd _ _ _
  have hall := (((h.only.widen (ps := [.port, .inHand, .eventQueue, .stations, .orders, .composer])).andThen hw).andThen
    htonly).andThen honly
  have hothers : OthersSame st s.stations u.stations := (h.others.trans (by rw [← hwstations]; exact htothers)).trans huothers
  refine ⟨u, h.exec _ (hgoes.trans hu.symm) ?_ ?_, hall, ?_, hothers, by rw [huself], ?_, ?_, ?_⟩
  · refine settled_of_others hs hothers (by rw [hall .rolls (by decide)]; exact othersSame_refl _ _) (hall .bindings (by decide)) ?_
      (atRest_of_state (by rw [huself]; nofun) (by rw [huself]; nofun))
    rw [hall .devices (by decide)]
    exact .refl _
  · show u.ring.engine.isSome = true
    rw [hall .ring (by decide)]; exact hbusy
  · exact h.answered.of_same (((honly .port (by decide)).trans (htonly .port (by decide))).trans (hw .port (by decide)))
      (((honly .inHand (by decide)).trans (htonly .inHand (by decide))).trans (hw .inHand (by decide)))
      (((honly .eventQueue (by decide)).trans (htonly .eventQueue (by decide))).trans (hw .eventQueue (by decide)))
  · rw [headOf, huself]
    exact hhead
  · rw [honly .composer (by decide), htonly .composer (by decide)]
  · rw [honly .orders (by decide), htonly .orders (by decide), hw .orders (by decide)]

end

/-! ### The reservation stands (R70, R74) -/

/-- The request with its frames reserved, its first step and copy current (R70). -/
def Request.reservedOn (m : RollMap) (n : Nat) (q : Request) : Request :=
  { q with frames := some ⟨m.roll, m.next, n⟩, step := 1, copy := 1 }

/-- The map with the request's records (R35). -/
def RollMap.joined (m : RollMap) (recs : List FrameRec) (n : Nat) : RollMap := { m with frames := m.frames ++ recs, next := m.next + n }

theorem Stands.length {s u : State} {st : St} {m : RollMap} {q : Request} {i : Fin 16} {o : Order} {steps : List PlanStep}
    {stock : Stock} {t : Tariff} {j : Fin 32} {a : Account} {recs : List FrameRec}
    (h : Stands s u st m q i o steps stock t j a recs) : recs.length = setSize steps o := by
  have hlen := congrArg List.length h.numbers
  rwa [List.length_map, List.length_range'] at hlen

/-- The record at the gate is the request's first one: no frame of the roll is reserved from N on (R33, R35). -/
theorem Stands.gate {s u : State} {st : St} {m : RollMap} {q : Request} {i : Fin 16} {o : Order} {steps : List PlanStep}
    {stock : Stock} {t : Tariff} {j : Fin 32} {a : Account} {recs : List FrameRec}
    (h : Stands s u st m q i o steps stock t j a recs) (hplan : 1 ≤ steps.length) (hcopies : 1 ≤ o.terms.copies)
    (hgate : m.gate = m.next) (hbelow : ∀ r ∈ m.frames, r.number < m.next) :
    ∃ r, recordAt (m.joined recs (setSize steps o)) m.gate = some r ∧ r.number = m.gate ∧ r.step = 1 ∧ r.copy = 1
      ∧ r.state = .reserved := by
  obtain ⟨k, hk⟩ := h.get 0 0 steps[0] (List.getElem?_eq_getElem hplan) hcopies
  rw [Nat.zero_mul] at hk
  obtain ⟨rest, hrecs⟩ : ∃ rest, recs = { bracketFrame stock o q t m.next 0 steps[0] 0 with slot := k } :: rest := by
    cases recs with
    | nil => cases hk
    | cons r rest => exact ⟨rest, congrArg (· :: rest) (Option.some.inj hk)⟩
  have hnumber : (bracketFrame stock o q t m.next 0 steps[0] 0).number = m.gate := by
    rw [hgate, bracketFrame]
    show m.next + 0 * o.terms.copies + 0 = m.next
    omega
  refine ⟨{ bracketFrame stock o q t m.next 0 steps[0] 0 with slot := k }, ?_, hnumber, rfl, rfl, rfl⟩
  have hold : m.frames.find? (fun r => r.number == m.gate) = none := by
    rw [List.find?_eq_none]
    intro r hr
    have := hbelow r hr
    simp only [beq_iff_eq]
    omega
  rw [recordAt, RollMap.joined, hrecs, List.find?_append, hold, Option.none_or, List.find?_cons_of_pos]
  exact beq_iff_eq.mpr hnumber

section
variable {s v u : State} {f : LinkFrame} {st : St} {b : Binding} {m : RollMap} {i : Fin 16} {o : Order} {q : Request}
  {steps : List PlanStep} {stock : Stock} {t : Tariff} {j : Fin 32} {a : Account} {recs : List FrameRec} {n : Nat}
  (h : Tries s v f st m i o q) (hs : Settled s) (hbusy : EngineBusy s) (hready : ReadyToTry s st m) (hup : BoundUp s st b)
  (hx : reserve st m.roll q v = (.reserved m.next n, u))
  (hst : Stands v u st m q i { o with outstanding := o.outstanding + 1 } steps stock t j a recs) (hn : setSize steps o = n)
include h hs hbusy hready hup hx hst hn

/-- The station stands at the boundary of its first frame; where the boundary leads, the command ends. -/
theorem expose_reserved : ∃ w, Drives w st b (q.reservedOn m n) (m.joined recs n) ∧ w.pins = s.pins ∧ w.ring = s.ring
    ∧ ∀ y, boundary st w = y → OnlyChanges [.stations, .devices, .ring] w y → OthersSame st w.stations y.stations →
        DevicesKept w.devices y.devices → y.ring.engine = w.ring.engine → AtRest y st →
        y.stations[st].queue = w.stations[st].queue →
        exec .expose s = .next y
          ∧ OnlyChanges [.port, .inHand, .eventQueue, .stations, .orders, .accounts, .rolls, .composer, .devices, .ring] s y
          ∧ Answered s y f .done [] [] ∧ OthersSame st s.stations y.stations ∧ OthersSame st s.rolls y.rolls
          ∧ Drives y st b (q.reservedOn m n) (m.joined recs n) ∧ y.orders = u.orders ∧ y.accounts = u.accounts := by
  obtain ⟨hrolls, hbindings, hdevices, hring, -, hpins, -⟩ := h.same
  obtain ⟨-, -, -, -, habort, -⟩ := h.fresh
  have hustations : u.stations = v.stations := hst.only .stations (by decide)
  have hhead := headOf_modHead ((headOf_congr (by rw [hustations])).trans h.head) (Request.reservedOn m n)
  obtain ⟨z, hz⟩ : ∃ z, z = modHead st (Request.reservedOn m n) u := ⟨_, rfl⟩
  have hzonly : OnlyChanges [.stations] u z := hz ▸ modHead_onlyChanges st _ u
  have hzothers : OthersSame st u.stations z.stations := by rw [hz]; exact othersSame_upd _ _ _
  have hgoes : takeReservation st m.roll (reserve st m.roll q v) = boundary st (modStation st (fun x => { x with state := .running }) z) := by
    rw [hx, hz]; rfl
  rw [← hz] at hhead
  obtain ⟨w, hw⟩ : ∃ w, w = modStation st (fun x => { x with state := .running }) z := ⟨_, rfl⟩
  have hwonly : OnlyChanges [.stations] z w := hw ▸ modStation_onlyChanges st _ z
  have hwself : w.stations[st] = { z.stations[st] with state := .running } := hw ▸ modStation_self st _ z
  have hwothers : OthersSame st z.stations w.stations := by rw [hw]; exact othersSame_upd _ _ _
  have hwhead : headOf w st = some (q.reservedOn m n) := by
    rw [headOf, hwself]; exact hhead
  have huw : OnlyChanges [.stations] u w := hzonly.andThen hwonly
  have hsw : OnlyChanges [.port, .inHand, .eventQueue, .stations, .orders, .accounts, .rolls, .composer, .devices, .ring] s w :=
    ((h.only.widen).andThen hst.only).andThen huw
  have hwmap : w.rolls[st].map = some (m.joined recs n) := by
    rw [huw .rolls (by decide), hst.map, ← hn]
    rfl
  have hwdevices : w.devices = s.devices :=
    ((huw .devices (by decide)).trans (hst.only .devices (by decide))).trans hdevices
  have hwring : w.ring = s.ring := ((huw .ring (by decide)).trans (hst.only .ring (by decide))).trans hring
  have hdrives : Drives w st b (q.reservedOn m n) (m.joined recs n) :=
    ⟨⟨hwhead, ⟨_, rfl, rfl⟩, hwmap, hready.isOpen⟩, habort, hup.kept (by rw [hsw .bindings (by decide)]) (by rw [hwdevices]; exact .refl _)⟩
  refine ⟨w, hdrives, hsw .pins (by decide), hwring, fun y hy honly hothers hkept hengine hrest hqueue => ?_⟩
  have hall := hsw.andThen honly
  have hstations : OthersSame st s.stations y.stations :=
    ((h.others.trans (by rw [← hustations]; exact hzothers)).trans hwothers).trans hothers
  have hyrolls : OthersSame st s.rolls y.rolls := by
    rw [honly .rolls (by decide), huw .rolls (by decide), ← hrolls]; exact hst.others
  have hydevices : DevicesKept s.devices y.devices := by rw [← hwdevices]; exact hkept
  have hyhead : headOf y st = some (q.reservedOn m n) := by rw [← hwhead, headOf, headOf, hqueue]
  refine ⟨h.exec y (hgoes.trans (by rw [← hw]; exact hy)) ?_ ?_, hall, ?_, hstations, hyrolls, ?_, ?_, ?_⟩
  · exact settled_of_others hs hstations hyrolls (hall .bindings (by decide)) hydevices hrest
  · show y.ring.engine.isSome = true
    rw [hengine, hwring]; exact hbusy
  · exact h.answered.of_same (((honly .port (by decide)).trans (huw .port (by decide))).trans (hst.only .port (by decide)))
      (((honly .inHand (by decide)).trans (huw .inHand (by decide))).trans (hst.only .inHand (by decide)))
      (((honly .eventQueue (by decide)).trans (huw .eventQueue (by decide))).trans (hst.only .eventQueue (by decide)))
  · exact hdrives.after hyhead ⟨rfl, rfl⟩ (by rw [honly .rolls (by decide)]; exact hwmap) ⟨rfl, rfl⟩ (honly .bindings (by decide)) hkept
  · rw [honly .orders (by decide), huw .orders (by decide)]
  · rw [honly .accounts (by decide), huw .accounts (by decide)]

/-- The boundary of the first frame: HELD on an asserted hold line, else its LAMP_SET is asked for (R74). -/
theorem expose_boundary {r : FrameRec} (hr : recordAt (m.joined recs n) m.gate = some r) : Completes (exec .expose s) fun y =>
    OnlyChanges [.port, .inHand, .eventQueue, .stations, .orders, .accounts, .rolls, .composer, .devices, .ring] s y
      ∧ Answered s y f .done [] [] ∧ OthersSame st s.stations y.stations ∧ OthersSame st s.rolls y.rolls
      ∧ Drives y st b (q.reservedOn m n) (m.joined recs n) ∧ y.orders = u.orders ∧ y.accounts = u.accounts
      ∧ (s.pins.hold[st] = true → y.stations[st].state = .held ∧ y.stations[st].phase = none ∧ y.ring = s.ring)
      ∧ (s.pins.hold[st] = false → y.stations[st].state = .running ∧ y.stations[st].phase = some .lampSet
        ∧ y.ring.asks[st] = some ⟨b.lamp, 0x03, lampPayload r.times, .lampSet⟩) := by
  obtain ⟨w, hdrives, hpins, hring, hends⟩ := expose_reserved h hs hbusy hready hup hx hst hn
  cases hhold : s.pins.hold[st] with
  | true =>
    obtain ⟨d, hd, -, -, he⟩ := hdrives.boundary_held (by rw [hpins]; exact hhold)
    obtain ⟨y, hy⟩ : ∃ y, y = ({ modStation st Station.holding w with devices := d } : State) := ⟨_, rfl⟩
    have hself : y.stations[st] = w.stations[st].holding := by rw [hy]; exact modStation_self st _ w
    have hyring : y.ring = w.ring := by rw [hy]; rfl
    have honlyW : OnlyChanges [.stations, .devices, .ring] w y := by
      rw [hy]; exact ((modStation_onlyChanges st Station.holding w).widen).andThen (devices_onlyChanges d _)
    obtain ⟨hexec, honly, hanswered, hothers, hrolls, hdrivesY, horders, hacc⟩ := hends y (by rw [he, hy]) honlyW
      (by rw [hy]; exact othersSame_upd _ _ _) (by rw [hy]; exact hd) (by rw [hyring])
      (atRest_of_state (by rw [hself]; nofun) (by rw [hself]; nofun)) (by rw [hself]; rfl)
    exact ⟨y, hexec, honly, hanswered, hothers, hrolls, hdrivesY, horders, hacc,
      fun _ => ⟨by rw [hself]; rfl, by rw [hself]; rfl, hyring.trans hring⟩, nofun⟩
  | false =>
    obtain ⟨d, hd, -, he⟩ := hdrives.boundary_lampSet (by rw [hpins]; exact hhold) hr
    obtain ⟨y, hy⟩ : ∃ y, y = standAsk st ⟨b.lamp, 0x03, lampPayload r.times, .lampSet⟩
      { modStation st Station.lampSetting w with devices := d } := ⟨_, rfl⟩
    have hself : y.stations[st] = w.stations[st].lampSetting := by rw [hy]; exact modStation_self st _ w
    have hask : y.ring.asks[st] = some ⟨b.lamp, 0x03, lampPayload r.times, .lampSet⟩ := by rw [hy]; exact set_self _ _ _
    have hengine : y.ring.engine = w.ring.engine := by rw [hy]; rfl
    have honlyW : OnlyChanges [.stations, .devices, .ring] w y := by
      rw [hy]
      exact (((modStation_onlyChanges st Station.lampSetting w).widen).andThen (devices_onlyChanges d _)).andThen
        (ring_onlyChanges _ _)
    obtain ⟨hexec, honly, hanswered, hothers, hrolls, hdrivesY, horders, hacc⟩ := hends y (by rw [he, hy]) honlyW
      (by rw [hy]; exact othersSame_upd _ _ _) (by rw [hy]; exact hd) hengine
      (atRest_of_state (by rw [hself]; nofun) (by rw [hself]; nofun)) (by rw [hself]; rfl)
    exact ⟨y, hexec, honly, hanswered, hothers, hrolls, hdrivesY, horders, hacc, nofun,
      fun _ => ⟨by rw [hself]; rfl, by rw [hself]; rfl, hask⟩⟩

end

/-! ### The rule whole (R31 to R35, R69, R70, R121) -/

/-- What a reservation finds stays found while the station tries its head: the order alone counts one more request. -/
theorem Tries.reservable {s v : State} {f : LinkFrame} {st : St} {m : RollMap} {i : Fin 16} {o : Order} {q : Request}
    {steps : List PlanStep} {stock : Stock} {t : Tariff} {j : Fin 32} {a : Account} (h : Tries s v f st m i o q)
    (hs : Reservable s st m q i o steps stock t j a) :
    Reservable v st m q i { o with outstanding := o.outstanding + 1 } steps stock t j a := by
  obtain ⟨hrolls, -, -, -, -, -, haccounts⟩ := h.same
  have hstock : stockOf v m.stock = stockOf s m.stock := by
    unfold stockOf
    rw [h.only .stocks (by decide)]
  exact {
    map := by rw [hrolls]; exact hs.map, isOpen := hs.isOpen, order := h.order, number := hs.number, copies := hs.copies
    plan := by rw [h.only .plans (by decide)]; exact hs.plan, planLegal := hs.planLegal, stock := hstock.trans hs.stock
    tariff := by rw [h.only .tariffs (by decide)]; exact hs.tariff, tariffLegal := hs.tariffLegal
    account := hs.account.congr haccounts, accountNumber := hs.accountNumber }

theorem addLabelWaiter_onlyChanges (st : St) (k : Nat) (s : State) : OnlyChanges [.composer] s (addLabelWaiter st k s) :=
  modComposer_onlyChanges _ s

/-- Settles O54. -/
theorem reservationIsWhole : Obligations.ReservationIsWhole := by
  refine ⟨fun s st roll q => reserve_mapClosed q, ?_, ?_⟩
  · intro s st m q i o steps stock t j a n hold hm hopen ho hn hc1 hc4 hplan hlegal hstock htariff htlegal ha hanum hsize hsum
    have h : Reservable s st m q i o steps stock t j a :=
      ⟨hm, hopen, ho, hn, ⟨hc1, hc4⟩, hplan, hlegal, hstock, htariff, htlegal, ha, hanum⟩
    obtain rfl : n = setSize steps o := hsize
    obtain rfl : hold = holdOf o steps t := hsum
    refine ⟨fun hlong => ?_, fun hlen => ⟨fun hfew => ?_, fun hroom => ⟨h.reserve_noHeader hlen hroom, fun hheader =>
      ⟨fun c => h.reserve_budget hlen hroom hheader, fun hfits => ⟨fun hfew => ?_, fun hslots => ?_⟩⟩⟩⟩⟩
    · exact h.reserve_tooManyFrames hlong
    · exact h.reserve_noRoom hlen hfew
    · exact ⟨_, h.reserve_fewSlots hlen hroom hheader hfits hfew, addLabelWaiter_onlyChanges _ _ s, rfl⟩
    · obtain ⟨u, recs, hx, hst⟩ := h.reserve_stands hlen hroom hheader hfits hslots
      refine ⟨u, recs, hx, hst.only, hst.others, hst.map, hst.numbers, hst.slots, hst.all, fun x y p hxp hy => ?_, hst.tied, hst.untied,
        hst.accounts, hst.orders, hst.count⟩
      obtain ⟨k, hk⟩ := hst.get x y p hxp hy
      exact ⟨_, hk, rfl, rfl, rfl, rfl, rfl, rfl⟩
  · intro s f e e' p p' indices st b m i o steps stock t j a n hold ⟨hl, hs, hbusy⟩ hi hpay hindices hres hnum hnum0 hp1 hp2 hcam hen hup
      ho hc hterm hstate hcheck hend hpost hleft hempty hm hopen hc1 hc4 hplan hlegal hstock htariff htlegal ha hanum hsize hsum
    obtain rfl : n = setSize steps o := hsize
    obtain rfl : hold = holdOf o steps t := hsum
    obtain ⟨x, hx, hxo, hxp⟩ := parseExpose_of_length (n := e) (n' := e') (p := p) (p' := p') hindices
    have hready : ReadyToTry s st m := ⟨hstate, hcheck, hpost, hempty, hm, hopen⟩
    have hxn : o.terms.number = x.order := hnum.symm.trans hxo.symm
    obtain ⟨v, q, htries, hqo, hqp, hqt⟩ := expose_tries hl hs hi (by rw [hpay]; exact hx)
      (by rw [← hxn, hxp]; omega) (exposeStation_of_enabled hcam hen) ho hxn hc hterm hres hready
    have hqn : o.terms.number = q.order := hxn.trans hqo.symm
    have hqp' : q.original = p.toNat * 256 + p'.toNat := hqp.trans hxp
    obtain ⟨hqstate, hqframes, -⟩ := htries.fresh
    obtain ⟨-, -, -, -, hcomposer, -, haccounts⟩ := htries.same
    have h : Reservable v st m q i { o with outstanding := o.outstanding + 1 } steps stock t j a := htries.reservable
      ⟨hm, hopen, ho, hqn, ⟨hc1, hc4⟩, hplan, hlegal, hstock, htariff, htlegal, ha, hanum⟩
    refine ⟨fun hrefused hroom => ?_, fun hlen hfew => ?_, fun hlen hroom hlabels => ?_,
      fun hlen hroom hheader hfits hslots hgate hbelow => ?_⟩
    · have hgoes : takeReservation st m.roll (reserve st m.roll q v)
          = endRequest st (if m.length < setSize steps o then .tooManyFrames else .budget) v := by
        rcases hrefused with hlong | ⟨hlen, hroom', hheader, c, hc, hclegal, hover⟩
        · rw [h.reserve_tooManyFrames hlong, if_pos hlong]
          rfl
        · rw [h.reserve_budget hlen hroom' hheader hc hclegal hover, if_neg (Nat.not_lt.mpr hlen)]
          rfl
      have := expose_ends htries hs hbusy hready hup hend hleft hqn hc ho.1 hroom hgoes
      rwa [hqt, ← hqn, hqp'] at this
    · obtain ⟨u, hexec, honly, hanswered, hothers, hstate', hhead, horders, hask⟩ := expose_unloads htries hs hbusy hup
        (h.reserve_noRoom hlen hfew)
      refine ⟨u, hexec, honly, hanswered, hothers, hstate', ?_, horders.trans htries.orders, hask⟩
      rw [hhead, Option.map_some, hqn, hqp', hqt, hqframes]
    · have hwaits : ∃ w, reserve st m.roll q v = (.labels, w) ∧ OnlyChanges [.composer] v w
          ∧ w.composer = (if m.header = none then s.composer else { s.composer with
              labelWaiters := s.composer.labelWaiters.filter (fun w => w.1 != st) ++ [(st, setSize steps o)] }) := by
        by_cases hheader : m.header = none
        · rw [if_pos hheader]
          exact ⟨v, h.reserve_noHeader hlen hroom hheader, .refl _ v, hcomposer⟩
        · rw [if_neg hheader, ← hcomposer]
          obtain ⟨hfew, hfits⟩ := hlabels.resolve_left hheader
          exact ⟨_, h.reserve_fewSlots hlen hroom (Option.isSome_iff_ne_none.mpr hheader) hfits (by rw [hcomposer]; exact hfew),
            addLabelWaiter_onlyChanges _ _ v, rfl⟩
      obtain ⟨w, hw, hwonly, hwcomposer⟩ := hwaits
      obtain ⟨u, hexec, honly, hanswered, hothers, hstate', hhead, hucomposer, horders⟩ := expose_waits htries hs hbusy hw hwonly
      refine ⟨u, hexec, honly, hanswered, hothers, hstate', ?_, hucomposer.trans hwcomposer, horders.trans htries.orders⟩
      rw [hhead, Option.map_some, hqn, hqp', hqt, hqframes]
    · obtain ⟨w, recs, hw, hst⟩ := h.reserve_stands hlen hroom hheader hfits (by rw [hcomposer]; exact hslots)
      obtain ⟨r, hr, hrnumber, hrstep, hrcopy, hrstate⟩ := hst.gate hlegal.1 hc1 hgate hbelow
      obtain ⟨y, hexec, honly, hanswered, hothers, hrolls, hdrives, horders, hacc, hheld, hruns⟩ :=
        expose_boundary htries hs hbusy hready hup hw hst rfl hr
      refine ⟨y, hexec, honly, hanswered, hothers, hrolls, ?_, ?_, ?_, ?_, hheld, fun hhold => ?_⟩
      · rw [hdrives.holds.head, Option.map_some, Request.reservedOn, hqn, hqp', hqt, hqstate]
        rfl
      · rw [horders, hst.orders, htries.orders, Vector.set_set]
        rfl
      · rw [hacc, hst.accounts, haccounts]
        rfl
      · rw [hdrives.holds.map, Option.map_some, RollMap.joined, List.length_append, hst.length]
        rfl
      · obtain ⟨hstate', hphase, hask⟩ := hruns hhold
        exact ⟨hstate', hphase, r, hdrives.gateRecord.trans hr, hrnumber, hrstep, hrcopy, hrstate, hask⟩

end Sys2Proof.Machine
end
